-- ==== Sys2Proof/Word.lean ====
section
/-! DEFINITION. The plain bit-vector types of the CV-20: a byte of a frame, a permission set, a watch mask. -/

namespace Sys2Proof

/-- One byte of a port frame or of a field loop frame (chapter 12, section 13.1). -/
abbrev Byte := BitVec 8

/-- A permission set: request kind `k` is in the set when bit `k - 1` is set (R177, section 13.1). -/
abbrev PermSet := BitVec 40

/-- A watch mask: each event at the bit numbered by its watch event code (R151, section 13.1). -/
abbrev WatchMask := BitVec 5

end Sys2Proof
end

