-- ==== Sys2Proof/Syntax.lean ====
section
/-! DEFINITION. The commands of the CV-20: one constructor for each row of spec/opcode_table.json.

A request row names the port whose outstanding request is taken: the request itself (its tag, kind and body) came over
the line byte by byte and stands in that port's receiver.  A row for a module event, a command outcome or a READ_STATE
report names nothing: the item is the one that waits at the head of the field engine's hand-over list.  The rows for the
line itself carry what the line brings: one byte, one module reply, the end of a write, the straps read at a start. -/

namespace Sys2Proof

/-- The three command ports (R173). -/
inductive PortId where
  | cp0 | cp1 | cp2
  deriving DecidableEq, Repr, Inhabited

/-- The two port rates that the PRATE strap selects between (R173). -/
inductive PortRate where
  | baud57600 | baud115200
  deriving DecidableEq, Repr, Inhabited

/-- The two loop rates that the LRATE strap selects between (chapter 6 introduction, R136). -/
inductive LoopRate where
  | baud38400 | baud115200
  deriving DecidableEq, Repr, Inhabited

/-- The strap inputs as they stand when a start takes effect: CLEAR (R192), PRATE (R185) and LRATE (R136). -/
structure Straps where
  clearClosed : Bool
  portRate : PortRate
  loopRate : LoopRate
  deriving DecidableEq, Repr, Inhabited

/-- The commands: the part's steps, each whole and indivisible (95_what_each_step_holds.md). -/
inductive Instr where
  /-- ISSUE_BAND (R9): Granted ISSUE_BAND request checks and creates a new band record, optionally joining a group and reserving an assigned locker. -/
  | issueBand (p : PortId)
  /-- ADD_TIME (R102): Granted ADD_TIME raises paid_minutes, clamped to 720, and returns an OWING or CLEARED visitor to ACTIVE. -/
  | addTime (p : PortId)
  /-- REISSUE_BAND (R19): Granted REISSUE_BAND copies the visit into a new slot, revokes the old record and moves every reference to the new slot. -/
  | reissueBand (p : PortId)
  /-- REVOKE_BAND (R23): Granted REVOKE_BAND makes a band REVOKED without a replacement and unlatches any cabin it occupies. -/
  | revokeBand (p : PortId)
  /-- DISCARD_BAND (R25): Granted DISCARD_BAND empties a REVOKED record that has no next link, no lockers and no members. -/
  | discardBand (p : PortId)
  /-- QUERY_BAND (R12): Granted QUERY_BAND replies with the band record named by serial or slot. -/
  | queryBand (p : PortId)
  /-- CLOSE_DAY (R26): Granted CLOSE_DAY empties every visitor record and frees or orphans the lockers they held. -/
  | closeDay (p : PortId)
  /-- SETTLE (R94): Granted SETTLE disposes of a band by state and holdings, computing the overstay charge for an ACTIVE or OWING visitor. -/
  | settle (p : PortId)
  /-- PAY (R99): Granted PAY adds money to paid_cents, clearing or reducing an owed sum or recording a prepayment. -/
  | pay (p : PortId)
  /-- COLLECT (R103): Granted COLLECT empties a CLEARED band record and tears down its reissue chain. -/
  | collect (p : PortId)
  /-- ASSIGN_LOCKER (R59): Granted ASSIGN_LOCKER checks rights and binds a named or zone-chosen FREE locker as RESERVED. -/
  | assignLocker (p : PortId)
  /-- OPEN_LOCKER (R61): Granted OPEN_LOCKER queues an UNLATCH with master for a LOCKED, FAULT or ORPHANED locker. -/
  | openLocker (p : PortId)
  /-- RELEASE_LOCKER (R62): Granted RELEASE_LOCKER unbinds a locker, queuing an UNLATCH with release when the latch may be engaged. -/
  | releaseLocker (p : PortId)
  /-- REARM_LOCKER (R62): Granted REARM_LOCKER queues a LATCH for a FORCED locker whose door is not open. -/
  | rearmLocker (p : PortId)
  /-- SET_LOCKER_SERVICE (R63): Granted SET_LOCKER_SERVICE moves a locker between FREE and OUT_OF_SERVICE. -/
  | setLockerService (p : PortId)
  /-- QUERY_LOCKER (R64): Granted QUERY_LOCKER replies with the locker record. -/
  | queryLocker (p : PortId)
  /-- OPEN_CABIN (R81): Granted OPEN_CABIN queues an UNLATCH for an OCCUPIED cabin or a VACANT cabin whose latch may be engaged. -/
  | openCabin (p : PortId)
  /-- SET_CABIN_SERVICE (R82): Granted SET_CABIN_SERVICE moves a cabin between VACANT and OUT_OF_SERVICE. -/
  | setCabinService (p : PortId)
  /-- QUERY_CABIN (R82): Granted QUERY_CABIN replies with the cabin record. -/
  | queryCabin (p : PortId)
  /-- SET_ZONE (R35): Granted SET_ZONE checks and writes one whole zone record and clears its used flag. -/
  | setZone (p : PortId)
  /-- QUERY_ZONE (R36): Granted QUERY_ZONE replies with one zone record including its used flag. -/
  | queryZone (p : PortId)
  /-- SET_TARIFF (R88): Granted SET_TARIFF writes the clamped step, rate and cap of one class of one bank. -/
  | setTariff (p : PortId)
  /-- SELECT_BANK (R89): Granted SELECT_BANK makes bank A or B the selected bank. -/
  | selectBank (p : PortId)
  /-- SET_WATCH (R155): The watch unit checks and replaces one watch slot whole, resetting its hits and last hit. -/
  | setWatch (p : PortId)
  /-- CLEAR_WATCH (R156): The watch unit clears the enabled field of one watch slot. -/
  | clearWatch (p : PortId)
  /-- QUERY_WATCH (R156): The watch unit replies with every field of one watch slot. -/
  | queryWatch (p : PortId)
  /-- READ_NOTICE (R165): The notice unit removes and returns the head of the carrying port's queue, or replies NONE. -/
  | readNotice (p : PortId)
  /-- ACK_ALARM (R170): The notice unit removes one listed alarm or all of them and updates the ALARM line. -/
  | ackAlarm (p : PortId)
  /-- SET_THRESHOLD (R166): Sets the notice threshold of the carrying port. -/
  | setThreshold (p : PortId)
  /-- SET_NOTICE_PRIORITY (R161): Replaces the held priority of one non-alarm notice kind. -/
  | setNoticePriority (p : PortId)
  /-- SET_MODULES (R112): Granted SET_MODULES configures or unconfigures a module, or replaces its hold_on_force and cabin kinds. -/
  | setModules (p : PortId)
  /-- HOLD_MODULE (R129): The field engine sets the held flag of a configured module. -/
  | holdModule (p : PortId)
  /-- RELEASE_MODULE (R129): The field engine clears the held flag of a configured module. -/
  | releaseModule (p : PortId)
  /-- QUERY_MODULE (R130): The field engine replies with a module record and its queue and exchange status. -/
  | queryModule (p : PortId)
  /-- SET_PORT (R182): Replaces the rank and permission set of CP0 or CP1, emptying its notice queue if READ_NOTICE is removed. -/
  | setPort (p : PortId)
  /-- SET_WINDOWS (R195): Granted SET_WINDOWS clamps and replaces the nine window values and the sweep step rate. -/
  | setWindows (p : PortId)
  /-- SAVE_SETTINGS (R194): Snapshots the working settings and begins writing them to the settings store, or refuses SAVE_BUSY. -/
  | saveSettings (p : PortId)
  /-- SAVE_COMPLETE (R194): The store reports the end of the write; the save-in-progress flag clears and OK or STORE_FAULT becomes ready. -/
  | saveComplete (ok : Bool)
  /-- SET_CLOCK (R187): Granted SET_CLOCK sets the day clock and clock_valid when no visitor record is in use. -/
  | setClock (p : PortId)
  /-- TRIM_CLOCK (R188): The supply and clock unit moves the day clock by a clamped trim of up to 60 s. -/
  | trimClock (p : PortId)
  /-- STATUS (R183): The port receiver replies with clock, supply, port, alarm, sweep and field status and clears its overflow flag. -/
  | status (p : PortId)
  /-- PORT_FRAME (R175): A completed frame on a command port is checked for validity, busy, permission and rank, then handed to its block. -/
  | portFrame (p : PortId)
  /-- FRAME_GAP_TIMEOUT (R174): More than 20 ms between two bytes of a frame drops it and returns the port to IDLE. -/
  | frameGapTimeout (p : PortId)
  /-- REPLY_SENT (R176): The last byte of a reply leaves the line; the driver enable and request-outstanding flag clear and any waiting reply starts. -/
  | replySent (p : PortId)
  /-- PRESENT (R6): A PRESENT event passes the arbiter; watches are consulted, the serial is looked up and the presentation is decided. -/
  | present
  /-- HELD_PRESENT_REFUSED (R120): A PRESENT event from a held module is refused RED by the field engine without reaching the binding engine. -/
  | heldPresentRefused
  /-- DOOR_OPEN (R53): A DOOR_OPEN event records the door and moves a locker to OPEN or FORCED, or a cabin as R78 gives. -/
  | doorOpen
  /-- DOOR_CLOSED (R54): A DOOR_CLOSED event records the door and moves an OPEN locker to CLOSING. -/
  | doorClosed
  /-- HANDLE (R77): A HANDLE event sets the latch FREE and empties an occupied, latching or unlatching cabin. -/
  | handle
  /-- LATCH_DONE (R48): A LATCH DONE outcome makes a LATCHING locker LOCKED or ORPHANED. -/
  | latchDone
  /-- LATCH_DOOR_OPEN (R49): A LATCH DOOR_OPEN outcome returns the locker to FREE, RESERVED, FORCED or OPEN by its flags and origin. -/
  | latchDoorOpen
  /-- LATCH_JAMMED (R50): A LATCH JAMMED outcome puts the locker in FAULT and raises LOCKER_FAULT. -/
  | latchJammed
  /-- LATCH_FAILED (R50): A LATCH FAILED outcome puts the locker in FAULT and raises LOCKER_FAULT. -/
  | latchFailed
  /-- UNLATCH_DONE (R51): An UNLATCH DONE outcome makes the locker FREE, OUT_OF_SERVICE, OPEN or RELEASED. -/
  | unlatchDone
  /-- UNLATCH_JAMMED (R52): An UNLATCH JAMMED outcome returns the locker to LOCKED, ORPHANED, OUT_OF_SERVICE or FORCED with LOCKER_FAULT. -/
  | unlatchJammed
  /-- UNLATCH_FAILED (R52): An UNLATCH FAILED outcome returns the locker as for a jam, leaving the latch field as it stood. -/
  | unlatchFailed
  /-- READ_STATE_REPORT (R131): A READ_STATE report passes the arbiter and brings every position of the module into agreement. -/
  | readStateReport
  /-- SWEEP_STEP (R139): One step interval after the last grant, the sweep's step at the present index is granted and the index advances. -/
  | sweepStep
  /-- SWEEP_ROUND_COMPLETE (R139): The remaining count reaches 0 and the index and count are reloaded for a new round. -/
  | sweepRoundComplete
  /-- OPEN_WINDOW_EXPIRY (R56): A RELEASED locker whose open window has expired is relatched. -/
  | openWindowExpiry
  /-- RELOCK_WINDOW_EXPIRY (R57): A CLOSING locker whose relock window has expired is relatched if master, otherwise unbound and FREE. -/
  | relockWindowExpiry
  /-- RESERVATION_LAPSED (R58): A RESERVED locker whose reservation window has expired is unbound and RESERVATION_LAPSED raised. -/
  | reservationLapsed
  /-- CABIN_OVERHOLD (R79): An occupation past its kind's limit, or twice it, raises overhold stage 1 or the alarm of stage 2. -/
  | cabinOverhold
  /-- LEAVE_LAPSED (R105): A CLEARED visitor whose leave window has expired returns to ACTIVE and LEAVE_LAPSED is raised. -/
  | leaveLapsed
  /-- LONG_STAY (R145): A visit that has run 43,200 s has its long_stay flag set and LONG_STAY raised. -/
  | longStay
  /-- POLL (R114): A poll turn sends a POLL carrying pending indications and the show flag to a due module. -/
  | poll
  /-- READ_STATE (R116): A poll turn at a module with resync pending sends a READ_STATE. -/
  | readState
  /-- LATCH (R126): A command turn takes a LATCH entry from the head of the field command queue and sends it. -/
  | latch
  /-- UNLATCH (R126): A command turn takes an UNLATCH entry from the head of the field command queue and sends it. -/
  | unlatch
  /-- HOLD_SHOW (R117): The pending HOLD_SHOW broadcast is sent to address 0 without reply. -/
  | holdShow
  /-- CLEAR_SHOW (R117): The pending CLEAR_SHOW broadcast is sent to address 0 without reply. -/
  | clearShow
  /-- MODULE_REPLY (R113): A module reply arrives within 10 ms and is checked; a valid one ends the exchange and its items join the hand-over list. -/
  | moduleReply (bytes : List Byte)
  /-- ATTEMPT_TIMEOUT (R113): No valid reply within 10 ms fails the attempt; it is retried or the exchange ends FAILED. -/
  | attemptTimeout
  /-- FIELD_START_DELAY (R136): One second after a start the field engine may begin exchanges. -/
  | fieldStartDelay
  /-- NOTICE_TAKEN (R162): The notice unit sets a notice's priority and places copies in the queues of the ports it is routed to. -/
  | noticeTaken
  /-- ESCALATION_TICK (R168): Once each second the countdown of every unescalated listed alarm falls by 1. -/
  | escalationTick
  /-- ALARM_ESCALATED (R168): An alarm record's countdown reaches 0, it becomes escalated and ALARM is asserted. -/
  | alarmEscalated
  /-- DAY_CLOCK_TICK (R186): The day clock advances by one second, wrapping from 86,399 to 0. -/
  | dayClockTick
  /-- SUPPLY_HOLD (R190): VSUP falls below 20.5 V; the supply enters HOLD, POWER_WARN is raised and HOLD_SHOW becomes pending. -/
  | supplyHold
  /-- RESTORE_TIMER_START (R189): VSUP rises above 21.5 V in HOLD or DOWN and the restore timer starts, or restarts after a dip. -/
  | restoreTimerStart
  /-- SUPPLY_NORMAL (R190): The restore timer completes in HOLD; the supply returns to NORMAL and CLEAR_SHOW becomes pending. -/
  | supplyNormal
  /-- SUPPLY_DOWN (R191): VSUP falls below 18.0 V; ports, field engine, sweep and notice unit stop and LPEN is dropped. -/
  | supplyDown
  /-- RETENTION_LOST (R192): VBAK below 2.4 V while DOWN clears the retention flag and the held tables are lost. -/
  | retentionLost
  /-- RETURN_FROM_DOWN (R192): The restore timer completes in DOWN and a warm or cold start takes effect by the retention flag. -/
  | returnFromDown (straps : Straps)
  /-- RESET_ASSERTED (R192): While RESET is held the ports, field engine, sweep and notice unit stand stopped. -/
  | resetAsserted
  /-- RESET_RELEASED (R192): The end of the RESET pulse takes a warm or cold start by the CLEAR strap. -/
  | resetReleased (straps : Straps)
  /-- PORT_BYTE_RECEIVED (R174): A byte arrives at a command port. In IDLE a sync byte begins a frame and the port enters RECEIVING. In RECEIVING a length byte above 64 drops the frame at that byte. -/
  | portByteReceived (p : PortId) (b : Byte)
  /-- RESTORE_TIMER_RESTARTED (R189): VSUP falls to 21.5 V or below in HOLD or DOWN before the restore timer has run 2 continuous seconds, and the timer is restarted without a change of supply state. -/
  | restoreTimerRestarted
  deriving DecidableEq, Repr

end Sys2Proof
end

