-- ==== Sys2Proof/Decode.lean ====
section
/-! DEFINITION. The command a table word spells.  The CV-20 is a block: its opcode table gives no row any bits, so no word
spells a command. -/

namespace Sys2Proof

/-- The command that a word spells by the table's bits; no row of the table gives bits (assumption 19). -/
def decodeTableWord (_nbits _w : Nat) : Option Instr := none

end Sys2Proof
end

