-- ==== Sys2Proof/Machine/Bytes.lean ====
section
/-! DEFINITION. Bytes of the frames: multi-byte numbers high byte first (section 13.1), flags bytes, CRC-16 (R174) and CRC-8
(section 13.4). -/

namespace Sys2Proof.Machine

/-- `n` in `width` bytes, the high byte first (section 13.1). -/
def bytesOf : Nat → Nat → List Byte
  | 0, _ => []
  | w + 1, n => BitVec.ofNat 8 (n / 256 ^ w) :: bytesOf w n

/-- The number that bytes spell, the high byte first (section 13.1). -/
def natOf (bytes : List Byte) : Nat := bytes.foldl (fun acc b => acc * 256 + b.toNat) 0

/-- The number in the `len` bytes from offset `off` of a body. -/
def fieldAt (bytes : List Byte) (off len : Nat) : Nat := natOf ((bytes.drop off).take len)

/-- One byte, as a number. -/
def byteAt (bytes : List Byte) (off : Nat) : Nat := fieldAt bytes off 1

/-- A yes-or-no byte: 0 for no, 1 for yes, no other code (section 13.1). -/
def yesNoOf : Nat → Option Bool
  | 0 => some false
  | 1 => some true
  | _ => none

/-- A yes-or-no field as a number. -/
def yesNo (b : Bool) : Nat := if b then 1 else 0

/-- A flags byte from its bits, bit 0 first (section 13.1). -/
def flagsByte (bits : List Bool) : Byte := BitVec.ofNat 8 (bits.foldr (fun b acc => yesNo b + 2 * acc) 0)

/-- The five bytes of a permission set: kind `k` at bit `(k - 1) mod 8` of byte `(k - 1) div 8` (section 13.1). -/
def permBytes (set : PermSet) : List Byte := (List.range 5).map fun i => set.extractLsb' (8 * i) 8

/-- The permission set that five bytes spell. -/
def permOf (bytes : List Byte) : PermSet := BitVec.ofNat 40 (natOf bytes.reverse)

/-- A signed byte in two's complement (section 13.1). -/
def signedOf (b : Nat) : Int := if b < 128 then (b : Int) else (b : Int) - 256

/-- One bit of the CRC-16 with polynomial x^16 + x^12 + x^5 + 1 and no reflection (R174). -/
def crc16Bit (crc : BitVec 16) : BitVec 16 := if crc.msb then (crc <<< 1) ^^^ 0x1021#16 else crc <<< 1

/-- The CRC-16 taken on by one byte. -/
def crc16Byte (crc : BitVec 16) (b : Byte) : BitVec 16 :=
  Nat.repeat crc16Bit 8 (crc ^^^ (b.setWidth 16 <<< 8))

/-- The CRC-16 of a port frame's bytes, from all ones (R174, Table 13-1). -/
def crc16 (bytes : List Byte) : BitVec 16 := bytes.foldl crc16Byte 0xFFFF#16

/-- One bit of the CRC-8 with polynomial x^8 + x^2 + x + 1 and no reflection (section 13.4). -/
def crc8Bit (crc : BitVec 8) : BitVec 8 := if crc.msb then (crc <<< 1) ^^^ 0x07#8 else crc <<< 1

/-- The CRC-8 of a field loop frame's bytes, from zero (section 13.4). -/
def crc8 (bytes : List Byte) : BitVec 8 := bytes.foldl (fun crc b => Nat.repeat crc8Bit 8 (crc ^^^ b)) 0#8

end Sys2Proof.Machine
end

