-- ==== Sys2Proof/Machine/Records.lean ====
section
/-! DEFINITION. The records the CV-20 keeps: bands, zones, lockers, cabins, tariffs, modules, watches, notices, alarms,
requests and replies, settings; and the settings' factory defaults.

Counts, numbers, times and money are `Nat` (the spec compares and adds them exactly); a field that is present only in
some states is an argument of that state's constructor, or an `Option`. -/

namespace Sys2Proof.Machine

/-! ### Places -/

/-- A place a record or a notice names: a locker number 1..1,024, a cabin number 1..64, or a module address 1..144
(Table 9-1). -/
inductive Place where
  | locker (n : Nat)
  | cabin (c : Nat)
  | station (addr : Nat)
  deriving DecidableEq, Repr, Inhabited

/-- A band's most recent presentation: the locker or cabin and the day-clock time (Table 2-1). -/
structure LastPlace where
  place : Place
  time : Nat
  deriving DecidableEq, Repr, Inhabited

/-! ### Bands (chapter 2) -/

/-- The two tariff banks (R87). -/
inductive Bank where
  | a | b
  deriving DecidableEq, Repr, Inhabited

/-- The tariff captured at issue: bank and class 0..7 (R10). -/
structure Tariff where
  bank : Bank
  cls : Nat
  deriving DecidableEq, Repr, Inhabited

/-- The fields of Table 2-1 that a VISITOR record carries and a STAFF record does not (R8). -/
structure Account where
  paidMinutes : Nat
  tariff : Tariff
  paidCents : Nat
  longStay : Bool
  deriving DecidableEq, Repr, Inhabited

/-- The two kinds of band (R7): a visitor with its account, or a staff band without one. -/
inductive BandKind where
  | visitor (account : Account)
  | staff
  deriving DecidableEq, Repr, Inhabited

/-- The four states of a record in use (Table 2-1, Table 5-1): `owing` carries owed_cents, `cleared` carries since.  The
fifth state, EMPTY, is a slot that holds no record. -/
inductive BandState where
  | active
  | owing (cents : Nat)
  | cleared (since : Nat)
  | revoked
  deriving DecidableEq, Repr, Inhabited

/-- A band's place in a group (R14): a leader with its members in joining order, or a member with its leader's slot. -/
inductive Role where
  | none
  | leader (members : List Nat)
  | member (leader : Nat)
  deriving DecidableEq, Repr, Inhabited

/-- A band record in use (Table 2-1). -/
structure Band where
  state : BandState
  kind : BandKind
  rank : Nat
  serial : Nat
  entry : Nat
  lockers : List Nat
  cabin : Option Nat
  role : Role
  previous : Option Nat
  next : Option Nat
  lastPlace : Option LastPlace
  deriving DecidableEq, Repr, Inhabited

/-! ### Zones (section 3.1) -/

/-- The direction in which a free locker is picked for an assignment by zone (Table 3-1). -/
inductive ZoneOrder where
  | lowFirst | highFirst
  deriving DecidableEq, Repr, Inhabited

/-- A zone record (Table 3-1) but for its used flag, which is no setting and stands in `Engine.zoneUsed`. -/
structure Zone where
  present : Bool
  first : Nat
  count : Nat
  rank : Nat
  groupOnly : Bool
  order : ZoneOrder
  deriving DecidableEq, Repr, Inhabited

/-! ### Lockers (section 3.2) and cabins (section 4.1) -/

/-- Door position as last reported (Tables 3-2, 4-1, 6-2). -/
inductive Door where
  | opened | closed | unknown
  deriving DecidableEq, Repr, Inhabited

/-- Latch position as last reported or commanded (Tables 3-2, 4-1, 6-2). -/
inductive Latch where
  | engaged | free | unknown
  deriving DecidableEq, Repr, Inhabited

/-- The thirteen locker states of Table 3-3, in its order. -/
inductive LockerState where
  | unfitted | free | reserved | latching | locked | unlatching | released | opened | closing | fault | forced
  | orphaned | outOfService
  deriving DecidableEq, Repr, Inhabited

/-- A locker record (Table 3-2). -/
structure Locker where
  state : LockerState
  holder : Option Nat
  since : Nat
  fresh : Bool
  master : Bool
  release : Bool
  origin : Option LockerState
  door : Door
  latch : Latch
  deriving DecidableEq, Repr, Inhabited

/-- The three kinds of cabin (R71). -/
inductive CabinKind where
  | single | family | staff
  deriving DecidableEq, Repr, Inhabited

/-- The six cabin states of Table 4-2, in its order. -/
inductive CabinState where
  | unfitted | vacant | latching | occupied | unlatching | outOfService
  deriving DecidableEq, Repr, Inhabited

/-- The two actions of a field command (R125). -/
inductive Action where
  | latch | unlatch
  deriving DecidableEq, Repr, Inhabited

/-- A cabin record (Table 4-1) but for its kind, which is a working setting (R71) and stands in `Settings.cabinKinds`. -/
structure Cabin where
  state : CabinState
  occupant : Option Nat
  since : Nat
  stage : Fin 3
  command : Option Action
  door : Door
  latch : Latch
  deriving DecidableEq, Repr, Inhabited

/-! ### Notices and alarms (chapter 9) -/

/-- The nineteen notice kinds of Table 9-2, in its order. -/
inductive NoticeKind where
  | unknownPresented | leaveLapsed | reservationLapsed | moduleBack | masterOpen | longStay | cabinOverhold
  | powerRestored | cabinReleasedByPower | lockerFault | moduleSilent | orphanFound | revokedPresented | powerWarn
  | settingsLost | watchHit | lockerForced | cabinForced | cabinOverholdLong
  deriving DecidableEq, Repr, Inhabited

/-- The five events reported to the watch unit (Table 8-2), in the order of their codes. -/
inductive WatchEvent where
  | presented | refused | latched | unlatched | doorOpened
  deriving DecidableEq, Repr, Inhabited

/-- What a WATCH_HIT carries besides the common fields: the watch number and the event (its extra value, Table 9-1) and
the watch's priority (R154, R160). -/
structure HitExtra where
  watch : Nat
  event : WatchEvent
  priority : Nat
  deriving DecidableEq, Repr, Inhabited

/-- A notice as the raising block hands it to the notice unit: without a priority (R159). -/
structure Raised where
  kind : NoticeKind
  place : Option Place
  serial : Option Nat
  time : Nat
  hit : Option HitExtra
  deriving DecidableEq, Repr, Inhabited

/-- A notice record in a port queue: as raised, with the priority it was given as it was taken (Table 9-1, R160). -/
structure Notice where
  body : Raised
  priority : Nat
  deriving DecidableEq, Repr, Inhabited

/-- A record of the alarm list (R167). -/
structure Alarm where
  kind : NoticeKind
  place : Option Place
  raised : Nat
  countdown : Nat
  escalated : Bool
  deriving DecidableEq, Repr, Inhabited

/-! ### Watches (section 8.1) -/

/-- The kind of a PLACE subject (Table 8-1). -/
inductive PlaceKind where
  | locker | cabin
  deriving DecidableEq, Repr, Inhabited

/-- A watch's subject: a run of serials, or a run of lockers or of cabins (Table 8-1). -/
inductive Subject where
  | band (first count : Nat)
  | places (kind : PlaceKind) (first last : Nat)
  deriving DecidableEq, Repr, Inhabited

/-- The most recent match of a watch (Table 8-1). -/
structure LastHit where
  place : Place
  event : WatchEvent
  serial : Option Nat
  time : Nat
  deriving DecidableEq, Repr, Inhabited

/-- A watch slot (Table 8-1). -/
structure Watch where
  enabled : Bool
  subject : Subject
  mask : WatchMask
  priority : Nat
  stop : Bool
  hits : Nat
  lastHit : Option LastHit
  deriving DecidableEq, Repr, Inhabited

/-! ### The field loop (chapter 6) -/

/-- The signal a module shows on a reader (chapter 1, section 1.5; Table 6-2). -/
inductive Indication where
  | green | red | amber
  deriving DecidableEq, Repr, Inhabited

/-- The per-position fields of a module record (Table 6-2). -/
structure Position where
  latch : Latch
  door : Door
  shown : Option Indication
  deriving DecidableEq, Repr, Inhabited

/-- A module record (Table 6-2) but for configured and hold_on_force, which are working settings and stand in
`Settings.modules`.  Eight positions are held for every module; a cabin module uses the first four. -/
structure Module where
  silent : Bool
  held : Bool
  failures : Nat
  resync : Bool
  coldRead : Bool
  positions : Vector Position 8
  deriving DecidableEq, Repr, Inhabited

/-- An entry of the field command queue (R125). -/
structure Command where
  addr : Nat
  pos : Nat
  action : Action
  target : Place
  deriving DecidableEq, Repr, Inhabited

/-- The result of a latch or unlatch exchange (chapter 1, section 1.5; R115). -/
inductive CommandResult where
  | done | doorOpen | jammed | failed
  deriving DecidableEq, Repr, Inhabited

/-- An event of a module's buffer (R118). -/
inductive Event where
  | present (pos serial : Nat)
  | doorOpen (pos : Nat)
  | doorClosed (pos : Nat)
  | handle (pos : Nat)
  deriving DecidableEq, Repr, Inhabited

/-- What a READ_STATE reply says of one position (R116): is the latch engaged, is the door open. -/
structure Reading where
  engaged : Bool
  doorOpen : Bool
  deriving DecidableEq, Repr, Inhabited

/-- An item of the hand-over list (R119): an event, a command outcome, or a READ_STATE report with the module's cold read
flag. -/
inductive HandItem where
  | event (addr : Nat) (e : Event)
  | outcome (cmd : Command) (result : CommandResult)
  | report (addr : Nat) (readings : List Reading) (cold : Bool)
  deriving DecidableEq, Repr, Inhabited

/-- The kind of the exchange in progress (R113); a command exchange keeps its queue entry. -/
inductive ExchangeKind where
  | poll
  | readState
  | command (cmd : Command)
  deriving DecidableEq, Repr, Inhabited

/-- The exchange in progress (R113): kind, module address, attempt number 1..3, and the request frame, which every attempt
sends again.  `renewed` lists the positions given a new indication since the POLL was formed (R114). -/
structure Exchange where
  kind : ExchangeKind
  addr : Nat
  attempt : Nat
  frame : List Byte
  renewed : List Nat
  deriving DecidableEq, Repr, Inhabited

/-- A pending broadcast that is not none (R117). -/
inductive Show where
  | hold | clear
  deriving DecidableEq, Repr, Inhabited

/-- The kind of the last turn, which the alternation of R124 reads. -/
inductive Turn where
  | poll | command
  deriving DecidableEq, Repr, Inhabited

/-! ### Requests and replies (chapter 10) -/

/-- The forty request kinds of Table 10-2, in the order of their codes (Table 13-2). -/
inductive ReqKind where
  | issueBand
  | addTime
  | reissueBand
  | revokeBand
  | discardBand
  | queryBand
  | closeDay
  | settle
  | pay
  | collect
  | assignLocker
  | openLocker
  | releaseLocker
  | rearmLocker
  | setLockerService
  | queryLocker
  | openCabin
  | setCabinService
  | queryCabin
  | setZone
  | queryZone
  | setTariff
  | selectBank
  | setWatch
  | clearWatch
  | queryWatch
  | readNotice
  | ackAlarm
  | setThreshold
  | setNoticePriority
  | setModules
  | holdModule
  | releaseModule
  | queryModule
  | setPort
  | setWindows
  | saveSettings
  | setClock
  | trimClock
  | status
  deriving DecidableEq, Repr, Inhabited

/-- The thirty-two result codes of Table 10-3, in its order. -/
inductive ResultCode where
  | ok | clear | clearStaff | owes | none | busy | notPermitted | rank | unknownBand | alreadyIssued | tableFull
  | wrongState | outOfRange | zoneAbsent | zoneInUse | overlap | noFreeLocker | holdsLocker | inCabin | membersInside
  | groupFull | chainFull | revoked | lockerBusy | doorOpen | fieldBusy | moduleSilent | powerHold | clockNotSet
  | tableNotEmpty | saveBusy | storeFault
  deriving DecidableEq, Repr, Inhabited

/-- A request outstanding on a port (R176): the frame's tag, kind code and body, the port's rank as the request was handed
on (R178), and whether its block has taken it already. -/
structure Request where
  tag : Byte
  code : Byte
  body : List Byte
  rank : Nat
  taken : Bool
  deriving DecidableEq, Repr, Inhabited

/-- A reply that is ready (R180): the tag and kind code of its request, the result code and the data after it, and whether
it is the BUSY of a frame that is not the outstanding request (R176). -/
structure Reply where
  tag : Byte
  code : Byte
  result : ResultCode
  data : List Byte
  busy : Bool
  deriving DecidableEq, Repr, Inhabited

/-- A port receiver's link state (R173); RECEIVING carries the bytes after the sync byte, SENDING the reply on the line. -/
inductive Link where
  | idle
  | receiving (bytes : List Byte)
  | sending (reply : Reply)
  | stopped
  deriving DecidableEq, Repr, Inhabited

/-- A port receiver's own state: link state, request outstanding (its flag is `isSome`), replies ready and waiting. -/
structure Port where
  link : Link
  outstanding : Option Request
  ready : List Reply
  deriving DecidableEq, Repr, Inhabited

/-- One value for each command port. -/
structure PerPort (α : Type) where
  cp0 : α
  cp1 : α
  cp2 : α
  deriving DecidableEq, Repr, Inhabited

/-- The five requesters of the binding arbiter (R28). -/
inductive Requester where
  | port (p : PortId)
  | field
  | sweep
  deriving DecidableEq, Repr, Inhabited

/-- The supply states (R189). -/
inductive SupplyState where
  | normal | hold | down
  deriving DecidableEq, Repr, Inhabited

/-! ### Settings (Table 11-3) -/

/-- The three values of a tariff class (Table 5-2). -/
structure TariffClass where
  step : Nat
  rate : Nat
  cap : Nat
  deriving DecidableEq, Repr, Inhabited

/-- The nine values of Table 11-4, in its order. -/
structure Windows where
  opening : Nat
  relock : Nat
  reservation : Nat
  leave : Nat
  grace : Nat
  limitSingle : Nat
  limitFamily : Nat
  limitStaff : Nat
  escalation : Nat
  deriving DecidableEq, Repr, Inhabited

/-- The four sweep step rates (R141). -/
inductive StepRate where
  | r128 | r256 | r512 | r1024
  deriving DecidableEq, Repr, Inhabited

/-- The two module fields that are settings (R111). -/
structure ModuleSetting where
  configured : Bool
  holdOnForce : Bool
  deriving DecidableEq, Repr, Inhabited

/-- The rank and permission set of CP0 or of CP1 (R181). -/
structure PortSetting where
  rank : Nat
  permitted : PermSet
  deriving DecidableEq, Repr, Inhabited

/-- The settings of Table 11-3: the working settings, and what the settings store and a snapshot hold. -/
structure Settings where
  zones : Vector Zone 16
  bankA : Vector TariffClass 8
  bankB : Vector TariffClass 8
  selected : Bank
  windows : Windows
  stepRate : StepRate
  modules : Vector ModuleSetting 144
  cabinKinds : Vector CabinKind 64
  priorities : Vector Nat 15
  cp0 : PortSetting
  cp1 : PortSetting
  thresholds : PerPort Nat
  deriving DecidableEq, Repr, Inhabited

/-! ### Values at a cold start -/

/-- Zone 0 of the factory defaults (R36). -/
def Zone.factoryFirst : Zone :=
  { present := true, first := 1, count := 1024, rank := 3, groupOnly := false, order := .lowFirst }

/-- Zones 1 to 15 of the factory defaults (R36). -/
def Zone.factoryOther : Zone :=
  { present := false, first := 1, count := 1, rank := 3, groupOnly := false, order := .lowFirst }

/-- The default of every tariff class (Table 5-2). -/
def TariffClass.factory : TariffClass := { step := 900, rate := 0, cap := 0 }

/-- The factory windows (Table 11-4). -/
def Windows.factory : Windows :=
  { opening := 8, relock := 45, reservation := 900, leave := 600, grace := 300, limitSingle := 1200, limitFamily := 1800,
    limitStaff := 3600, escalation := 120 }

/-- The factory priorities of the fifteen notice kinds that hold one, in the order of Table 9-2. -/
def factoryPriorities : Vector Nat 15 := #v[1, 1, 2, 2, 3, 3, 4, 4, 4, 5, 5, 5, 6, 6, 6]

/-- The permission set that holds the kinds whose codes are listed (section 13.1). -/
def PermSet.ofCodes (codes : List Nat) : PermSet :=
  codes.foldl (fun set k => set ||| (1#40 <<< (k - 1))) 0#40

/-- CP0's factory permission set (Table 10-1): ISSUE_BAND, ADD_TIME, REISSUE_BAND, ASSIGN_LOCKER, PAY, SELECT_BANK,
QUERY_BAND, QUERY_LOCKER, QUERY_CABIN, QUERY_ZONE, QUERY_WATCH, QUERY_MODULE, READ_NOTICE, SET_THRESHOLD, STATUS. -/
def PermSet.factoryTill : PermSet :=
  PermSet.ofCodes [0x01, 0x02, 0x03, 0x0B, 0x09, 0x17, 0x06, 0x10, 0x13, 0x15, 0x1A, 0x22, 0x1B, 0x1D, 0x28]

/-- CP1's factory permission set (Table 10-1): SETTLE, COLLECT, QUERY_BAND, READ_NOTICE, SET_THRESHOLD, STATUS. -/
def PermSet.factoryGate : PermSet := PermSet.ofCodes [0x08, 0x0A, 0x06, 0x1B, 0x1D, 0x28]

/-- The factory defaults of Table 11-3. -/
def Settings.factory : Settings :=
  { zones := (Vector.replicate 16 Zone.factoryOther).set 0 Zone.factoryFirst,
    bankA := Vector.replicate 8 TariffClass.factory,
    bankB := Vector.replicate 8 TariffClass.factory,
    selected := .a,
    windows := Windows.factory,
    stepRate := .r512,
    modules := Vector.replicate 144 { configured := false, holdOnForce := false },
    cabinKinds := Vector.replicate 64 .single,
    priorities := factoryPriorities,
    cp0 := { rank := 2, permitted := PermSet.factoryTill },
    cp1 := { rank := 3, permitted := PermSet.factoryGate },
    thresholds := { cp0 := 3, cp1 := 3, cp2 := 3 } }

/-- A locker as a cold start or a SET_MODULES leaves it, in state FREE or UNFITTED, with since as given (R67, R112). -/
def Locker.blank (st : LockerState) (since : Nat) : Locker :=
  { state := st, holder := none, since := since, fresh := false, master := false, release := false, origin := none,
    door := .unknown, latch := .unknown }

/-- A cabin as a cold start leaves it, in state VACANT or UNFITTED, with since as given (R85). -/
def Cabin.blank (st : CabinState) (since : Nat) : Cabin :=
  { state := st, occupant := none, since := since, stage := 0, command := none, door := .unknown, latch := .unknown }

/-- A position of a module of which nothing has been reported yet (R112, R137). -/
def Position.blank : Position := { latch := .unknown, door := .unknown, shown := none }

/-- A module record after a cold start (R137): resync pending and cold read are set for a configured module only. -/
def Module.blank (configured : Bool) : Module :=
  { silent := false, held := false, failures := 0, resync := configured, coldRead := configured,
    positions := Vector.replicate 8 Position.blank }

/-- A watch slot after a cold start (R158). -/
def Watch.blank : Watch :=
  { enabled := false, subject := .band 1 1, mask := 0, priority := 0, stop := false, hits := 0, lastHit := none }

/-- A port receiver after a start: IDLE, nothing outstanding, no reply waiting (R185). -/
def Port.idle : Port := { link := .idle, outstanding := none, ready := [] }

end Sys2Proof.Machine
end

