-- ==== Sys2Proof/Machine/State.lean ====
section
/-! DEFINITION. The state of the CV-20 as plain data, block by block as Table 1-1 divides it, its value after reset, and the
reasons a step could stop. -/

namespace Sys2Proof.Machine

/-- The binding engine's tables (Table 1-1, section 2.10): band table and serial map, zone used flags, locker and cabin
tables, and the requester the binding arbiter granted last (R28). -/
structure Engine where
  bands : Vector (Option Band) 2048
  serialMap : List (Nat × Nat)
  zoneUsed : Vector Bool 16
  lockers : Vector Locker 1024
  cabins : Vector Cabin 64
  lastGranted : Requester
  deriving DecidableEq, Repr, Inhabited

/-- The notice unit (chapter 9): notices raised and not yet taken, the port queues and their overflow flags, the alarm
list and its overflow flag. -/
structure NoticeUnit where
  raised : List Raised
  queues : PerPort (List Notice)
  overflow : PerPort Bool
  alarms : List Alarm
  alarmOverflow : Bool
  deriving DecidableEq, Repr, Inhabited

/-- The field engine (chapter 6): module table, field command queue, poll position and cycle count, the kind of the last
turn, the exchange in progress, the hand-over list, whether its head PRESENT met a held module as it became the waiting
item (R120), the pending broadcast, the loop rate, the start delay, and the frame last driven on FLA/FLB. -/
structure FieldEngine where
  modules : Vector Module 144
  queue : List Command
  pollPosition : Nat
  cycle : Nat
  lastTurn : Turn
  exchange : Option Exchange
  handover : List HandItem
  waitingHeld : Bool
  broadcast : Option Show
  loopRate : LoopRate
  startDelay : Bool
  lineFrame : List Byte
  deriving DecidableEq, Repr, Inhabited

/-- The sweep (R138, R139): index 1..3,135, remaining count, and whether its next step waits for the binding arbiter; the
step rate is a working setting. -/
structure Sweep where
  index : Nat
  remaining : Nat
  waiting : Bool
  deriving DecidableEq, Repr, Inhabited

/-- A save in progress (R194): the snapshot being written, and the port whose SAVE_SETTINGS still waits for its reply. -/
structure Save where
  snapshot : Settings
  replyTo : Option PortId
  deriving DecidableEq, Repr, Inhabited

/-- The supply and clock unit (chapter 11): day clock and valid flag, supply state, retention flag, whether the restore
timer runs, whether RESET is held, LPEN, the settings store (none when invalid) and the save in progress. -/
structure SupplyUnit where
  clock : Nat
  clockValid : Bool
  supply : SupplyState
  retention : Bool
  restoring : Bool
  resetHeld : Bool
  lpen : Bool
  store : Option Settings
  save : Option Save
  deriving DecidableEq, Repr, Inhabited

/-- What stood where a request taken without a grant has written, or for TRIM_CLOCK the trim itself: a SET_WATCH's slot, the
enabled field a CLEAR_WATCH cleared, a SET_PORT's port, a SET_THRESHOLD's threshold, a SET_NOTICE_PRIORITY's priority, the
alarm list and its overflow flag as they would stand without an ACK_ALARM (which names what that removed, none for ALL), and
the held flag a HOLD_MODULE or RELEASE_MODULE wrote (R28, R158, R179, R185). -/
inductive Before where
  | watch (slot : Nat) (was : Watch)
  | enabled (slot : Nat) (was : Bool)
  | port (port : PortId) (was : PortSetting)
  | threshold (port : PortId) (was : Nat)
  | priority (kind : NoticeKind) (was : Nat)
  | alarms (which : Option (NoticeKind × Place)) (list : List Alarm) (overflow : Bool)
  | held (addr : Nat) (was : Bool)
  | clock (trim : Int)
  deriving DecidableEq, Repr, Inhabited

/-- The request outstanding on a port that wrote, and what stood there before it. -/
structure Undo where
  port : PortId
  before : Before
  deriving DecidableEq, Repr, Inhabited

/-- The whole state.  `undo` holds, the newest first, what the requests taken without a grant and still outstanding have written
over: a start drops such a request, which then has no effect (R158, R176, R185).  `pending` is the queue of commands waiting,
first in, first out.  `freeSeq` is the model's own: it numbers the free values (what the backup cell's tables hold once
retention is lost). -/
structure State where
  pending : List Instr
  settings : Settings
  engine : Engine
  watches : Vector Watch 4
  undo : List Undo
  ports : PerPort Port
  portRate : PortRate
  notices : NoticeUnit
  field : FieldEngine
  sweep : Sweep
  supply : SupplyUnit
  freeSeq : Nat
  deriving DecidableEq, Repr, Inhabited

/-- The reasons a step could fault.  There is none: the spec names no condition on which the part stops for good.  A bad
frame, a bad reply or a refused request is answered or dropped, and the part goes on. -/
inductive Fault where
  deriving DecidableEq, Repr

/-- The reasons a command could be refused a meaning. -/
inductive Refusal where
  /-- Raised only by `exec`'s arm of a command that has no meaning yet; no arm is left so.  Safe: nothing is claimed. -/
  | notModelled (mnemonic : String)
  deriving DecidableEq, Repr

/-- The binding engine's tables after the first cold start: nothing in circulation and, with no module configured, every
locker and cabin UNFITTED (R32, R36, R67, R85); the arbiter's cycle stands as if the sweep had been granted last. -/
def Engine.reset : Engine :=
  { bands := Vector.replicate 2048 none,
    serialMap := [],
    zoneUsed := Vector.replicate 16 false,
    lockers := Vector.replicate 1024 (Locker.blank .unfitted 0),
    cabins := Vector.replicate 64 (Cabin.blank .unfitted 0),
    lastGranted := .sweep }

/-- The field engine after a start in supply state NORMAL with no module configured (R137, R136). -/
def FieldEngine.reset : FieldEngine :=
  { modules := Vector.replicate 144 (Module.blank false),
    queue := [],
    pollPosition := 1,
    cycle := 0,
    lastTurn := .command,
    exchange := none,
    handover := [],
    waitingHeld := false,
    broadcast := some .clear,
    loopRate := .baud38400,
    startDelay := true,
    lineFrame := [] }

/-- The machine right after reset: power applied for the first time to a part whose backup cell held nothing and whose
store was never written, and the cold start on the supply's return has just taken effect (R189, R192, R193).  SETTINGS_LOST
stands raised and is the next notice to be taken. -/
def State.reset : State :=
  { pending := [],
    settings := Settings.factory,
    engine := Engine.reset,
    watches := Vector.replicate 4 Watch.blank,
    undo := [],
    ports := { cp0 := Port.idle, cp1 := Port.idle, cp2 := Port.idle },
    portRate := .baud57600,
    notices :=
      { raised := [{ kind := .settingsLost, place := none, serial := none, time := 0, hit := none }],
        queues := { cp0 := [], cp1 := [], cp2 := [] },
        overflow := { cp0 := false, cp1 := false, cp2 := false },
        alarms := [],
        alarmOverflow := false },
    field := FieldEngine.reset,
    sweep := { index := 1, remaining := 3135, waiting := false },
    supply :=
      { clock := 0, clockValid := false, supply := .normal, retention := true, restoring := false, resetHeld := false,
        lpen := true, store := none, save := none },
    freeSeq := 0 }

end Sys2Proof.Machine
end

