-- ==== Sys2Proof/Config.lean ====
section
/-! DEFINITION. What is fixed for the machine: capacities of Table 1-2, limits, and the free values.

The free values are opaque: nothing can be proved of them but what holds for every value. -/

namespace Sys2Proof.Config

/-- Seconds of a day: every elapsed time is taken modulo this (chapter 1, section 1.6; R186). -/
def day : Nat := 86400

/-- Usable band slots: 1 to this (R1). -/
def lastSlot : Nat := 2047

/-- The invalid serial above the valid ones; 0 is the other invalid one (chapter 1, section 1.5). -/
def serialTop : Nat := 4294967295

/-- Entries of the field command queue (R125). -/
def queueCapacity : Nat := 32

/-- Notices of a port queue (R163). -/
def noticeCapacity : Nat := 16

/-- Records of the alarm list (R167). -/
def alarmCapacity : Nat := 8

/-- Members of one group (R14). -/
def groupCapacity : Nat := 5

/-- Records of one reissue chain (R17). -/
def chainCapacity : Nat := 4

/-- Steps of one sweep round (R138). -/
def roundSteps : Nat := 3135

/-- Greatest paid time in minutes (Table 2-1). -/
def paidMinutesTop : Nat := 720

/-- The bound at which money saturates (R86). -/
def centsTop : Nat := 65535

/-- The elapsed time that makes a visit a long stay (R145). -/
def longStay : Nat := 43200

/-- The largest body of a request (Table 1-2, R174). -/
def bodyTop : Nat := 64

/-- What the backup cell holds of the binding engine's tables once it has fallen below 2.4 V: R192 says only that they are
lost.  FREE VALUE (assumption 5). -/
opaque lostEngine : Nat → Machine.Engine

/-- The same for the working settings.  FREE VALUE (assumption 5). -/
opaque lostSettings : Nat → Machine.Settings

/-- The same for the watch slots.  FREE VALUE (assumption 5). -/
opaque lostWatches : Nat → Vector Machine.Watch 4

/-- The same for the module table.  FREE VALUE (assumption 5). -/
opaque lostModules : Nat → Vector Machine.Module 144

/-- The same for the alarm list.  FREE VALUE (assumption 5). -/
opaque lostAlarms : Nat → List Machine.Alarm

/-- The same for the day clock.  FREE VALUE (assumption 5). -/
opaque lostClock : Nat → Nat

end Sys2Proof.Config
end

