-- ==== Sys2Proof/Machine/Tables.lean ====
section
/-! DEFINITION. Reading and writing the tables: the one place where a record is found by its number and put back. -/

namespace Sys2Proof.Machine

/-! ### Tables of records -/

/-- Entry `i` of a table, or `d` beyond its end. -/
def tableGet {α : Type} {n : Nat} (t : Vector α n) (d : α) (i : Nat) : α := (t[i]?).getD d

/-- The table with entry `i` replaced; beyond its end nothing changes. -/
def tableSet {α : Type} {n : Nat} (t : Vector α n) (i : Nat) (x : α) : Vector α n :=
  if h : i < n then t.set i x h else t

/-- Every entry `i` replaced by `f i` of it. -/
def tableMap {α β : Type} {n : Nat} (f : Nat → α → β) (t : Vector α n) : Vector β n :=
  ⟨⟨t.toList.zipIdx.map fun entry => f entry.2 entry.1⟩, by simp⟩

/-- Does some entry satisfy `f` at its index? -/
def tableAny {α : Type} {n : Nat} (f : Nat → α → Bool) (t : Vector α n) : Bool :=
  t.toList.zipIdx.any fun entry => f entry.2 entry.1

namespace PerPort

/-- One port's value. -/
def get {α : Type} (t : PerPort α) : PortId → α
  | .cp0 => t.cp0
  | .cp1 => t.cp1
  | .cp2 => t.cp2

/-- One port's value replaced. -/
def set {α : Type} (t : PerPort α) (p : PortId) (x : α) : PerPort α :=
  match p with
  | .cp0 => { t with cp0 := x }
  | .cp1 => { t with cp1 := x }
  | .cp2 => { t with cp2 := x }

/-- Every port's value replaced by `f` of it. -/
def map {α β : Type} (f : PortId → α → β) (t : PerPort α) : PerPort β :=
  { cp0 := f .cp0 t.cp0, cp1 := f .cp1 t.cp1, cp2 := f .cp2 t.cp2 }

end PerPort

namespace State

/-! ### Time and condition -/

/-- Now: the day clock (R27, R186). -/
def now (s : State) : Nat := s.supply.clock

/-- The ports, the field engine, the sweep and the notice unit work: the supply is not DOWN and RESET is not held
(R184, R135, R149, R171, R192). -/
def running (s : State) : Bool := s.supply.supply != .down && !s.supply.resetHeld

/-! ### The band table (R1, R2, R4) -/

/-- The record in a slot, or none for an EMPTY slot.  Slot 0 is the null band and reads EMPTY (R1). -/
def band (s : State) (slot : Nat) : Option Band := if slot = 0 then none else tableGet s.engine.bands none slot

/-- A slot given a record, or emptied.  The null band takes none (R1). -/
def setBand (s : State) (slot : Nat) (b : Option Band) : State :=
  if slot = 0 then s else { s with engine.bands := tableSet s.engine.bands slot b }

/-- The record in a slot changed by `f`; an EMPTY slot stays EMPTY. -/
def updBand (s : State) (slot : Nat) (f : Band → Band) : State :=
  match s.band slot with
  | some b => s.setBand slot (some (f b))
  | none => s

/-- The slot the serial map associates with a serial (R4). -/
def slotOf (s : State) (serial : Nat) : Option Nat := (s.engine.serialMap.find? fun e => e.1 == serial).map (·.2)

/-- The serial map with the entry `serial`, kept in rising order of serial. -/
def mapInsert (serial slot : Nat) : List (Nat × Nat) → List (Nat × Nat)
  | [] => [(serial, slot)]
  | e :: rest => if serial < e.1 then (serial, slot) :: e :: rest else e :: mapInsert serial slot rest

/-- An entry added to the serial map (R4). -/
def mapSerial (s : State) (serial slot : Nat) : State :=
  { s with engine.serialMap := mapInsert serial slot s.engine.serialMap }

/-- A serial removed from the serial map (R4). -/
def unmapSerial (s : State) (serial : Nat) : State :=
  { s with engine.serialMap := s.engine.serialMap.filter fun e => e.1 != serial }

/-- The lowest-numbered EMPTY slot from 1 to 2,047 (R3). -/
def freeSlot (s : State) : Option Nat :=
  (s.engine.bands.toList.zipIdx.find? fun entry => entry.1.isNone && entry.2 != 0).map (·.2)

/-! ### Lockers, cabins, zones -/

/-- Locker `n`, 1 to 1,024 (R37); beyond the table an UNFITTED one. -/
def locker (s : State) (n : Nat) : Locker :=
  if n = 0 then Locker.blank .unfitted 0 else tableGet s.engine.lockers (Locker.blank .unfitted 0) (n - 1)

/-- Locker `n` replaced; beyond the table nothing changes. -/
def setLocker (s : State) (n : Nat) (l : Locker) : State :=
  if n = 0 then s else { s with engine.lockers := tableSet s.engine.lockers (n - 1) l }

/-- Cabin `c`, 1 to 64 (R68); beyond the table an UNFITTED one. -/
def cabin (s : State) (c : Nat) : Cabin :=
  if c = 0 then Cabin.blank .unfitted 0 else tableGet s.engine.cabins (Cabin.blank .unfitted 0) (c - 1)

/-- Cabin `c` replaced; beyond the table nothing changes. -/
def setCabin (s : State) (c : Nat) (r : Cabin) : State :=
  if c = 0 then s else { s with engine.cabins := tableSet s.engine.cabins (c - 1) r }

/-- The kind of cabin `c`, a working setting (R71). -/
def cabinKind (s : State) (c : Nat) : CabinKind := tableGet s.settings.cabinKinds .single (c - 1)

/-- Zone record `z`, 0 to 15 (R33). -/
def zone (s : State) (z : Nat) : Zone := tableGet s.settings.zones Zone.factoryOther z

/-- Zone `z`'s used flag (R33). -/
def zoneUsed (s : State) (z : Nat) : Bool := tableGet s.engine.zoneUsed false z

/-- Zone `z`'s used flag set or cleared. -/
def setZoneUsed (s : State) (z : Nat) (used : Bool) : State :=
  { s with engine.zoneUsed := tableSet s.engine.zoneUsed z used }

/-- The class values of a tariff (R87). -/
def tariffClass (s : State) (t : Tariff) : TariffClass :=
  match t.bank with
  | .a => tableGet s.settings.bankA TariffClass.factory t.cls
  | .b => tableGet s.settings.bankB TariffClass.factory t.cls

/-! ### Modules, watches, ports -/

/-- The module record at an address 1 to 144 (R111). -/
def module (s : State) (addr : Nat) : Module :=
  if addr = 0 then Module.blank false else tableGet s.field.modules (Module.blank false) (addr - 1)

/-- The module record at an address replaced. -/
def setModule (s : State) (addr : Nat) (m : Module) : State :=
  if addr = 0 then s else { s with field.modules := tableSet s.field.modules (addr - 1) m }

/-- The settings of the module at an address: configured and hold_on_force (R111). -/
def moduleSetting (s : State) (addr : Nat) : ModuleSetting :=
  if addr = 0 then { configured := false, holdOnForce := false }
  else tableGet s.settings.modules { configured := false, holdOnForce := false } (addr - 1)

/-- Is a module configured at the address? -/
def configured (s : State) (addr : Nat) : Bool := (s.moduleSetting addr).configured

/-- Watch slot `i`, 0 to 3 (R151). -/
def watch (s : State) (i : Nat) : Watch := tableGet s.watches Watch.blank i

/-- Watch slot `i` replaced. -/
def setWatch (s : State) (i : Nat) (w : Watch) : State := { s with watches := tableSet s.watches i w }

/-- A port receiver. -/
def port (s : State) (p : PortId) : Port := s.ports.get p

/-- A port receiver replaced. -/
def setPort (s : State) (p : PortId) (r : Port) : State := { s with ports := s.ports.set p r }

/-- A port's rank; CP2's is 0 and no request changes it (R181). -/
def portRank (s : State) : PortId → Nat
  | .cp0 => s.settings.cp0.rank
  | .cp1 => s.settings.cp1.rank
  | .cp2 => 0

/-- A port's permission set; CP2 holds every kind and no request changes it (R181). -/
def portPermitted (s : State) : PortId → PermSet
  | .cp0 => s.settings.cp0.permitted
  | .cp1 => s.settings.cp1.permitted
  | .cp2 => BitVec.allOnes 40

/-- A port's notice queue (R163). -/
def queue (s : State) (p : PortId) : List Notice := s.notices.queues.get p

/-- A port's notice queue replaced. -/
def setQueue (s : State) (p : PortId) (q : List Notice) : State :=
  { s with notices.queues := s.notices.queues.set p q }

/-- A port's overflow flag set or cleared (R164). -/
def setOverflow (s : State) (p : PortId) (f : Bool) : State :=
  { s with notices.overflow := s.notices.overflow.set p f }

end State

/-! ### Where lockers, cabins and modules lie (R37, R68, R111) -/

/-- The module address and position of locker `n` (R37). -/
def lockerAt (n : Nat) : Nat × Nat := ((n - 1) / 8 + 1, (n - 1) % 8)

/-- The module address and position of cabin `c` (R68). -/
def cabinAt (c : Nat) : Nat × Nat := (128 + (c - 1) / 4 + 1, (c - 1) % 4)

/-- Is the address a cabin module's (Table 6-1)? -/
def isCabinModule (addr : Nat) : Bool := decide (129 ≤ addr) && decide (addr ≤ 144)

/-- How many positions the module at an address has (Table 6-1). -/
def positionCount (addr : Nat) : Nat := if isCabinModule addr then 4 else 8

/-- The locker or cabin that a module's position serves (R111). -/
def placeAt (addr pos : Nat) : Place :=
  if isCabinModule addr then .cabin (4 * (addr - 129) + pos + 1) else .locker (8 * (addr - 1) + pos + 1)

end Sys2Proof.Machine
end

