-- ==== Sys2Proof/Machine/Operands.lean ====
section
/-! DEFINITION. Every operand form: the request kinds with their codes, classes and owners (Tables 10-2, 13-2), and each request
body read from its bytes (R196).  A body whose length or whose enumerated or yes-or-no byte the layout does not allow
reads as `none`, which its block answers OUT_OF_RANGE. -/

namespace Sys2Proof.Machine

/-! ### Request kinds -/

/-- The forty kinds in the order of their codes. -/
def allKinds : List ReqKind :=
  [.issueBand, .addTime, .reissueBand, .revokeBand, .discardBand, .queryBand, .closeDay, .settle, .pay,
   .collect, .assignLocker, .openLocker, .releaseLocker, .rearmLocker, .setLockerService, .queryLocker,
   .openCabin, .setCabinService, .queryCabin, .setZone, .queryZone, .setTariff, .selectBank, .setWatch,
   .clearWatch, .queryWatch, .readNotice, .ackAlarm, .setThreshold, .setNoticePriority, .setModules,
   .holdModule, .releaseModule, .queryModule, .setPort, .setWindows, .saveSettings, .setClock, .trimClock,
   .status]

/-- A kind's code (Table 13-2). -/
def kindCode : ReqKind → Nat
  | .issueBand => 0x01
  | .addTime => 0x02
  | .reissueBand => 0x03
  | .revokeBand => 0x04
  | .discardBand => 0x05
  | .queryBand => 0x06
  | .closeDay => 0x07
  | .settle => 0x08
  | .pay => 0x09
  | .collect => 0x0A
  | .assignLocker => 0x0B
  | .openLocker => 0x0C
  | .releaseLocker => 0x0D
  | .rearmLocker => 0x0E
  | .setLockerService => 0x0F
  | .queryLocker => 0x10
  | .openCabin => 0x11
  | .setCabinService => 0x12
  | .queryCabin => 0x13
  | .setZone => 0x14
  | .queryZone => 0x15
  | .setTariff => 0x16
  | .selectBank => 0x17
  | .setWatch => 0x18
  | .clearWatch => 0x19
  | .queryWatch => 0x1A
  | .readNotice => 0x1B
  | .ackAlarm => 0x1C
  | .setThreshold => 0x1D
  | .setNoticePriority => 0x1E
  | .setModules => 0x1F
  | .holdModule => 0x20
  | .releaseModule => 0x21
  | .queryModule => 0x22
  | .setPort => 0x23
  | .setWindows => 0x24
  | .saveSettings => 0x25
  | .setClock => 0x26
  | .trimClock => 0x27
  | .status => 0x28

/-- The kind a kind byte names, if any (R175). -/
def kindOf (code : Byte) : Option ReqKind := allKinds.find? fun k => kindCode k == code.toNat

/-- Does a request of the kind pass the binding arbiter (R28, R179)? -/
def arbitrated : ReqKind → Bool
  | .setWatch | .clearWatch | .queryWatch | .readNotice | .ackAlarm | .setThreshold | .setNoticePriority | .holdModule
  | .releaseModule | .queryModule | .setPort | .saveSettings | .trimClock | .status => false
  | _ => true

/-- Is a request of the kind taken as soon as no handling is in progress, before the next grant of the binding arbiter: a watch
request (R157), and those that R129, R183 and R188 have taken in the same way? -/
def prompt : ReqKind → Bool
  | .setWatch | .clearWatch | .queryWatch | .holdModule | .releaseModule | .trimClock | .status => true
  | _ => false

/-- The numerically highest port rank that may make a request of the kind (R177).  ISSUE_BAND's requirement reads the body
and is R178's. -/
def rankNeeded : ReqKind → Nat
  | .setZone | .setTariff | .setWindows | .setPort | .setModules | .setNoticePriority | .saveSettings | .setClock => 0
  | .openLocker | .releaseLocker | .rearmLocker | .setLockerService | .openCabin | .setCabinService | .holdModule
  | .releaseModule | .revokeBand | .discardBand | .closeDay | .setWatch | .clearWatch => 1
  | _ => 3

/-! ### Enumerated bytes (section 13.1) -/

/-- A tariff bank's code. -/
def bankOf : Nat → Option Bank
  | 0 => some .a
  | 1 => some .b
  | _ => none

/-- A zone order's code. -/
def zoneOrderOf : Nat → Option ZoneOrder
  | 0 => some .lowFirst
  | 1 => some .highFirst
  | _ => none

/-- A cabin kind's code. -/
def cabinKindOf : Nat → Option CabinKind
  | 0 => some .single
  | 1 => some .family
  | 2 => some .staff
  | _ => none

/-- The nineteen notice kinds in the order of Table 9-2; the first has code 1. -/
def allNotices : List NoticeKind :=
  [.unknownPresented, .leaveLapsed, .reservationLapsed, .moduleBack, .masterOpen, .longStay, .cabinOverhold,
   .powerRestored, .cabinReleasedByPower, .lockerFault, .moduleSilent, .orphanFound, .revokedPresented, .powerWarn,
   .settingsLost, .watchHit, .lockerForced, .cabinForced, .cabinOverholdLong]

/-- A notice kind's code: its place in Table 9-2, counted from 1 (section 13.1). -/
def noticeCode (k : NoticeKind) : Nat := allNotices.idxOf k + 1

/-- The notice kind that a code names; 0 names none (section 13.1). -/
def noticeOf (code : Nat) : Option NoticeKind := if code = 0 then none else allNotices[code - 1]?

/-- A service direction's code: out 0, in 1; true is in. -/
def directionOf : Nat → Option Bool := yesNoOf

/-- A port number 0 to 2. -/
def portOf : Nat → Option PortId
  | 0 => some .cp0
  | 1 => some .cp1
  | 2 => some .cp2
  | _ => none

/-! ### Request bodies (Table 13-2) -/

/-- An assignment: a zone number or a locker number (R9, R59). -/
inductive Assignment where
  | zone (z : Nat)
  | locker (n : Nat)
  deriving DecidableEq, Repr, Inhabited

/-- A band named by serial or by slot (R5). -/
inductive BandRef where
  | serial (n : Nat)
  | slot (n : Nat)
  deriving DecidableEq, Repr, Inhabited

/-- The operands of ISSUE_BAND (R9). -/
structure IssueRequest where
  serial : Nat
  staff : Bool
  rank : Nat
  minutes : Nat
  cls : Nat
  leader : Option Nat
  assignment : Option Assignment
  deriving DecidableEq, Repr, Inhabited

/-- The operands of SET_ZONE (R35). -/
structure ZoneRequest where
  zone : Nat
  value : Zone
  deriving DecidableEq, Repr, Inhabited

/-- The operands of SET_TARIFF (R88). -/
structure TariffRequest where
  bank : Bank
  cls : Nat
  value : TariffClass
  deriving DecidableEq, Repr, Inhabited

/-- The operands of SET_WATCH (R155). -/
structure WatchRequest where
  watch : Nat
  enabled : Bool
  stop : Bool
  subject : Subject
  mask : WatchMask
  priority : Nat
  deriving DecidableEq, Repr, Inhabited

/-- The operands of SET_MODULES (R112); the cabin kinds are read for a cabin module only. -/
structure ModulesRequest where
  addr : Nat
  configured : Bool
  holdOnForce : Bool
  kinds : List CabinKind
  deriving DecidableEq, Repr, Inhabited

/-- The operands of SET_WINDOWS (R195): the nine values of Table 11-4 and the requested step rate. -/
structure WindowsRequest where
  values : Windows
  rate : Nat
  deriving DecidableEq, Repr, Inhabited

/-- The operands of ACK_ALARM (R170). -/
inductive AckRequest where
  | all
  | one (kind : NoticeKind) (number : Nat)
  deriving DecidableEq, Repr, Inhabited

/-- An assignment's three bytes: form, zone or locker number. -/
def assignmentOf (bytes : List Byte) : Option Assignment :=
  match byteAt bytes 0 with
  | 0 => some (.zone (fieldAt bytes 1 2))
  | 1 => some (.locker (fieldAt bytes 1 2))
  | _ => none

/-- An empty body (CLOSE_DAY, READ_NOTICE, SAVE_SETTINGS, STATUS). -/
def parseEmpty (body : List Byte) : Option Unit := if body.length = 0 then some () else none

/-- A body that is one number of `width` bytes: a serial, a locker, a cabin, a zone, a watch, an address, a threshold, a
time. -/
def parseNumber (width : Nat) (body : List Byte) : Option Nat :=
  if body.length = width then some (natOf body) else none

/-- ISSUE_BAND: serial, kind, rank, paid minutes, class; at 13 and 16 bytes a leader serial; at 12 and 16 an assignment. -/
def parseIssue (body : List Byte) : Option IssueRequest :=
  let len := body.length
  let plain (staff : Bool) (leader : Option Nat) (assignment : Option Assignment) : IssueRequest :=
    { serial := fieldAt body 0 4, staff := staff, rank := byteAt body 5, minutes := fieldAt body 6 2,
      cls := byteAt body 8, leader := leader, assignment := assignment }
  match yesNoOf (byteAt body 4) with
  | none => none
  | some staff =>
    if len = 9 then some (plain staff none none)
    else if len = 12 then (assignmentOf (body.drop 9)).map fun a => plain staff none (some a)
    else if len = 13 then some (plain staff (some (fieldAt body 9 4)) none)
    else if len = 16 then (assignmentOf (body.drop 13)).map fun a => plain staff (some (fieldAt body 9 4)) (some a)
    else none

/-- ADD_TIME and PAY: a serial and a number of two bytes. -/
def parseSerialAmount (body : List Byte) : Option (Nat × Nat) :=
  if body.length = 6 then some (fieldAt body 0 4, fieldAt body 4 2) else none

/-- REISSUE_BAND: the old serial and the new one. -/
def parseTwoSerials (body : List Byte) : Option (Nat × Nat) :=
  if body.length = 8 then some (fieldAt body 0 4, fieldAt body 4 4) else none

/-- DISCARD_BAND and QUERY_BAND: a band reference form, then a serial or a slot in four bytes. -/
def parseBandRef (body : List Byte) : Option BandRef :=
  if body.length = 5 then
    match byteAt body 0 with
    | 0 => some (.serial (fieldAt body 1 4))
    | 1 => some (.slot (fieldAt body 1 4))
    | _ => none
  else none

/-- ASSIGN_LOCKER: a serial and an assignment. -/
def parseAssign (body : List Byte) : Option (Nat × Assignment) :=
  if body.length = 7 then (assignmentOf (body.drop 4)).map fun a => (fieldAt body 0 4, a) else none

/-- SET_LOCKER_SERVICE: a locker and a direction. -/
def parseLockerService (body : List Byte) : Option (Nat × Bool) :=
  if body.length = 3 then (directionOf (byteAt body 2)).map fun d => (fieldAt body 0 2, d) else none

/-- SET_CABIN_SERVICE: a cabin and a direction. -/
def parseCabinService (body : List Byte) : Option (Nat × Bool) :=
  if body.length = 2 then (directionOf (byteAt body 1)).map fun d => (byteAt body 0, d) else none

/-- SET_ZONE: zone, present, first, count, rank, group_only, order. -/
def parseZone (body : List Byte) : Option ZoneRequest :=
  if body.length = 9 then
    match yesNoOf (byteAt body 1), yesNoOf (byteAt body 7), zoneOrderOf (byteAt body 8) with
    | some present, some groupOnly, some order =>
      some { zone := byteAt body 0,
             value := { present := present, first := fieldAt body 2 2, count := fieldAt body 4 2,
                        rank := byteAt body 6, groupOnly := groupOnly, order := order } }
    | _, _, _ => none
  else none

/-- SET_TARIFF: bank, class, step, rate, cap. -/
def parseTariff (body : List Byte) : Option TariffRequest :=
  if body.length = 8 then
    (bankOf (byteAt body 0)).map fun bank =>
      { bank := bank, cls := byteAt body 1,
        value := { step := fieldAt body 2 2, rate := fieldAt body 4 2, cap := fieldAt body 6 2 } }
  else none

/-- SELECT_BANK: a bank. -/
def parseBank (body : List Byte) : Option Bank := if body.length = 1 then bankOf (byteAt body 0) else none

/-- SET_WATCH: watch, flags (bit 0 enabled, bit 1 stop), subject, first, count or last, mask, priority.  Bits of the flags byte
assigned to no flag are ignored (R196).  Bits 5 to 7 of the mask byte, which name no watch event, are dropped here, neither
refused nor stored: R196 speaks of a flags byte alone, and the spec does not call the mask one (DESIGN CHOICE, unsafe,
assumption 28). -/
def parseWatch (body : List Byte) : Option WatchRequest :=
  if body.length = 11 then
    let first := fieldAt body 3 4
    let other := fieldAt body 7 2
    let subject : Option Subject :=
      match byteAt body 2 with
      | 0 => some (.band first other)
      | 1 => some (.places .locker first other)
      | 2 => some (.places .cabin first other)
      | _ => none
    subject.map fun sub =>
      { watch := byteAt body 0, enabled := (byteAt body 1).testBit 0, stop := (byteAt body 1).testBit 1, subject := sub,
        mask := BitVec.ofNat 5 (byteAt body 9), priority := byteAt body 10 }
  else none

/-- ACK_ALARM: nothing for ALL, or a kind and a place. -/
def parseAck (body : List Byte) : Option AckRequest :=
  if body.length = 0 then some .all
  else if body.length = 3 then (noticeOf (byteAt body 0)).map fun k => .one k (fieldAt body 1 2)
  else none

/-- SET_NOTICE_PRIORITY: a notice kind and a priority. -/
def parsePriority (body : List Byte) : Option (NoticeKind × Nat) :=
  if body.length = 2 then (noticeOf (byteAt body 0)).map fun k => (k, byteAt body 1) else none

/-- SET_MODULES: address, configured, hold_on_force, four cabin kinds.  The kind bytes of a lock module are ignored
(R112, R196). -/
def parseModules (body : List Byte) : Option ModulesRequest :=
  if body.length = 7 then
    match yesNoOf (byteAt body 1), yesNoOf (byteAt body 2) with
    | some configured, some hold =>
      let plain (kinds : List CabinKind) : ModulesRequest :=
        { addr := byteAt body 0, configured := configured, holdOnForce := hold, kinds := kinds }
      if isCabinModule (byteAt body 0) then
        match cabinKindOf (byteAt body 3), cabinKindOf (byteAt body 4), cabinKindOf (byteAt body 5),
            cabinKindOf (byteAt body 6) with
        | some a, some b, some c, some d => some (plain [a, b, c, d])
        | _, _, _, _ => none
      else some (plain [])
    | _, _ => none
  else none

/-- SET_PORT: port, rank, permission set. -/
def parsePort (body : List Byte) : Option (Nat × Nat × PermSet) :=
  if body.length = 7 then some (byteAt body 0, byteAt body 1, permOf (body.drop 2)) else none

/-- SET_WINDOWS: the nine values of Table 11-4 in its order, then the step rate, two bytes each. -/
def parseWindows (body : List Byte) : Option WindowsRequest :=
  if body.length = 20 then
    let value (i : Nat) : Nat := fieldAt body (2 * i) 2
    some { values := { opening := value 0, relock := value 1, reservation := value 2, leave := value 3, grace := value 4,
                       limitSingle := value 5, limitFamily := value 6, limitStaff := value 7, escalation := value 8 },
           rate := value 9 }
  else none

/-- TRIM_CLOCK: signed seconds in two's complement. -/
def parseTrim (body : List Byte) : Option Int := if body.length = 1 then some (signedOf (byteAt body 0)) else none

end Sys2Proof.Machine
end

