-- ==== Sys2Proof/Machine/Ops.lean ====
section
/-! DEFINITION. The operations the meanings share: elapsed times, notices raised, band and locker bindings, the field command
queue and the hand-over list, indications, watches, the binding arbiter, and a request taken and answered. -/

namespace Sys2Proof.Machine

/-! ### Times and serials -/

/-- The time from the earlier time `since` to `now`, modulo a day (chapter 1, section 1.6; R91). -/
def elapsed (now since : Nat) : Nat := (now + Config.day - since) % Config.day

/-- The valid serials are 1 to 4,294,967,294 (R5). -/
def validSerial (n : Nat) : Bool := decide (1 ≤ n) && decide (n < Config.serialTop)

/-- `n` taken to the nearer end of `lo..hi` when it lies outside (R88, R195). -/
def clamp (lo hi n : Nat) : Nat := max lo (min hi n)

/-! ### Band records -/

/-- A visitor's account changed by `f`; a staff record carries none (R8). -/
def Band.updAccount (b : Band) (f : Account → Account) : Band :=
  match b.kind with
  | .visitor a => { b with kind := .visitor (f a) }
  | .staff => b

/-- Is the record a visitor's? -/
def Band.isVisitor (b : Band) : Bool :=
  match b.kind with
  | .visitor _ => true
  | .staff => false

/-- Is the band a STAFF band of rank 0 (R42)? -/
def Band.isMaster (b : Band) : Bool := !b.isVisitor && b.rank == 0

/-- The member slots of a leader, none for another record (Table 2-1). -/
def Band.members (b : Band) : List Nat :=
  match b.role with
  | .leader ms => ms
  | _ => []

/-- The leader field of a member (Table 2-1). -/
def Band.leaderSlot (b : Band) : Option Nat :=
  match b.role with
  | .member l => some l
  | _ => none

/-- Is the band a LEADER or a MEMBER (R34)? -/
def Band.inGroup (b : Band) : Bool := b.role != .none

/-- A slot taken out of a leader's member list, the others moving up (R2). -/
def Band.dropMember (slot : Nat) (b : Band) : Band :=
  match b.role with
  | .leader ms => { b with role := .leader (ms.erase slot) }
  | _ => b

namespace State

/-- The serial of the band in a slot, if it is in use. -/
def serialOf (s : State) (slot : Nat) : Option Nat := (s.band slot).map (·.serial)

/-- The record a serial names, or the code that refuses it (R5). -/
def findSerial (s : State) (serial : Nat) : Except ResultCode (Nat × Band) :=
  if validSerial serial then
    match s.slotOf serial with
    | none => .error .unknownBand
    | some slot =>
      match s.band slot with
      | none => .error .unknownBand
      | some b => .ok (slot, b)
  else .error .outOfRange

/-- The record that a serial or a slot names, or the code that refuses it (R5). -/
def findRef (s : State) : BandRef → Except ResultCode (Nat × Band)
  | .serial n => s.findSerial n
  | .slot n =>
    if n > Config.lastSlot then .error .outOfRange
    else
      match s.band n with
      | none => .error .unknownBand
      | some b => .ok (n, b)

/-- A record emptied: its fields and its serial map entry go, and a member leaves its leader's list (R2). -/
def emptySlot (s : State) (slot : Nat) : State :=
  match s.band slot with
  | none => s
  | some b =>
    let left := match b.leaderSlot with
      | some l => s.updBand l (Band.dropMember slot)
      | none => s
    (left.setBand slot none).unmapSerial b.serial

/-- The REVOKED records reached by following previous links, from the link given (R22); the fuel bounds the walk. -/
def predecessors (s : State) : Nat → Option Nat → List Nat
  | 0, _ => []
  | _ + 1, none => []
  | fuel + 1, some slot =>
    match s.band slot with
    | none => []
    | some b => if b.state = .revoked then slot :: s.predecessors fuel b.previous else []

/-- The record in `slot` emptied with its chain's REVOKED predecessors (R22), and how many records that were. -/
def tearDown (s : State) (slot : Nat) (b : Band) : State × Nat :=
  let chain := slot :: s.predecessors Config.lastSlot b.previous
  (chain.foldl emptySlot s, chain.length)

/-! ### Notices raised (R159) -/

/-- A notice handed to the notice unit with the time of the handling. -/
def notify (s : State) (kind : NoticeKind) (place : Option Place) (serial : Option Nat) : State :=
  { s with notices.raised :=
      s.notices.raised ++ [{ kind := kind, place := place, serial := serial, time := s.now, hit := none }] }

/-! ### Lockers and their holders (R38) -/

/-- Locker `n` bound to `holder`: both fields, in the one handling (R38). -/
def bindLocker (s : State) (n holder : Nat) : State :=
  (s.setLocker n { s.locker n with holder := some holder }).updBand holder fun b => { b with lockers := b.lockers ++ [n] }

/-- Locker `n` unbound: both fields, in the one handling, and master cleared (R38, R39). -/
def unbindLocker (s : State) (n : Nat) : State :=
  let l := s.locker n
  let freed := s.setLocker n { l with holder := none, master := false }
  match l.holder with
  | none => freed
  | some h => freed.updBand h fun b => { b with lockers := b.lockers.erase n }

/-- The serial of locker `n`'s holder, when it has one (R41). -/
def holderSerial (s : State) (n : Nat) : Option Nat := (s.locker n).holder.bind s.serialOf

/-- The present zone whose range contains locker `n` (R33). -/
def zoneOf (s : State) (n : Nat) : Option Nat :=
  (s.settings.zones.toList.zipIdx.find? fun e =>
    e.1.present && decide (e.1.first ≤ n) && decide (n < e.1.first + e.1.count)).map (·.2)

end State

/-- A locker entering a state other than LATCHING and UNLATCHING (R39): since is now, origin, fresh and release go, and
master goes on entering LOCKED, FREE or ORPHANED. -/
def Locker.enter (l : Locker) (st : LockerState) (now : Nat) : Locker :=
  { l with
    state := st, since := now, origin := none, fresh := false, release := false,
    master := if st = .locked ∨ st = .free ∨ st = .orphaned then false else l.master }

/-- A locker entering LATCHING as a LATCH is queued (R39). -/
def Locker.startLatch (l : Locker) (fresh : Bool) : Locker :=
  { l with state := .latching, origin := some l.state, fresh := fresh, master := false }

/-- A locker entering UNLATCHING as an UNLATCH is queued (R39). -/
def Locker.startUnlatch (l : Locker) (master release : Bool) : Locker :=
  { l with state := .unlatching, origin := some l.state, master := master, release := release }

/-- Is a command for the locker queued or in flight (R61)? -/
def Locker.moving (l : Locker) : Bool := l.state == .latching || l.state == .unlatching

/-! ### Requests taken without a grant: what they wrote over (R28, R158, R176, R179, R185) -/

/-- The alarm list after an ACK_ALARM for one kind and place, or for all of them (R170). -/
def ackFrom (which : Option (NoticeKind × Place)) (l : List Alarm) : List Alarm :=
  match which with
  | none => []
  | some (k, place) => l.eraseP fun a => a.kind == k && a.place == some place

/-- The clock moved by a trim clamped to 60 s either way, modulo a day (R188). -/
def trimmed (clock : Nat) (trim : Int) : Nat := (((clock : Int) + max (-60) (min 60 trim)) % (Config.day : Int)).toNat

/-- Have the two requests written at one place? -/
def Before.samePlace : Before → Before → Bool
  | .watch i _, .watch j _ => i == j
  | .watch i _, .enabled j _ => i == j
  | .enabled i _, .watch j _ => i == j
  | .enabled i _, .enabled j _ => i == j
  | .port p _, .port q _ => p == q
  | .threshold p _, .threshold q _ => p == q
  | .priority k _, .priority l _ => k == l
  | .alarms .., .alarms .. => true
  | .held a _, .held b _ => a == b
  | .clock _, .clock _ => true
  | _, _ => false

/-- What remains to be undone of an older request once the reply of a newer one has left the line.  What the newer wrote stands
there whether the older is dropped or not: nothing remains where it replaced the place whole; a CLEAR_WATCH and an ACK_ALARM
change what the older one found, and two trims add up. -/
def Before.onceStands (newer older : Before) : Option Before :=
  if newer.samePlace older then
    match newer, older with
    | .enabled _ _, .watch i w => some (.watch i { w with enabled := false })
    | .alarms which _ _, .alarms older l full => some (.alarms older (ackFrom which l) (full && !(ackFrom which l).isEmpty))
    | .clock _, .clock d => some (.clock d)
    | _, _ => none
  else some older

/-- Port `p`'s request is no longer undone, and the older ones by what then remains of them. -/
def settledUndo (p : PortId) : List Undo → List Undo
  | [] => []
  | u :: older =>
    if u.port = p then older.filterMap fun o => (u.before.onceStands o.before).map fun b => { o with before := b }
    else u :: settledUndo p older

namespace State

/-- A port's rank and permission set replaced; CP2's are fixed (R181, R182). -/
def setPortSetting (s : State) (p : PortId) (v : PortSetting) : State :=
  match p with
  | .cp0 => { s with settings.cp0 := v }
  | .cp1 => { s with settings.cp1 := v }
  | .cp2 => s

/-- A port's threshold replaced (R166). -/
def setThreshold (s : State) (p : PortId) (n : Nat) : State :=
  { s with settings.thresholds := s.settings.thresholds.set p n }

/-- A notice kind's priority replaced (R161). -/
def setPriority (s : State) (k : NoticeKind) (n : Nat) : State :=
  { s with settings.priorities := tableSet s.settings.priorities (noticeCode k - 1) n }

/-- The request that port `p` has just had taken writes where `b` stood, and keeps it while it is outstanding. -/
def remember (s : State) (p : PortId) (b : Before) : State := { s with undo := { port := p, before := b } :: s.undo }

/-- Something that no start undoes has been written at the place of `b`: what outstanding requests found there is done with. -/
def supersede (s : State) (b : Before) : State := { s with undo := s.undo.filter fun u => !b.samePlace u.before }

/-- The reply of port `p`'s outstanding request has left the line: what it wrote stands for good (R158, R176, R185). -/
def closeUndo (s : State) (p : PortId) : State := { s with undo := settledUndo p s.undo }

/-- What a dropped request wrote is taken back. -/
def putBack (s : State) : Before → State
  | .watch i w => s.setWatch i w
  | .enabled i e => s.setWatch i { s.watch i with enabled := e }
  | .port p v => s.setPortSetting p v
  | .threshold p n => s.setThreshold p n
  | .priority k n => s.setPriority k n
  | .alarms _ l full => { s with notices.alarms := l, notices.alarmOverflow := full }
  | .held a h => s.setModule a { s.module a with held := h }
  | .clock d => { s with supply.clock := trimmed s.now (-d) }

/-- The requests taken without a grant that are still outstanding are dropped as a start takes effect, and none has an effect
(R185, R158): what each wrote is taken back, the newest first (assumption 24 for what they did while they stood). -/
def undoTaken (s : State) : State := { s.undo.foldl (fun t u => t.putBack u.before) s with undo := [] }

/-- The alarm list with its overflow flag changed by `f`, and so the list that would stand without each ACK_ALARM still
outstanding. -/
def onAlarms (s : State) (f : List Alarm × Bool → List Alarm × Bool) : State :=
  let now := f (s.notices.alarms, s.notices.alarmOverflow)
  { s with
    notices.alarms := now.1, notices.alarmOverflow := now.2,
    undo := s.undo.map fun u =>
      match u.before with
      | .alarms which l full => { u with before := .alarms which (f (l, full)).1 (f (l, full)).2 }
      | _ => u }

end State

/-! ### Cabins and their occupants (R68, R69) -/

/-- A cabin entering VACANT, OUT_OF_SERVICE or UNFITTED: since is now and the stage 0 (R69). -/
def Cabin.enter (r : Cabin) (st : CabinState) (now : Nat) : Cabin := { r with state := st, since := now, stage := 0 }

/-- Is the cabin in LATCHING or UNLATCHING? -/
def Cabin.moving (r : Cabin) : Bool := r.state == .latching || r.state == .unlatching

namespace State

/-- Cabin `c` set as occupied by the band in `slot`: both fields (R68). -/
def occupy (s : State) (c slot : Nat) : State :=
  (s.setCabin c { s.cabin c with occupant := some slot }).updBand slot fun b => { b with cabin := some c }

/-- Cabin `c` cleared of its occupant: both fields (R68). -/
def clearOccupant (s : State) (c : Nat) : State :=
  let r := s.cabin c
  match r.occupant with
  | none => s
  | some slot => (s.setCabin c { r with occupant := none }).updBand slot fun b => { b with cabin := none }

/-- Cabin `c` cleared of its occupant and made VACANT (R69). -/
def vacate (s : State) (c : Nat) : State :=
  let cleared := s.clearOccupant c
  cleared.setCabin c ((cleared.cabin c).enter .vacant s.now)

/-- The serial of cabin `c`'s occupant, when it has one (R70). -/
def occupantSerial (s : State) (c : Nat) : Option Nat := (s.cabin c).occupant.bind s.serialOf

/-! ### The hand-over list (R119, R120) -/

/-- The field engine's own record of a position changed. -/
def updPosition (s : State) (addr pos : Nat) (f : Position → Position) : State :=
  let m := s.module addr
  s.setModule addr { m with positions := tableSet m.positions pos (f (tableGet m.positions Position.blank pos)) }

/-- The head of the hand-over list becomes the waiting item (R120): a door or handle event sets the module record's field,
and a PRESENT is marked when its module is held at this moment. -/
def meetHead (s : State) : State :=
  match s.field.handover with
  | .event addr (.doorOpen pos) :: _ =>
    { s.updPosition addr pos fun q => { q with door := .opened } with field.waitingHeld := false }
  | .event addr (.doorClosed pos) :: _ =>
    { s.updPosition addr pos fun q => { q with door := .closed } with field.waitingHeld := false }
  | .event addr (.handle pos) :: _ =>
    { s.updPosition addr pos fun q => { q with latch := .free } with field.waitingHeld := false }
  | .event addr (.present _ _) :: _ => { s with field.waitingHeld := (s.module addr).held }
  | _ => { s with field.waitingHeld := false }

/-- Items joining the end of the hand-over list; the first to join an empty list becomes the waiting item (R119). -/
def handOver (s : State) (items : List HandItem) : State :=
  let joined : State := { s with field.handover := s.field.handover ++ items }
  if s.field.handover.isEmpty && !items.isEmpty then joined.meetHead else joined

/-- The waiting item leaves the list and the next becomes the waiting item (R119). -/
def popHead (s : State) : State := { s with field.handover := s.field.handover.drop 1 }.meetHead

/-! ### The field command queue (R125, R126) -/

/-- The queue holds 32 entries. -/
def queueFull (s : State) : Bool := decide (Config.queueCapacity ≤ s.field.queue.length)

/-- Is the module SILENT? -/
def isSilent (s : State) (addr : Nat) : Bool := (s.module addr).silent

/-- An entry appended to the field command queue; for a SILENT or unconfigured module it is removed at once and its FAILED
outcome handed over (R126). -/
def queueCommand (s : State) (addr pos : Nat) (action : Action) : State :=
  let cmd : Command := { addr := addr, pos := pos, action := action, target := placeAt addr pos }
  if s.isSilent addr || !s.configured addr then s.handOver [.outcome cmd .failed]
  else { s with field.queue := s.field.queue ++ [cmd] }

/-- A command queued for locker `n`. -/
def queueLocker (s : State) (n : Nat) (action : Action) : State :=
  s.queueCommand (lockerAt n).1 (lockerAt n).2 action

/-- A command queued for cabin `c`, its command field set (R69). -/
def queueCabin (s : State) (c : Nat) (action : Action) : State :=
  (s.setCabin c { s.cabin c with command := some action }).queueCommand (cabinAt c).1 (cabinAt c).2 action

/-- A LATCH queued for locker `n`, which enters LATCHING (R39). -/
def latchLocker (s : State) (n : Nat) (fresh : Bool) : State :=
  (s.setLocker n ((s.locker n).startLatch fresh)).queueLocker n .latch

/-- An UNLATCH queued for locker `n`, which enters UNLATCHING (R39). -/
def unlatchLocker (s : State) (n : Nat) (master release : Bool) : State :=
  (s.setLocker n ((s.locker n).startUnlatch master release)).queueLocker n .unlatch

/-- An UNLATCH queued for cabin `c`, which enters UNLATCHING (R69). -/
def unlatchCabin (s : State) (c : Nat) : State :=
  (s.setCabin c { s.cabin c with state := .unlatching }).queueCabin c .unlatch

/-- Locker `n` enters a state (R39). -/
def enterLocker (s : State) (n : Nat) (st : LockerState) : State := s.setLocker n ((s.locker n).enter st s.now)

/-! ### Indications and the service hold -/

/-- An indication left pending at a module's position, replacing one still pending; a POLL in progress with that module
does not clear it (R122, R114). -/
def indicate (s : State) (addr pos : Nat) (ind : Indication) : State :=
  let marked : State := s.updPosition addr pos fun q => { q with shown := some ind }
  match s.field.exchange with
  | some x =>
    if x.addr = addr then { marked with field.exchange := some { x with renewed := pos :: x.renewed } } else marked
  | none => marked

/-- The service hold on force: a module whose hold_on_force is set is held (R129), whatever becomes of a HOLD_MODULE or
RELEASE_MODULE still outstanding. -/
def holdOnForce (s : State) (addr : Nat) : State :=
  if (s.moduleSetting addr).holdOnForce then
    (s.setModule addr { s.module addr with held := true }).supersede (.held addr true)
  else s

/-- Locker `n` becomes FORCED with the alarm and its module's hold (R52, R53, R132). -/
def forceLocker (s : State) (n : Nat) : State :=
  let serial := s.holderSerial n
  ((s.enterLocker n .forced).notify .lockerForced (some (.locker n)) serial).holdOnForce (lockerAt n).1

/-- Cabin `c`, found forced open, is cleared and made VACANT, with the alarm and its module's hold (R78, R83). -/
def forceCabin (s : State) (c : Nat) : State :=
  let serial := s.occupantSerial c
  ((s.vacate c).notify .cabinForced (some (.cabin c)) serial).holdOnForce (cabinAt c).1

end State

/-! ### Watches (chapter 8) -/

/-- The bit of an event in a mask (section 13.1). -/
def watchCode : WatchEvent → Nat
  | .presented => 0
  | .refused => 1
  | .latched => 2
  | .unlatched => 3
  | .doorOpened => 4

/-- Does a BAND subject cover the serial (R151)? -/
def Subject.coversSerial : Subject → Nat → Bool
  | .band first count, serial => decide (first ≤ serial) && decide (serial < first + count)
  | .places .., _ => false

/-- Does the subject cover an event at a place, with a serial if it carries one (R152)? -/
def Subject.covers (sub : Subject) (place : Place) (serial : Option Nat) : Bool :=
  match sub, place with
  | .band .., _ => serial.any sub.coversSerial
  | .places .locker first last, .locker n => decide (first ≤ n) && decide (n ≤ last)
  | .places .cabin first last, .cabin c => decide (first ≤ c) && decide (c ≤ last)
  | .places .., _ => false

/-- Does the event match the watch (R152)? -/
def Watch.matches (w : Watch) (place : Place) (event : WatchEvent) (serial : Option Nat) : Bool :=
  w.enabled && w.mask.getLsbD (watchCode event) && w.subject.covers place serial

namespace State

/-- Is a presentation of the serial stopped by a watch (R153)? -/
def stopped (s : State) (serial : Nat) : Bool :=
  s.watches.toList.any fun w => w.enabled && w.stop && w.subject.coversSerial serial

/-- One event matched against one slot (R154). -/
def matchSlot (place : Place) (event : WatchEvent) (serial : Option Nat) (s : State) (i : Nat) : State :=
  let w := s.watch i
  if w.matches place event serial then
    let hit : LastHit := { place := place, event := event, serial := serial, time := s.now }
    let counted := s.setWatch i { w with hits := min 255 (w.hits + 1), lastHit := some hit }
    let extra : HitExtra := { watch := i, event := event, priority := w.priority }
    { counted with notices.raised :=
        counted.notices.raised ++
          [{ kind := .watchHit, place := some place, serial := serial, time := s.now, hit := some extra }] }
  else s

/-- One event of a handling matched against the four watches in slot order (R154). -/
def watchEvent (s : State) (place : Place) (event : WatchEvent) (serial : Option Nat) : State :=
  [0, 1, 2, 3].foldl (matchSlot place event serial) s

/-! ### The binding arbiter (R28) -/

/-- The request of a port that its block has not taken yet (R176). -/
def awaiting (s : State) (p : PortId) : Option Request :=
  match (s.port p).outstanding with
  | some r => if r.taken then none else some r
  | none => none

/-- The request of kind `k` that waits on port `p`, if that is what waits there. -/
def request (s : State) (p : PortId) (k : ReqKind) : Option Request :=
  match s.awaiting p with
  | some r => if kindOf r.code = some k then some r else none
  | none => none

/-- The field engine's waiting item: the head of the hand-over list, but for a PRESENT that met a held module (R120). -/
def waitingItem (s : State) : Option HandItem :=
  match s.field.handover with
  | [] => none
  | item :: _ => if s.field.waitingHeld then none else some item

/-- Does the requester have an item waiting for a grant (R28)? -/
def waits (s : State) : Requester → Bool
  | .port p => ((s.awaiting p).bind fun r => kindOf r.code).any arbitrated
  | .field => s.waitingItem.isSome
  | .sweep => s.sweep.waiting

/-- Does a request wait on some port that its block takes before the next grant (R157, R129, R183, R188)? -/
def promptWaits (s : State) : Bool :=
  [PortId.cp0, .cp1, .cp2].any fun p => ((s.awaiting p).bind fun r => kindOf r.code).any prompt

end State

/-- The fixed cycle CP0, CP1, CP2, field engine, sweep, counted from the requester after the one given (R28). -/
def cycleAfter : Requester → List Requester
  | .port .cp0 => [.port .cp1, .port .cp2, .field, .sweep, .port .cp0]
  | .port .cp1 => [.port .cp2, .field, .sweep, .port .cp0, .port .cp1]
  | .port .cp2 => [.field, .sweep, .port .cp0, .port .cp1, .port .cp2]
  | .field => [.sweep, .port .cp0, .port .cp1, .port .cp2, .field]
  | .sweep => [.port .cp0, .port .cp1, .port .cp2, .field, .sweep]

namespace State

/-- May the arbiter grant the requester now: the part runs, no request waits that is taken before the next grant (R157), and
no requester before it in the cycle waits (R28)? -/
def mayGrant (s : State) (r : Requester) : Bool :=
  s.running && !s.promptWaits && ((cycleAfter s.engine.lastGranted).takeWhile (· != r)).all fun q => !s.waits q

/-- The state as the handling granted to a requester begins (R28). -/
def granted (s : State) (r : Requester) : State := { s with engine.lastGranted := r }

/-! ### Replies (R173, R176, R180) -/

/-- A reply becomes ready on a port: an IDLE port sends it at once, a busy line makes it wait, and a STOPPED port loses it
(R173, R184). -/
def deliver (s : State) (p : PortId) (r : Reply) : State :=
  let q := s.port p
  match q.link with
  | .idle => s.setPort p { q with link := .sending r }
  | .stopped => s
  | _ => s.setPort p { q with ready := q.ready ++ [r] }

/-- The port's outstanding request is marked as taken by its block. -/
def markTaken (s : State) (p : PortId) : State :=
  let q := s.port p
  s.setPort p { q with outstanding := q.outstanding.map fun r => { r with taken := true } }

end State

/-- What a block answers to a request: the result code and the data after it (R180). -/
structure Answer where
  code : ResultCode
  data : List Byte
  deriving DecidableEq, Repr, Inhabited

/-- The reply frame's content for a request and its answer (R180). -/
def replyTo (r : Request) (a : Answer) : Reply :=
  { tag := r.tag, code := r.code, result := a.code, data := a.data, busy := false }

/-- A request refused: the code alone, the tables as they stood (R180, chapter 1 section 1.6). -/
def refuse (c : ResultCode) (s : State) : Answer × State := ({ code := c, data := [] }, s)

/-- A request done: OK with data (R180). -/
def accept (data : List Byte) (s : State) : Answer × State := ({ code := .ok, data := data }, s)

/-- A block's handling of a request: its body and the port's rank go in with the state, its one answer comes out (R179). -/
abbrev Handler := Request → State → Answer × State

namespace State

/-- A request of kind `k` on port `p` handled under a grant of the binding arbiter (R27, R28).  Where no such request waits
or the arbiter would grant another first, no such step takes place and nothing changes (assumption 2). -/
def grantRequest (s : State) (p : PortId) (k : ReqKind) (h : Handler) : State :=
  match s.request p k with
  | none => s
  | some r =>
    if s.mayGrant (.port p) then
      let out := h r (s.granted (.port p))
      (out.2.markTaken p).deliver p (replyTo r out.1)
    else s

/-- A request of kind `k` on port `p` taken by the block that owns its state, without a grant (R179). -/
def takeRequest (s : State) (p : PortId) (k : ReqKind) (h : Handler) : State :=
  match s.request p k with
  | none => s
  | some r =>
    if s.running then
      let out := h r s
      (out.2.markTaken p).deliver p (replyTo r out.1)
    else s

/-- The field engine's waiting item handled under a grant, when it is the one asked for (`f` gives its handling); it then
leaves the hand-over list (R27, R119). -/
def grantItem (s : State) (f : HandItem → Option (State → State)) : State :=
  match s.waitingItem.bind f with
  | none => s
  | some handling => if s.mayGrant .field then (handling (s.granted .field)).popHead else s

end State

end Sys2Proof.Machine
end

