-- ==== Sys2Proof/Machine/Flags.lean ====
section
/-! DEFINITION. Every flag the spec computes: the output lines (ATTN, ALARM, the driver enables) and the flags bytes of the reply
layouts (Tables 13-3 to 13-7). -/

namespace Sys2Proof.Machine

namespace State

/-- A port's attention line: high while its queue holds a notice, low while the notice unit stands stopped
(R165, R171, R192). -/
def attention (s : State) (p : PortId) : Bool := s.running && !(s.queue p).isEmpty

/-- The ALARM output: a listed record is escalated or the overflow flag is set; deasserted while the notice unit stands
stopped (R169, R171, R192). -/
def alarmLine (s : State) : Bool := s.running && (s.notices.alarms.any (·.escalated) || s.notices.alarmOverflow)

/-- A port's driver enable: asserted while a reply is being sent (R173, R184). -/
def driverEnable (s : State) (p : PortId) : Bool :=
  match (s.port p).link with
  | .sending _ => true
  | _ => false

end State

/-- The flags byte of QUERY_BAND: since present, long_stay, last_place present (Table 13-3). -/
def Band.flags (b : Band) : Byte :=
  let cleared := match b.state with
    | .cleared _ => true
    | _ => false
  let long := match b.kind with
    | .visitor a => a.longStay
    | .staff => false
  flagsByte [cleared, long, b.lastPlace.isSome]

/-- The flags byte of QUERY_LOCKER: fresh, master, release, origin present, unzoned (Table 13-4). -/
def Locker.flags (l : Locker) (unzoned : Bool) : Byte :=
  flagsByte [l.fresh, l.master, l.release, l.origin.isSome, unzoned]

/-- The flags byte of a watch slot: enabled, stop, last hit present (Table 13-5). -/
def Watch.flags (w : Watch) : Byte := flagsByte [w.enabled, w.stop, w.lastHit.isSome]

/-- The flags byte of a notice: serial present, extra present (Table 13-6). -/
def Raised.flags (n : Raised) : Byte := flagsByte [n.serial.isSome, n.hit.isSome]

/-- The flags byte of QUERY_MODULE: configured, hold_on_force, held, resync pending, cold read (Table 13-7). -/
def Module.flags (m : Module) (c : ModuleSetting) : Byte :=
  flagsByte [c.configured, c.holdOnForce, m.held, m.resync, m.coldRead]

/-- The flags byte of STATUS: clock_valid, save in progress, this port's overflow, alarm overflow (Table 13-7). -/
def State.statusFlags (s : State) (p : PortId) : Byte :=
  flagsByte [s.supply.clockValid, s.supply.save.isSome, s.notices.overflow.get p, s.notices.alarmOverflow]

end Sys2Proof.Machine
end

