-- ==== Sys2Proof/Machine/Layouts.lean ====
section
/-! DEFINITION. The bytes of the reply data: the codes of the enumerations (section 13.1) and the record bodies of Tables 13-3 to
13-7, and the envelope of a reply frame (Table 13-1). -/

namespace Sys2Proof.Machine

/-! ### Codes (section 13.1) -/

/-- A result code, 0x00 to 0x1F (Table 10-3). -/
def resultCode : ResultCode → Nat
  | .ok => 0
  | .clear => 1
  | .clearStaff => 2
  | .owes => 3
  | .none => 4
  | .busy => 5
  | .notPermitted => 6
  | .rank => 7
  | .unknownBand => 8
  | .alreadyIssued => 9
  | .tableFull => 10
  | .wrongState => 11
  | .outOfRange => 12
  | .zoneAbsent => 13
  | .zoneInUse => 14
  | .overlap => 15
  | .noFreeLocker => 16
  | .holdsLocker => 17
  | .inCabin => 18
  | .membersInside => 19
  | .groupFull => 20
  | .chainFull => 21
  | .revoked => 22
  | .lockerBusy => 23
  | .doorOpen => 24
  | .fieldBusy => 25
  | .moduleSilent => 26
  | .powerHold => 27
  | .clockNotSet => 28
  | .tableNotEmpty => 29
  | .saveBusy => 30
  | .storeFault => 31

/-- A locker state's code (Table 3-3). -/
def lockerCode : LockerState → Nat
  | .unfitted => 0
  | .free => 1
  | .reserved => 2
  | .latching => 3
  | .locked => 4
  | .unlatching => 5
  | .released => 6
  | .opened => 7
  | .closing => 8
  | .fault => 9
  | .forced => 10
  | .orphaned => 11
  | .outOfService => 12

/-- A cabin state's code (Table 4-2). -/
def cabinCode : CabinState → Nat
  | .unfitted => 0
  | .vacant => 1
  | .latching => 2
  | .occupied => 3
  | .unlatching => 4
  | .outOfService => 5

/-- A band state's code; EMPTY, code 0, is never reported (Table 2-1). -/
def bandCode : BandState → Nat
  | .active => 1
  | .owing _ => 2
  | .cleared _ => 3
  | .revoked => 4

/-- A band kind's code. -/
def bandKindCode : BandKind → Nat
  | .visitor _ => 0
  | .staff => 1

/-- A role's code. -/
def roleCode : Role → Nat
  | .none => 0
  | .leader _ => 1
  | .member _ => 2

/-- A door position's code. -/
def doorCode : Door → Nat
  | .opened => 0
  | .closed => 1
  | .unknown => 2

/-- A latch position's code. -/
def latchCode : Latch → Nat
  | .engaged => 0
  | .free => 1
  | .unknown => 2

/-- A cabin kind's code. -/
def cabinKindCode : CabinKind → Nat
  | .single => 0
  | .family => 1
  | .staff => 2

/-- A cabin command's code, none 0. -/
def commandCode : Option Action → Nat
  | none => 0
  | some .latch => 1
  | some .unlatch => 2

/-- A zone order's code. -/
def zoneOrderCode : ZoneOrder → Nat
  | .lowFirst => 0
  | .highFirst => 1

/-- A tariff bank's code. -/
def bankCode : Bank → Nat
  | .a => 0
  | .b => 1

/-- A pending indication's code, none 0. -/
def indicationCode : Option Indication → Nat
  | none => 0
  | some .green => 1
  | some .red => 2
  | some .amber => 3

/-- A supply state's code. -/
def supplyCode : SupplyState → Nat
  | .normal => 0
  | .hold => 1
  | .down => 2

/-- A place's kind code and number, 0 and 0 for no place. -/
def placeCode : Option Place → Nat × Nat
  | none => (0, 0)
  | some (.locker n) => (1, n)
  | some (.cabin c) => (2, c)
  | some (.station a) => (3, a)

/-- A step rate in steps per second (R141). -/
def StepRate.perSecond : StepRate → Nat
  | .r128 => 128
  | .r256 => 256
  | .r512 => 512
  | .r1024 => 1024

/-- An optional number, absent as 0 (section 13.1). -/
def orZero (n : Option Nat) : Nat := n.getD 0

/-- A place in three bytes: kind and number. -/
def placeBytes (p : Option Place) : List Byte := bytesOf 1 (placeCode p).1 ++ bytesOf 2 (placeCode p).2

/-- A list's count in one byte, then `room` numbers of two bytes, unused ones 0 (Table 13-3). -/
def countedBytes (room : Nat) (l : List Nat) : List Byte :=
  bytesOf 1 l.length ++ ((l ++ List.replicate room 0).take room).flatMap (bytesOf 2)

/-! ### Record bodies -/

/-- QUERY_BAND data, 54 bytes (Table 13-3). -/
def bandBytes (slot : Nat) (b : Band) : List Byte :=
  let account : Account := match b.kind with
    | .visitor a => a
    | .staff => { paidMinutes := 0, tariff := { bank := .a, cls := 0 }, paidCents := 0, longStay := false }
  let owed := match b.state with
    | .owing c => c
    | _ => 0
  let since := match b.state with
    | .cleared t => t
    | _ => 0
  let last := match b.lastPlace with
    | some l => placeBytes (some l.place) ++ bytesOf 3 l.time
    | none => placeBytes none ++ bytesOf 3 0
  bytesOf 2 slot ++ bytesOf 1 (bandCode b.state) ++ bytesOf 1 (bandKindCode b.kind) ++ bytesOf 1 b.rank ++ [b.flags] ++
    bytesOf 4 b.serial ++ bytesOf 3 b.entry ++ bytesOf 2 account.paidMinutes ++ bytesOf 1 (bankCode account.tariff.bank) ++
    bytesOf 1 account.tariff.cls ++ bytesOf 2 account.paidCents ++ bytesOf 2 owed ++ countedBytes 2 b.lockers ++
    bytesOf 1 (orZero b.cabin) ++ bytesOf 1 (roleCode b.role) ++ bytesOf 2 (orZero b.leaderSlot) ++
    countedBytes 5 b.members ++ bytesOf 2 (orZero b.previous) ++ bytesOf 2 (orZero b.next) ++ bytesOf 3 since ++ last

/-- QUERY_LOCKER data, 15 bytes (Table 13-4). -/
def State.lockerBytes (s : State) (n : Nat) : List Byte :=
  let l := s.locker n
  let z := s.zoneOf n
  bytesOf 1 (lockerCode l.state) ++ [l.flags z.isNone] ++ bytesOf 2 (orZero l.holder) ++
    bytesOf 4 (orZero (s.holderSerial n)) ++ bytesOf 3 l.since ++ bytesOf 1 (orZero (l.origin.map lockerCode)) ++
    bytesOf 1 (doorCode l.door) ++ bytesOf 1 (latchCode l.latch) ++ bytesOf 1 (orZero z)

/-- QUERY_CABIN data, 15 bytes (Table 13-4). -/
def State.cabinBytes (s : State) (c : Nat) : List Byte :=
  let r := s.cabin c
  bytesOf 1 (cabinKindCode (s.cabinKind c)) ++ bytesOf 1 (cabinCode r.state) ++ bytesOf 2 (orZero r.occupant) ++
    bytesOf 4 (orZero (s.occupantSerial c)) ++ bytesOf 3 r.since ++ bytesOf 1 r.stage.val ++
    bytesOf 1 (commandCode r.command) ++ bytesOf 1 (doorCode r.door) ++ bytesOf 1 (latchCode r.latch)

/-- QUERY_ZONE data (Table 13-2): zone, present, first, count, rank, group_only, order, used. -/
def State.zoneBytes (s : State) (z : Nat) : List Byte :=
  let r := s.zone z
  bytesOf 1 z ++ bytesOf 1 (yesNo r.present) ++ bytesOf 2 r.first ++ bytesOf 2 r.count ++ bytesOf 1 r.rank ++
    bytesOf 1 (yesNo r.groupOnly) ++ bytesOf 1 (zoneOrderCode r.order) ++ bytesOf 1 (yesNo (s.zoneUsed z))

/-- A watch's subject in seven bytes: subject code, first, count or last (Table 13-5). -/
def subjectBytes : Subject → List Byte
  | .band first count => bytesOf 1 0 ++ bytesOf 4 first ++ bytesOf 2 count
  | .places .locker first last => bytesOf 1 1 ++ bytesOf 4 first ++ bytesOf 2 last
  | .places .cabin first last => bytesOf 1 2 ++ bytesOf 4 first ++ bytesOf 2 last

/-- Watch slot data, 22 bytes (Table 13-5). -/
def watchBytes (w : Watch) : List Byte :=
  let last := match w.lastHit with
    | some h =>
      placeBytes (some h.place) ++ bytesOf 1 (watchCode h.event) ++ bytesOf 4 (orZero h.serial) ++ bytesOf 3 h.time
    | none => placeBytes none ++ bytesOf 1 0 ++ bytesOf 4 0 ++ bytesOf 3 0
  [w.flags] ++ subjectBytes w.subject ++ bytesOf 1 w.mask.toNat ++ bytesOf 1 w.priority ++ bytesOf 1 w.hits ++ last

/-- A notice record, 15 bytes (Table 13-6). -/
def noticeBytes (n : Notice) : List Byte :=
  let extra := match n.body.hit with
    | some h => bytesOf 1 h.watch ++ bytesOf 1 (watchCode h.event)
    | none => bytesOf 2 0
  bytesOf 1 (noticeCode n.body.kind) ++ bytesOf 1 n.priority ++ [n.body.flags] ++ placeBytes n.body.place ++
    bytesOf 4 (orZero n.body.serial) ++ bytesOf 3 n.body.time ++ extra

/-- The function code of an exchange (Table 13-9). -/
def functionCode : ExchangeKind → Nat
  | .poll => 1
  | .command c => if c.action = .latch then 2 else 3
  | .readState => 4

/-- QUERY_MODULE data (Table 13-7): flags, state, failure count, position count, each position's latch, door and pending
indication, queue entries for the module, and the exchange in progress with it. -/
def State.moduleBytes (s : State) (addr : Nat) : List Byte :=
  let m := s.module addr
  let exchange := match s.field.exchange with
    | some x => if x.addr = addr then bytesOf 1 (functionCode x.kind) ++ bytesOf 1 x.attempt else bytesOf 2 0
    | none => bytesOf 2 0
  [m.flags (s.moduleSetting addr)] ++ bytesOf 1 (yesNo m.silent) ++ bytesOf 1 m.failures ++ bytesOf 1 (positionCount addr) ++
    (m.positions.toList.take (positionCount addr)).flatMap (fun q =>
      bytesOf 1 (latchCode q.latch) ++ bytesOf 1 (doorCode q.door) ++ bytesOf 1 (indicationCode q.shown)) ++
    bytesOf 1 (s.field.queue.countP fun c => c.addr == addr) ++ exchange

/-- One alarm of the STATUS reply, nine bytes: kind, place number, raised time, countdown, escalated (Table 13-7). -/
def alarmBytes (a : Alarm) : List Byte :=
  bytesOf 1 (noticeCode a.kind) ++ bytesOf 2 (placeCode a.place).2 ++ bytesOf 3 a.raised ++ bytesOf 2 a.countdown ++
    bytesOf 1 (yesNo a.escalated)

/-- How many configured modules are SILENT (R183). -/
def State.silentCount (s : State) : Nat :=
  (s.field.modules.toList.zipIdx.countP fun e => e.1.silent && s.configured (e.2 + 1))

/-- STATUS data, 22 + 9 × a bytes (Table 13-7, R183). -/
def State.statusBytes (s : State) (p : PortId) : List Byte :=
  bytesOf 3 s.now ++ [s.statusFlags p] ++ bytesOf 1 (supplyCode s.supply.supply) ++
    bytesOf 1 (s.portRank p) ++ permBytes (s.portPermitted p) ++ bytesOf 1 (s.settings.thresholds.get p) ++
    bytesOf 1 (s.queue p).length ++ bytesOf 2 s.sweep.index ++ bytesOf 2 s.sweep.remaining ++
    bytesOf 2 s.settings.stepRate.perSecond ++ bytesOf 1 s.field.queue.length ++ bytesOf 1 s.silentCount ++
    bytesOf 1 s.notices.alarms.length ++ s.notices.alarms.flatMap alarmBytes

/-- The nine windows and the step rate as SET_WINDOWS replies them (Table 13-2). -/
def windowsBytes (w : Windows) (r : StepRate) : List Byte :=
  bytesOf 2 w.opening ++ bytesOf 2 w.relock ++ bytesOf 2 w.reservation ++ bytesOf 2 w.leave ++ bytesOf 2 w.grace ++
    bytesOf 2 w.limitSingle ++ bytesOf 2 w.limitFamily ++ bytesOf 2 w.limitStaff ++ bytesOf 2 w.escalation ++
    bytesOf 2 r.perSecond

/-! ### The envelope (Table 13-1, R180) -/

/-- The whole reply frame as it goes out on the line: sync byte, length, tag, kind with the reply bit, result code and
data, CRC-16 over all but the sync byte. -/
def Reply.frame (r : Reply) : List Byte :=
  let body := bytesOf 1 (resultCode r.result) ++ r.data
  let inner := bytesOf 1 body.length ++ [r.tag, r.code ||| 0x80#8] ++ body
  [0xA5#8] ++ inner ++ bytesOf 2 (crc16 inner).toNat

/-- A request frame as a master sends it (Table 13-1); the model's tests and statements use it. -/
def requestFrame (tag code : Byte) (body : List Byte) : List Byte :=
  let inner := bytesOf 1 body.length ++ [tag, code] ++ body
  [0xA5#8] ++ inner ++ bytesOf 2 (crc16 inner).toNat

end Sys2Proof.Machine
end

