-- ==== Sys2Proof/Machine/Binding.lean ====
section
/-! DEFINITION. Who may be bound to a locker: the holder-to-be, its list's room, the rights of R34, and the assignment of a locker by
ASSIGN_LOCKER and by ISSUE_BAND (R59, R60). -/

namespace Sys2Proof.Machine

/-- The slot that would become holder: a MEMBER's leader, otherwise the band itself (R43). -/
def Band.holderSlot (b : Band) (slot : Nat) : Nat := b.leaderSlot.getD slot

/-- How many lockers the holder-to-be may hold: two for a LEADER or a MEMBER's leader, one for a band with role NONE
(R15, R43). -/
def Role.capacity : Role → Nat
  | .none => 1
  | _ => 2

namespace State

/-- How many lockers the record in a slot holds. -/
def heldBy (s : State) (slot : Nat) : Nat := ((s.band slot).map (·.lockers.length)).getD 0

/-- Is the holder-to-be's lockers list full (check 5 of R43, check 5 of R59)? -/
def listFull (s : State) (slot : Nat) (b : Band) : Bool := decide (b.role.capacity ≤ s.heldBy (b.holderSlot slot))

/-- Is the band a MEMBER whose leader is REVOKED (check 4 of R43)? -/
def leaderRevoked (s : State) (b : Band) : Bool :=
  (b.leaderSlot.bind s.band).any fun l => l.state == .revoked

/-- The numbers of a zone's range in the order its free lockers are picked (Table 3-1, R60). -/
def zoneNumbers (z : Zone) : List Nat :=
  let up := (List.range z.count).map (z.first + ·)
  match z.order with
  | .lowFirst => up
  | .highFirst => up.reverse

/-- The FREE locker picked for an assignment by zone (R60). -/
def pickFree (s : State) (z : Zone) : Option Nat := (zoneNumbers z).find? fun n => (s.locker n).state == .free

/-- Checks 7 of R59: the deciding rank, the larger of the band's and the port's, and group_only (R34). -/
def zoneRights (z : Zone) (decidingRank : Nat) (inGroup : Bool) : Except ResultCode Unit :=
  if z.rank < decidingRank then .error .rank
  else if z.groupOnly && !inGroup then .error .wrongState
  else .ok ()

/-- Checks 5 to 8 of R59: the locker an assignment gives a band of this rank and role whose holder-to-be holds `held`
lockers, on a port of this rank; or the code of the first failure. -/
def assignment (s : State) (a : Assignment) (rank portRank : Nat) (role : Role) (held : Nat) : Except ResultCode Nat :=
  if role.capacity ≤ held then .error .holdsLocker
  else
    match a with
    | .zone z =>
      if !(s.zone z).present then .error .zoneAbsent
      else
        match zoneRights (s.zone z) (max rank portRank) (role != .none) with
        | .error c => .error c
        | .ok _ =>
          match s.pickFree (s.zone z) with
          | none => .error .noFreeLocker
          | some n => .ok n
    | .locker n =>
      match s.zoneOf n with
      | none => .error .zoneAbsent
      | some z =>
        match zoneRights (s.zone z) (max rank portRank) (role != .none) with
        | .error c => .error c
        | .ok _ =>
          if (s.locker n).moving then .error .lockerBusy
          else if (s.locker n).state != .free then .error .wrongState
          else .ok n

/-- The used flag of locker `n`'s zone set, as the locker is newly bound (R33). -/
def useZone (s : State) (n : Nat) : State :=
  match s.zoneOf n with
  | some z => s.setZoneUsed z true
  | none => s

/-- Locker `n` bound to `holder` and made RESERVED (R60). -/
def reserve (s : State) (n holder : Nat) : State :=
  let bound := s.bindLocker n holder
  (bound.setLocker n { (bound.locker n).enter .reserved s.now with master := false }).useZone n

end State

/-- An assignment's number lies in the range of its form (check 1 of R59). -/
def Assignment.inRange : Assignment → Bool
  | .zone z => decide (z ≤ 15)
  | .locker n => decide (1 ≤ n) && decide (n ≤ 1024)

end Sys2Proof.Machine
end

