-- ==== Sys2Proof/Machine/Bands.lean ====
section
/-! DEFINITION. The requests of the Bands group: ISSUE_BAND, ADD_TIME, REISSUE_BAND, REVOKE_BAND, DISCARD_BAND, QUERY_BAND and
CLOSE_DAY (chapter 2; ADD_TIME section 5.6). -/

namespace Sys2Proof.Machine

/-! ### ISSUE_BAND -/

/-- Check 1 of Table 2-3: every value of the request lies in its range, and kind and rank fit (R7, R9). -/
def IssueRequest.inRange (r : IssueRequest) : Bool :=
  validSerial r.serial && (if r.staff then decide (r.rank ≤ 1) else decide (2 ≤ r.rank) && decide (r.rank ≤ 3)) &&
    (r.staff || decide (r.cls ≤ 7)) && (!r.staff || r.leader.isNone) && r.leader.all validSerial &&
    r.assignment.all Assignment.inRange

/-- The leader checks of R13: the leader's slot when the new band may join, or none when no leader is named. -/
def State.leaderFor (s : State) (leader : Option Nat) : Except ResultCode (Option Nat) :=
  match leader with
  | none => .ok none
  | some serial =>
    match s.findSerial serial with
    | .error c => .error c
    | .ok (slot, b) =>
      if b.state != .active || !b.isVisitor then .error .wrongState
      else
        match b.role with
        | .member _ => .error .wrongState
        | .none => .ok (some slot)
        | .leader ms => if Config.groupCapacity ≤ ms.length then .error .groupFull else .ok (some slot)

/-- The role of the new record (R10, R13). -/
def roleFor : Option Nat → Role
  | none => .none
  | some l => .member l

/-- The new record (R10). -/
def IssueRequest.band (r : IssueRequest) (s : State) (leader : Option Nat) : Band :=
  { state := .active,
    kind := if r.staff then .staff
      else .visitor { paidMinutes := min Config.paidMinutesTop r.minutes, tariff := { bank := s.settings.selected, cls := r.cls },
                      paidCents := 0, longStay := false },
    rank := r.rank, serial := r.serial, entry := s.now, lockers := [], cabin := none, role := roleFor leader,
    previous := none, next := none, lastPlace := none }

/-- The new slot joins the leader's member list, and the leader takes role LEADER (R13). -/
def Band.addMember (slot : Nat) (b : Band) : Band :=
  match b.role with
  | .leader ms => { b with role := .leader (ms ++ [slot]) }
  | _ => { b with role := .leader [slot] }

/-- The record created in a slot, its serial mapped, its leader's group joined (R10, R13). -/
def State.createBand (s : State) (r : IssueRequest) (slot : Nat) (leader : Option Nat) : State :=
  let created := (s.setBand slot (some (r.band s leader))).mapSerial r.serial slot
  match leader with
  | none => created
  | some l => created.updBand l (Band.addMember slot)

/-- Check 7 of Table 2-3: the locker an assignment gives, 0 when none is given (R11). -/
def State.issueLocker (s : State) (r : IssueRequest) (leader : Option Nat) (portRank : Nat) : Except ResultCode Nat :=
  match r.assignment with
  | none => .ok 0
  | some a => s.assignment a r.rank portRank (roleFor leader) ((leader.map s.heldBy).getD 0)

/-- ISSUE_BAND (R9 to R11, R13). -/
def issueBand : Handler := fun req s =>
  match parseIssue req.body with
  | none => refuse .outOfRange s
  | some r =>
    if !r.inRange then refuse .outOfRange s
    else if !s.supply.clockValid then refuse .clockNotSet s
    else if s.supply.supply = .hold then refuse .powerHold s
    else if (s.slotOf r.serial).isSome then refuse .alreadyIssued s
    else
      match s.leaderFor r.leader with
      | .error c => refuse c s
      | .ok leader =>
        match s.freeSlot with
        | none => refuse .tableFull s
        | some slot =>
          match s.issueLocker r leader req.rank with
          | .error c => refuse c s
          | .ok n =>
            let created := s.createBand r slot leader
            let done := if n = 0 then created else created.reserve n (leader.getD slot)
            accept (bytesOf 2 slot ++ bytesOf 2 n) done

/-- ISSUE_BAND granted on port `p`. -/
def execIssueBand (p : PortId) (s : State) : Host.Outcome State Fault Refusal :=
  .next (s.grantRequest p .issueBand issueBand)

/-! ### ADD_TIME -/

/-- The record with paid_minutes raised and, from OWING or CLEARED, back in ACTIVE (R102). -/
def Band.addTime (minutes : Nat) (b : Band) : Band :=
  { b.updAccount fun a => { a with paidMinutes := min Config.paidMinutesTop (a.paidMinutes + minutes) } with state := .active }

/-- ADD_TIME (R102). -/
def addTime : Handler := fun req s =>
  match parseSerialAmount req.body with
  | none => refuse .outOfRange s
  | some (serial, minutes) =>
    match s.findSerial serial with
    | .error c => refuse c s
    | .ok (slot, b) =>
      match b.kind with
      | .staff => refuse .wrongState s
      | .visitor a =>
        if b.state = .revoked then refuse .wrongState s
        else accept (bytesOf 2 (min Config.paidMinutesTop (a.paidMinutes + minutes))) (s.setBand slot (some (b.addTime minutes)))

/-- ADD_TIME granted on port `p`. -/
def execAddTime (p : PortId) (s : State) : Host.Outcome State Fault Refusal :=
  .next (s.grantRequest p .addTime addTime)

/-! ### REISSUE_BAND -/

/-- The replacement record (R19). -/
def Band.replacement (old : Band) (serial slot : Nat) : Band :=
  { old with serial := serial, previous := some slot, next := none, lastPlace := none }

/-- The old record after its reissue (R19). -/
def Band.retired (old : Band) (new : Nat) : Band :=
  { old with state := .revoked, next := some new, lockers := [], cabin := none, role := .none }

/-- A member's leader field moved to a new slot (Table 2-4). -/
def Band.moveLeader (new : Nat) (b : Band) : Band :=
  match b.role with
  | .member _ => { b with role := .member new }
  | _ => b

/-- A slot of a leader's member list replaced in its place (Table 2-4). -/
def Band.moveMember (old new : Nat) (b : Band) : Band :=
  match b.role with
  | .leader ms => { b with role := .leader (ms.map fun m => if m = old then new else m) }
  | _ => b

/-- Every reference to the old slot moved to the new one, as Table 2-4 lists (R20). -/
def State.moveReferences (s : State) (b : Band) (old new : Nat) : State :=
  let lockers := b.lockers.foldl (fun s n => s.setLocker n { s.locker n with holder := some new }) s
  let cabins := match b.cabin with
    | some c => lockers.setCabin c { lockers.cabin c with occupant := some new }
    | none => lockers
  let members := b.members.foldl (fun s m => s.updBand m (Band.moveLeader new)) cabins
  match b.leaderSlot with
  | some l => members.updBand l (Band.moveMember old new)
  | none => members

/-- The visit copied into the new slot, the old record retired, and every reference moved, in one handling (R19, R20). -/
def State.reissue (s : State) (old : Nat) (b : Band) (serial new : Nat) : State :=
  let copied := (s.setBand new (some (b.replacement serial old))).mapSerial serial new
  (copied.setBand old (some (b.retired new))).moveReferences b old new

/-- How many records the chain ending at a record holds (R17). -/
def State.chainLength (s : State) (b : Band) : Nat := (s.predecessors Config.lastSlot b.previous).length + 1

/-- REISSUE_BAND (R18 to R20). -/
def reissueBand : Handler := fun req s =>
  match parseTwoSerials req.body with
  | none => refuse .outOfRange s
  | some (oldSerial, newSerial) =>
    if !validSerial oldSerial || !validSerial newSerial then refuse .outOfRange s
    else if s.supply.supply = .hold then refuse .powerHold s
    else
      match s.findSerial oldSerial with
      | .error c => refuse c s
      | .ok (old, b) =>
        let reissuable := match b.state with
          | .active => b.isVisitor
          | .owing _ => b.isVisitor
          | _ => false
        if !reissuable then refuse .wrongState s
        else if (s.slotOf newSerial).isSome then refuse .alreadyIssued s
        else if Config.chainCapacity ≤ s.chainLength b then refuse .chainFull s
        else
          match s.freeSlot with
          | none => refuse .tableFull s
          | some new => accept (bytesOf 2 new) (s.reissue old b newSerial new)

/-- REISSUE_BAND granted on port `p`. -/
def execReissueBand (p : PortId) (s : State) : Host.Outcome State Fault Refusal :=
  .next (s.grantRequest p .reissueBand reissueBand)

/-! ### REVOKE_BAND -/

/-- The record made REVOKED: owed_cents and since go with the state, every other field stays (R23). -/
def Band.revoke (b : Band) : Band := { b with state := .revoked, next := none }

/-- REVOKE_BAND (R23). -/
def revokeBand : Handler := fun req s =>
  match parseNumber 4 req.body with
  | none => refuse .outOfRange s
  | some serial =>
    match s.findSerial serial with
    | .error c => refuse c s
    | .ok (slot, b) =>
      if b.state = .revoked then refuse .wrongState s
      else
        match b.cabin with
        | none => accept [] (s.setBand slot (some b.revoke))
        | some c =>
          if (s.cabin c).moving then refuse .lockerBusy s
          else if s.queueFull then refuse .fieldBusy s
          else accept [] (((s.setBand slot (some b.revoke)).clearOccupant c).unlatchCabin c)

/-- REVOKE_BAND granted on port `p`. -/
def execRevokeBand (p : PortId) (s : State) : Host.Outcome State Fault Refusal :=
  .next (s.grantRequest p .revokeBand revokeBand)

/-! ### DISCARD_BAND -/

/-- DISCARD_BAND (R25), with the chain teardown of R22. -/
def discardBand : Handler := fun req s =>
  match parseBandRef req.body with
  | none => refuse .outOfRange s
  | some ref =>
    match s.findRef ref with
    | .error c => refuse c s
    | .ok (slot, b) =>
      if b.state != .revoked || b.next.isSome then refuse .wrongState s
      else if !b.lockers.isEmpty then refuse .holdsLocker s
      else if !b.members.isEmpty then refuse .membersInside s
      else accept [] (s.tearDown slot b).1

/-- DISCARD_BAND granted on port `p`. -/
def execDiscardBand (p : PortId) (s : State) : Host.Outcome State Fault Refusal :=
  .next (s.grantRequest p .discardBand discardBand)

/-! ### QUERY_BAND -/

/-- QUERY_BAND (R12). -/
def queryBand : Handler := fun req s =>
  match parseBandRef req.body with
  | none => refuse .outOfRange s
  | some ref =>
    match s.findRef ref with
    | .error c => refuse c s
    | .ok (slot, b) => accept (bandBytes slot b) s

/-- QUERY_BAND granted on port `p`. -/
def execQueryBand (p : PortId) (s : State) : Host.Outcome State Fault Refusal :=
  .next (s.grantRequest p .queryBand queryBand)

/-! ### CLOSE_DAY -/

/-- Is the record in a slot a visitor's? -/
def State.holdsVisitor (s : State) (slot : Nat) : Bool := (s.band slot).any Band.isVisitor

/-- The state a locker held by a visitor takes at CLOSE_DAY (Table 2-6); none for a state the table does not list. -/
def Locker.closeState (l : Locker) : Option LockerState :=
  match l.state with
  | .locked | .fault => some .orphaned
  | .forced => if l.latch = .engaged then some .orphaned else some .free
  | .reserved | .released | .opened | .closing => some .free
  | _ => none

/-- A locker at CLOSE_DAY (Table 2-6). -/
def State.closeLocker (s : State) (l : Locker) : Locker :=
  if l.holder.any s.holdsVisitor then
    match l.closeState with
    | some st => { l.enter st s.now with holder := none, master := false }
    | none => l
  else l

/-- Every visitor record emptied, its serial unmapped, and its lockers dealt with (R26). -/
def State.emptyVisitors (s : State) : State :=
  { s with
    engine.bands := tableMap (fun _ b => if b.any Band.isVisitor then none else b) s.engine.bands,
    engine.serialMap := s.engine.serialMap.filter fun e => !s.holdsVisitor e.2,
    engine.lockers := tableMap (fun _ l => s.closeLocker l) s.engine.lockers }

/-- CLOSE_DAY (R26). -/
def closeDay : Handler := fun req s =>
  match parseEmpty req.body with
  | none => refuse .outOfRange s
  | some _ =>
    if s.engine.lockers.toList.any Locker.moving || s.engine.cabins.toList.any Cabin.moving then refuse .lockerBusy s
    else if s.engine.cabins.toList.any fun r => r.state == .occupied then refuse .wrongState s
    else accept [] s.emptyVisitors

/-- CLOSE_DAY granted on port `p`. -/
def execCloseDay (p : PortId) (s : State) : Host.Outcome State Fault Refusal :=
  .next (s.grantRequest p .closeDay closeDay)

end Sys2Proof.Machine
end

