-- ==== Sys2Proof/Machine/Lockers.lean ====
section
/-! DEFINITION. Lockers: presentations, command outcomes and door events at a locker, and the requests of the Lockers group
(chapter 3). -/

namespace Sys2Proof.Machine

/-! ### Door and latch by command outcomes (R40, R70, R115) -/

/-- The door field after an outcome: the same table for lockers (R40) and cabins (Table 4-3). -/
def outcomeDoor (a : Action) (r : CommandResult) (d : Door) : Door :=
  match a, r with
  | .latch, .done => .closed
  | .latch, .doorOpen => .opened
  | _, _ => d

/-- The latch field after an outcome: the same table for lockers (R40) and cabins (Table 4-3). -/
def outcomeLatch (a : Action) (r : CommandResult) (l : Latch) : Latch :=
  match a, r with
  | .latch, .done => .engaged
  | .latch, .doorOpen => .free
  | .latch, _ => .unknown
  | .unlatch, .done => .free
  | .unlatch, .jammed => .engaged
  | .unlatch, _ => l

/-! ### Presentations (R42 to R47) -/

/-- How a band stands to a locker (R42). -/
inductive BandClass where
  | group | master | other
  deriving DecidableEq, Repr, Inhabited

namespace State

/-- Is the record in a slot REVOKED? -/
def isRevoked (s : State) (slot : Nat) : Bool := (s.band slot).any fun b => b.state == .revoked

/-- The class of a presenting band at a locker (R42). -/
def bandClass (s : State) (l : Locker) (slot : Nat) (b : Band) : BandClass :=
  let group := l.holder.any fun h => slot == h || (b.leaderSlot == some h && !s.isRevoked h)
  if group then .group else if b.isMaster then .master else .other

/-- A presentation that would queue a command: AMBER and no change on a full queue, GREEN otherwise (R42, R55). -/
def ifRoom (s : State) (f : State → State) : State × Indication :=
  if s.queueFull then (s, .amber) else (f s, .green)

/-- Does the band meet the rank and group_only conditions of R34 for locker `n` at its own rank (check 6 of R43)? -/
def mayBind (s : State) (n : Nat) (b : Band) : Bool :=
  match s.zoneOf n with
  | none => false
  | some z => decide (b.rank ≤ (s.zone z).rank) && (!(s.zone z).groupOnly || b.inGroup)

/-- A new binding by presentation: holder, used flag, LATCH with fresh set (check 8 of R43). -/
def bindFresh (s : State) (n holder : Nat) : State := ((s.bindLocker n holder).useZone n).latchLocker n true

/-- A presentation at a FREE locker: the checks of R43 in their order. -/
def presentFree (s : State) (n slot : Nat) (b : Band) : State × Indication :=
  if (s.locker n).door = .opened then (s, .amber)
  else if s.supply.supply = .hold then (s, .amber)
  else if b.state != .active then (s, .red)
  else if s.leaderRevoked b then (s, .red)
  else if s.listFull slot b then (s, if b.role = .none then .amber else .red)
  else if !s.mayBind n b then (s, .red)
  else s.ifRoom fun t => t.bindFresh n (b.holderSlot slot)

/-- A rank-0 staff band opens a locker: UNLATCH with master, and MASTER_OPEN with its serial (R45, Table 3-4). -/
def masterOpen (n : Nat) (release : Bool) (b : Band) (s : State) : State :=
  (s.unlatchLocker n true release).notify .masterOpen (some (.locker n)) (some b.serial)

/-- A presentation at locker `n` by the band in `slot` (R43 to R47, Tables 3-4 and 3-5). -/
def presentLocker (s : State) (n slot : Nat) (b : Band) : State × Indication :=
  let l := s.locker n
  let cls := s.bandClass l slot b
  match l.state with
  | .free => s.presentFree n slot b
  | .latching | .unlatching => (s, .amber)
  | .reserved =>
    match cls with
    | .group => if l.door = .opened then (s, .amber) else s.ifRoom fun t => t.latchLocker n false
    | _ => (s, .red)
  | .locked =>
    match cls with
    | .group => s.ifRoom fun t => t.unlatchLocker n false false
    | .master => s.ifRoom (masterOpen n false b)
    | .other => (s, .red)
  | .released | .closing =>
    match cls with
    | .group => s.ifRoom fun t => t.latchLocker n false
    | _ => (s, .red)
  | .opened | .forced =>
    match cls with
    | .group => (s, .amber)
    | _ => (s, .red)
  | .fault =>
    match cls with
    | .group => (s, .amber)
    | .master => s.ifRoom (masterOpen n l.holder.isNone b)
    | .other => (s, .red)
  | .orphaned => if b.isMaster then s.ifRoom (masterOpen n true b) else (s, .red)
  | .outOfService | .unfitted => (s, .red)

/-! ### Command outcomes (R48 to R52) -/

/-- Locker `n`'s door and latch fields set by an outcome (R40). -/
def lockerFields (s : State) (n : Nat) (a : Action) (r : CommandResult) : State :=
  let l := s.locker n
  s.setLocker n { l with door := outcomeDoor a r l.door, latch := outcomeLatch a r l.latch }

/-- LATCH DONE (R48). -/
def lockerLatchDone (n : Nat) (s : State) : State :=
  let t := s.lockerFields n .latch .done
  if (t.locker n).state = .latching then t.enterLocker n (if (t.locker n).holder.isSome then .locked else .orphaned) else t

/-- LATCH DOOR_OPEN (R49); a return to RESERVED keeps since (R39). -/
def lockerLatchDoorOpen (n : Nat) (s : State) : State :=
  let t := s.lockerFields n .latch .doorOpen
  let l := t.locker n
  if l.state = .latching then
    if l.fresh then (t.unbindLocker n).enterLocker n .free
    else if l.origin = some .reserved then t.setLocker n { l.enter .reserved t.now with since := l.since }
    else if l.origin = some .forced then t.enterLocker n .forced
    else t.enterLocker n .opened
  else t

/-- LATCH JAMMED or FAILED (R50). -/
def lockerLatchFails (r : CommandResult) (n : Nat) (s : State) : State :=
  let t := s.lockerFields n .latch r
  if (t.locker n).state = .latching then
    (t.enterLocker n .fault).notify .lockerFault (some (.locker n)) (t.holderSerial n)
  else t

/-- UNLATCH DONE (R51). -/
def lockerUnlatchDone (n : Nat) (s : State) : State :=
  let t := s.lockerFields n .unlatch .done
  let l := t.locker n
  if l.state = .unlatching then
    if l.release then
      (t.unbindLocker n).enterLocker n (if l.origin = some .outOfService then .outOfService else .free)
    else if l.door = .opened then t.enterLocker n .opened
    else t.enterLocker n .released
  else t

/-- The state a locker returns to when its UNLATCH fails and its door is not OPEN (R52). -/
def unlatchReturn (l : Locker) : LockerState :=
  if l.holder.isSome then .locked else if l.origin = some .outOfService then .outOfService else .orphaned

/-- UNLATCH JAMMED or FAILED (R52): LOCKER_FAULT first, then the alarm of a door recorded open. -/
def lockerUnlatchFails (r : CommandResult) (n : Nat) (s : State) : State :=
  let t := s.lockerFields n .unlatch r
  let l := t.locker n
  if l.state = .unlatching then
    let faulted := (t.setLocker n { l with master := false }).notify .lockerFault (some (.locker n)) (t.holderSerial n)
    if l.door = .opened then faulted.forceLocker n else faulted.enterLocker n (unlatchReturn l)
  else t

/-! ### Door events (R53, R54) -/

/-- A DOOR_OPEN event at locker `n` (R53). -/
def lockerDoorOpen (n : Nat) (s : State) : State :=
  let t := s.setLocker n { s.locker n with door := .opened }
  match (t.locker n).state with
  | .released | .closing => t.enterLocker n .opened
  | .locked | .orphaned => t.forceLocker n
  | _ => t

/-- A DOOR_CLOSED event at locker `n` (R54). -/
def lockerDoorClosed (n : Nat) (s : State) : State :=
  let t := s.setLocker n { s.locker n with door := .closed }
  if (t.locker n).state = .opened then t.enterLocker n .closing else t

end State

/-! ### ASSIGN_LOCKER (R59, R60) -/

/-- ASSIGN_LOCKER. -/
def assignLocker : Handler := fun req s =>
  match parseAssign req.body with
  | none => refuse .outOfRange s
  | some (serial, a) =>
    if !a.inRange then refuse .outOfRange s
    else
      match s.findSerial serial with
      | .error c => refuse c s
      | .ok (slot, b) =>
        if s.supply.supply = .hold then refuse .powerHold s
        else if b.state != .active || s.leaderRevoked b then refuse .wrongState s
        else
          match s.assignment a b.rank req.rank b.role (s.heldBy (b.holderSlot slot)) with
          | .error c => refuse c s
          | .ok n => accept (bytesOf 2 n) (s.reserve n (b.holderSlot slot))

/-- ASSIGN_LOCKER granted on port `p`. -/
def execAssignLocker (p : PortId) (s : State) : Host.Outcome State Fault Refusal :=
  .next (s.grantRequest p .assignLocker assignLocker)

/-! ### Attendant requests (R61 to R63) -/

/-- Checks 1 and 2 of R61, and then the request's own handling of the locker. -/
def onLocker (n : Nat) (s : State) (f : Locker → Answer × State) : Answer × State :=
  if n = 0 || decide (1024 < n) then refuse .outOfRange s
  else if (s.locker n).moving then refuse .lockerBusy s
  else f (s.locker n)

/-- Checks 5 and 6 of R61 for a request that must queue a command, and then its effect. -/
def queuing (addr : Nat) (s : State) (f : State → State) : Answer × State :=
  if s.isSilent addr then refuse .moduleSilent s
  else if s.queueFull then refuse .fieldBusy s
  else accept [] (f s)

/-- OPEN_LOCKER (R61). -/
def openLocker : Handler := fun req s =>
  match parseNumber 2 req.body with
  | none => refuse .outOfRange s
  | some n =>
    onLocker n s fun l =>
      match l.state with
      | .locked => queuing (lockerAt n).1 s fun t => t.unlatchLocker n true false
      | .fault => queuing (lockerAt n).1 s fun t => t.unlatchLocker n true l.holder.isNone
      | .orphaned => queuing (lockerAt n).1 s fun t => t.unlatchLocker n true true
      | _ => refuse .wrongState s

/-- OPEN_LOCKER granted on port `p`. -/
def execOpenLocker (p : PortId) (s : State) : Host.Outcome State Fault Refusal :=
  .next (s.grantRequest p .openLocker openLocker)

/-- A locker unbound and its UNLATCH queued with release (R62). -/
def State.releaseLatched (n : Nat) (s : State) : State := (s.unbindLocker n).unlatchLocker n false true

/-- A locker whose latch is free already, unbound and FREE at once (R62). -/
def State.releaseFree (n : Nat) (s : State) : State := (s.unbindLocker n).enterLocker n .free

/-- RELEASE_LOCKER (R62). -/
def releaseLocker : Handler := fun req s =>
  match parseNumber 2 req.body with
  | none => refuse .outOfRange s
  | some n =>
    onLocker n s fun l =>
      match l.state with
      | .locked | .fault | .orphaned => queuing (lockerAt n).1 s (State.releaseLatched n)
      | .forced =>
        if l.latch = .engaged then queuing (lockerAt n).1 s (State.releaseLatched n) else accept [] (s.releaseFree n)
      | .reserved | .released | .opened | .closing => accept [] (s.releaseFree n)
      | _ => refuse .wrongState s

/-- RELEASE_LOCKER granted on port `p`. -/
def execReleaseLocker (p : PortId) (s : State) : Host.Outcome State Fault Refusal :=
  .next (s.grantRequest p .releaseLocker releaseLocker)

/-- REARM_LOCKER (R61, R62). -/
def rearmLocker : Handler := fun req s =>
  match parseNumber 2 req.body with
  | none => refuse .outOfRange s
  | some n =>
    onLocker n s fun l =>
      if l.state != .forced then refuse .wrongState s
      else if l.door = .opened then refuse .doorOpen s
      else queuing (lockerAt n).1 s fun t => t.latchLocker n false

/-- REARM_LOCKER granted on port `p`. -/
def execRearmLocker (p : PortId) (s : State) : Host.Outcome State Fault Refusal :=
  .next (s.grantRequest p .rearmLocker rearmLocker)

/-- SET_LOCKER_SERVICE (R63): out takes a FREE locker, in an OUT_OF_SERVICE one. -/
def setLockerService : Handler := fun req s =>
  match parseLockerService req.body with
  | none => refuse .outOfRange s
  | some (n, back) =>
    onLocker n s fun l =>
      match back, l.state with
      | false, .free => accept [] (s.enterLocker n .outOfService)
      | true, .outOfService => accept [] (s.enterLocker n .free)
      | _, _ => refuse .wrongState s

/-- SET_LOCKER_SERVICE granted on port `p`. -/
def execSetLockerService (p : PortId) (s : State) : Host.Outcome State Fault Refusal :=
  .next (s.grantRequest p .setLockerService setLockerService)

/-- QUERY_LOCKER (R64). -/
def queryLocker : Handler := fun req s =>
  match parseNumber 2 req.body with
  | none => refuse .outOfRange s
  | some n => if n = 0 || decide (1024 < n) then refuse .outOfRange s else accept (s.lockerBytes n) s

/-- QUERY_LOCKER granted on port `p`. -/
def execQueryLocker (p : PortId) (s : State) : Host.Outcome State Fault Refusal :=
  .next (s.grantRequest p .queryLocker queryLocker)

end Sys2Proof.Machine
end

