-- ==== Sys2Proof/Machine/Cabins.lean ====
section
/-! DEFINITION. Changing cabins: presentations, command outcomes, the inside handle and the door, and the requests of the Cabins
group (chapter 4). -/

namespace Sys2Proof.Machine

namespace State

/-! ### Eligibility and presentations (R71 to R73) -/

/-- Does the cabin's kind fit the band (R71)? -/
def kindFits (s : State) (c : Nat) (b : Band) : Bool :=
  match s.cabinKind c with
  | .single => true
  | .family => b.inGroup
  | .staff => decide (b.rank ≤ 1)

/-- Is the band CLEARED? -/
def isClearedBand (b : Band) : Bool :=
  match b.state with
  | .cleared _ => true
  | _ => false

/-- Cabin `c` set as occupied, its LATCH queued, the cabin LATCHING (check 6 of R72). -/
def enterCabin (c slot : Nat) (s : State) : State :=
  let held := s.occupy c slot
  (held.setCabin c { held.cabin c with state := .latching }).queueCabin c .latch

/-- A presentation at a VACANT cabin whose command field is none: the checks of R72 in their order. -/
def presentVacant (s : State) (c slot : Nat) (b : Band) : State × Indication :=
  if (s.cabin c).door = .opened then (s, .amber)
  else if isClearedBand b then (s, .red)
  else if b.cabin.isSome then (s, .red)
  else if !s.kindFits c b then (s, .red)
  else s.ifRoom (enterCabin c slot)

/-- A presentation at cabin `c` by the band in `slot` (R72, Table 4-4). -/
def presentCabin (s : State) (c slot : Nat) (b : Band) : State × Indication :=
  let r := s.cabin c
  match r.state with
  | .vacant => if r.command.isNone then s.presentVacant c slot b else (s, .amber)
  | .occupied => if r.occupant = some slot then s.ifRoom fun t => t.unlatchCabin c else (s, .red)
  | .latching | .unlatching => (s, .amber)
  | .outOfService | .unfitted => (s, .red)

/-! ### Command outcomes (R74 to R76) -/

/-- Cabin `c`'s door and latch fields set by an outcome, and its command field cleared (Table 4-3, R69). -/
def cabinFields (s : State) (c : Nat) (a : Action) (r : CommandResult) : State :=
  let k := s.cabin c
  s.setCabin c { k with door := outcomeDoor a r k.door, latch := outcomeLatch a r k.latch, command := none }

/-- A late LATCH DONE at a VACANT cabin: the UNLATCH that corrects it, or LOCKER_FAULT when the queue is full (R76). -/
def correctLatch (s : State) (c : Nat) : State :=
  if s.queueFull then s.notify .lockerFault (some (.cabin c)) none else s.unlatchCabin c

/-- LATCH DONE at a cabin (R74); late, R76. -/
def cabinLatchDone (c : Nat) (s : State) : State :=
  let t := s.cabinFields c .latch .done
  match (t.cabin c).state with
  | .latching => t.setCabin c ((t.cabin c).enter .occupied t.now)
  | .vacant => t.correctLatch c
  | _ => t

/-- LATCH DOOR_OPEN at a cabin (R74); late, only the fields (R76). -/
def cabinLatchDoorOpen (c : Nat) (s : State) : State :=
  let t := s.cabinFields c .latch .doorOpen
  if (t.cabin c).state = .latching then t.vacate c else t

/-- LATCH JAMMED or FAILED at a cabin (R74); late, LOCKER_FAULT with no serial (R76), and at an UNFITTED cabin the fields
only. -/
def cabinLatchFails (r : CommandResult) (c : Nat) (s : State) : State :=
  let t := s.cabinFields c .latch r
  match (t.cabin c).state with
  | .latching => (t.vacate c).notify .lockerFault (some (.cabin c)) (t.occupantSerial c)
  | .unfitted => t
  | _ => t.notify .lockerFault (some (.cabin c)) none

/-- UNLATCH DONE at a cabin (R75); late, only the fields (R76). -/
def cabinUnlatchDone (c : Nat) (s : State) : State :=
  let t := s.cabinFields c .unlatch .done
  if (t.cabin c).state = .unlatching then t.vacate c else t

/-- UNLATCH JAMMED or FAILED at a cabin (R75); late, only the fields (R76). -/
def cabinUnlatchFails (r : CommandResult) (c : Nat) (s : State) : State :=
  let t := s.cabinFields c .unlatch r
  let k := t.cabin c
  if k.state = .unlatching then
    let back := if k.door != .opened && k.occupant.isSome then t.setCabin c { k with state := .occupied } else t.vacate c
    back.notify .lockerFault (some (.cabin c)) (t.occupantSerial c)
  else t

/-! ### The inside handle and the door (R77, R78) -/

/-- A HANDLE event at cabin `c` (R77); the command field is kept. -/
def cabinHandle (c : Nat) (s : State) : State :=
  let t := s.setCabin c { s.cabin c with latch := .free }
  match (t.cabin c).state with
  | .occupied | .latching | .unlatching => t.vacate c
  | _ => t

/-- A DOOR_OPEN event at cabin `c` (R78). -/
def cabinDoorOpen (c : Nat) (s : State) : State :=
  let t := s.setCabin c { s.cabin c with door := .opened }
  if (t.cabin c).state = .occupied then t.forceCabin c else t

/-- A DOOR_CLOSED event at cabin `c` (R78). -/
def cabinDoorClosed (c : Nat) (s : State) : State := s.setCabin c { s.cabin c with door := .closed }

end State

/-! ### Requests (R81, R82) -/

/-- Checks 1 and 2 of R81, and then the request's own handling of the cabin. -/
def onCabin (c : Nat) (s : State) (f : Cabin → Answer × State) : Answer × State :=
  if c = 0 || decide (64 < c) then refuse .outOfRange s
  else if (s.cabin c).moving || (s.cabin c).command.isSome then refuse .lockerBusy s
  else f (s.cabin c)

/-- OPEN_CABIN (R81): an OCCUPIED cabin, or a VACANT one whose latch is ENGAGED or UNKNOWN. -/
def openCabin : Handler := fun req s =>
  match parseNumber 1 req.body with
  | none => refuse .outOfRange s
  | some c =>
    onCabin c s fun k =>
      match k.state with
      | .occupied => queuing (cabinAt c).1 s fun t => t.unlatchCabin c
      | .vacant => if k.latch = .free then refuse .wrongState s else queuing (cabinAt c).1 s fun t => t.unlatchCabin c
      | _ => refuse .wrongState s

/-- OPEN_CABIN granted on port `p`. -/
def execOpenCabin (p : PortId) (s : State) : Host.Outcome State Fault Refusal :=
  .next (s.grantRequest p .openCabin openCabin)

/-- SET_CABIN_SERVICE (R82): out takes a VACANT cabin, in an OUT_OF_SERVICE one. -/
def setCabinService : Handler := fun req s =>
  match parseCabinService req.body with
  | none => refuse .outOfRange s
  | some (c, back) =>
    onCabin c s fun k =>
      match back, k.state with
      | false, .vacant => accept [] (s.setCabin c (k.enter .outOfService s.now))
      | true, .outOfService => accept [] (s.setCabin c (k.enter .vacant s.now))
      | _, _ => refuse .wrongState s

/-- SET_CABIN_SERVICE granted on port `p`. -/
def execSetCabinService (p : PortId) (s : State) : Host.Outcome State Fault Refusal :=
  .next (s.grantRequest p .setCabinService setCabinService)

/-- QUERY_CABIN (R82). -/
def queryCabin : Handler := fun req s =>
  match parseNumber 1 req.body with
  | none => refuse .outOfRange s
  | some c => if c = 0 || decide (64 < c) then refuse .outOfRange s else accept (s.cabinBytes c) s

/-- QUERY_CABIN granted on port `p`. -/
def execQueryCabin (p : PortId) (s : State) : Host.Outcome State Fault Refusal :=
  .next (s.grantRequest p .queryCabin queryCabin)

end Sys2Proof.Machine
end

