-- ==== Sys2Proof/Machine/Events.lean ====
section
/-! DEFINITION. The field engine's waiting item under its grant: presentations, door and handle events, and command outcomes
(R6, R48 to R54, R74 to R78, R120, R153, R154). -/

namespace Sys2Proof.Machine

namespace State

/-! ### Presentations (R6, R153) -/

/-- A presentation at a place decided by the locker or cabin rules for the band found. -/
def presentAt (s : State) (place : Place) (slot : Nat) (b : Band) : State × Indication :=
  match place with
  | .locker n => s.presentLocker n slot b
  | .cabin c => s.presentCabin c slot b
  | .station _ => (s, .red)

/-- A presentation of a serial at a place: the watches consulted, the lookup of R6, and the decision. -/
def decidePresentation (s : State) (place : Place) (serial : Nat) : State × Indication :=
  match s.findSerial serial with
  | .error _ => (s.notify .unknownPresented (some place) (some serial), .red)
  | .ok (slot, b) =>
    let seen := s.updBand slot fun r => { r with lastPlace := some { place := place, time := s.now } }
    if b.state = .revoked then (seen.notify .revokedPresented (some place) (some serial), .red)
    else if s.stopped serial then (seen, .red)
    else seen.presentAt place slot b

/-- A PRESENT event handled: decided, indicated at the reader (R122), and reported to the watches (R154). -/
def presentation (addr pos serial : Nat) (s : State) : State :=
  let place := placeAt addr pos
  let decided := s.decidePresentation place serial
  let told := (decided.1.indicate addr pos decided.2).watchEvent place .presented (some serial)
  if decided.2 = .red then told.watchEvent place .refused (some serial) else told

/-! ### Door and handle events (R53, R54, R77, R78) -/

/-- A DOOR_OPEN event handled, then reported to the watches (R154). -/
def doorOpenAt (place : Place) (s : State) : State :=
  let moved := match place with
    | .locker n => s.lockerDoorOpen n
    | .cabin c => s.cabinDoorOpen c
    | .station _ => s
  moved.watchEvent place .doorOpened none

/-- A DOOR_CLOSED event handled. -/
def doorClosedAt (place : Place) (s : State) : State :=
  match place with
  | .locker n => s.lockerDoorClosed n
  | .cabin c => s.cabinDoorClosed c
  | .station _ => s

/-- A HANDLE event handled; only cabins have an inside handle. -/
def handleAt (place : Place) (s : State) : State :=
  match place with
  | .cabin c => s.cabinHandle c
  | _ => s

/-! ### Command outcomes (R48 to R52, R74 to R76) -/

/-- LATCH DONE handled, then reported to the watches. -/
def latchDoneAt (place : Place) (s : State) : State :=
  let moved := match place with
    | .locker n => s.lockerLatchDone n
    | .cabin c => s.cabinLatchDone c
    | .station _ => s
  moved.watchEvent place .latched none

/-- LATCH DOOR_OPEN handled. -/
def latchDoorOpenAt (place : Place) (s : State) : State :=
  match place with
  | .locker n => s.lockerLatchDoorOpen n
  | .cabin c => s.cabinLatchDoorOpen c
  | .station _ => s

/-- LATCH JAMMED or FAILED handled. -/
def latchFailsAt (r : CommandResult) (place : Place) (s : State) : State :=
  match place with
  | .locker n => s.lockerLatchFails r n
  | .cabin c => s.cabinLatchFails r c
  | .station _ => s

/-- UNLATCH DONE handled, then reported to the watches. -/
def unlatchDoneAt (place : Place) (s : State) : State :=
  let moved := match place with
    | .locker n => s.lockerUnlatchDone n
    | .cabin c => s.cabinUnlatchDone c
    | .station _ => s
  moved.watchEvent place .unlatched none

/-- UNLATCH JAMMED or FAILED handled. -/
def unlatchFailsAt (r : CommandResult) (place : Place) (s : State) : State :=
  match place with
  | .locker n => s.lockerUnlatchFails r n
  | .cabin c => s.cabinUnlatchFails r c
  | .station _ => s

/-- The outcome item of an action and a result, handled at its target. -/
def grantOutcome (s : State) (a : Action) (r : CommandResult) (f : Place → State → State) : State :=
  s.grantItem fun item =>
    match item with
    | .outcome cmd result => if cmd.action = a ∧ result = r then some (f cmd.target) else none
    | _ => none

end State

/-- PRESENT: a PRESENT event granted (R6). -/
def execPresent (s : State) : Host.Outcome State Fault Refusal :=
  .next (s.grantItem fun item =>
    match item with
    | .event addr (.present pos serial) => some (State.presentation addr pos serial)
    | _ => none)

/-- HELD_PRESENT_REFUSED: a PRESENT that met a held module is removed from the list and answered RED at the module,
without a grant (R120). -/
def execHeldPresentRefused (s : State) : Host.Outcome State Fault Refusal :=
  match s.field.handover with
  | .event addr (.present pos _) :: _ =>
    .next (if s.running && s.field.waitingHeld then (s.indicate addr pos .red).popHead else s)
  | _ => .next s

/-- DOOR_OPEN: a DOOR_OPEN event granted (R53, R78). -/
def execDoorOpen (s : State) : Host.Outcome State Fault Refusal :=
  .next (s.grantItem fun item =>
    match item with
    | .event addr (.doorOpen pos) => some (State.doorOpenAt (placeAt addr pos))
    | _ => none)

/-- DOOR_CLOSED: a DOOR_CLOSED event granted (R54, R78). -/
def execDoorClosed (s : State) : Host.Outcome State Fault Refusal :=
  .next (s.grantItem fun item =>
    match item with
    | .event addr (.doorClosed pos) => some (State.doorClosedAt (placeAt addr pos))
    | _ => none)

/-- HANDLE: a HANDLE event granted (R77). -/
def execHandle (s : State) : Host.Outcome State Fault Refusal :=
  .next (s.grantItem fun item =>
    match item with
    | .event addr (.handle pos) => some (State.handleAt (placeAt addr pos))
    | _ => none)

/-- LATCH_DONE: a LATCH DONE outcome granted (R48, R74, R76). -/
def execLatchDone (s : State) : Host.Outcome State Fault Refusal :=
  .next (s.grantOutcome .latch .done State.latchDoneAt)

/-- LATCH_DOOR_OPEN: a LATCH DOOR_OPEN outcome granted (R49, R74, R76). -/
def execLatchDoorOpen (s : State) : Host.Outcome State Fault Refusal :=
  .next (s.grantOutcome .latch .doorOpen State.latchDoorOpenAt)

/-- LATCH_JAMMED: a LATCH JAMMED outcome granted (R50, R74, R76). -/
def execLatchJammed (s : State) : Host.Outcome State Fault Refusal :=
  .next (s.grantOutcome .latch .jammed (State.latchFailsAt .jammed))

/-- LATCH_FAILED: a LATCH FAILED outcome granted (R50, R74, R76). -/
def execLatchFailed (s : State) : Host.Outcome State Fault Refusal :=
  .next (s.grantOutcome .latch .failed (State.latchFailsAt .failed))

/-- UNLATCH_DONE: an UNLATCH DONE outcome granted (R51, R75, R76). -/
def execUnlatchDone (s : State) : Host.Outcome State Fault Refusal :=
  .next (s.grantOutcome .unlatch .done State.unlatchDoneAt)

/-- UNLATCH_JAMMED: an UNLATCH JAMMED outcome granted (R52, R75, R76). -/
def execUnlatchJammed (s : State) : Host.Outcome State Fault Refusal :=
  .next (s.grantOutcome .unlatch .jammed (State.unlatchFailsAt .jammed))

/-- UNLATCH_FAILED: an UNLATCH FAILED outcome granted (R52, R75, R76). -/
def execUnlatchFailed (s : State) : Host.Outcome State Fault Refusal :=
  .next (s.grantOutcome .unlatch .failed (State.unlatchFailsAt .failed))

end Sys2Proof.Machine
end

