-- ==== Sys2Proof/Machine/Modules.lean ====
section
/-! DEFINITION. The requests of the Modules group: SET_MODULES, HOLD_MODULE, RELEASE_MODULE and QUERY_MODULE (R112, R129, R130). -/

namespace Sys2Proof.Machine

/-- The lockers a module serves, in position order; none for a cabin module (Table 6-1). -/
def moduleLockers (addr : Nat) : List Nat := if isCabinModule addr then [] else (List.range 8).map (8 * (addr - 1) + · + 1)

/-- The cabins a module serves, in position order; none for a lock module (Table 6-1). -/
def moduleCabins (addr : Nat) : List Nat := if isCabinModule addr then (List.range 4).map (4 * (addr - 129) + · + 1) else []

namespace State

/-- The module's configured and hold_on_force settings, and its cabins' kinds, replaced (R111, R112). -/
def writeModuleSetting (s : State) (r : ModulesRequest) : State :=
  let kinds := ((moduleCabins r.addr).zip r.kinds).foldl (fun t e => tableSet t (e.1 - 1) e.2) s.settings.cabinKinds
  let setting : ModuleSetting := { configured := r.configured, holdOnForce := r.holdOnForce }
  { s with settings.modules := tableSet s.settings.modules (r.addr - 1) setting, settings.cabinKinds := kinds }

/-- A cabin given a state by SET_MODULES: no occupant, stage 0, door and latch UNKNOWN, its command field kept (R112). -/
def resetCabin (st : CabinState) (s : State) (c : Nat) : State :=
  s.setCabin c { Cabin.blank st s.now with command := (s.cabin c).command }

/-- A locker given a state by SET_MODULES (R112). -/
def resetLocker (st : LockerState) (s : State) (n : Nat) : State := s.setLocker n (Locker.blank st s.now)

/-- An unconfigured module configured (R112). -/
def configure (s : State) (addr : Nat) : State :=
  let lockers := (moduleLockers addr).foldl (resetLocker .free) s
  let cabins := (moduleCabins addr).foldl (resetCabin .vacant) lockers
  (cabins.setModule addr (Module.blank true)).supersede (.held addr false)

/-- The outcome FAILED for every queue entry of a module, in queue order, the entries removed (R112, R127). -/
def failEntries (s : State) (addr : Nat) : State :=
  let mine := s.field.queue.filter fun c => c.addr == addr
  { s with field.queue := s.field.queue.filter fun c => c.addr != addr }.handOver
    (mine.map fun c => .outcome c .failed)

/-- Every pending indication of a module record cleared (R122). -/
def clearIndications (m : Module) : Module :=
  { m with positions := tableMap (fun _ q => { q with shown := none }) m.positions }

/-- A configured module unconfigured (R112). -/
def unconfigure (s : State) (addr : Nat) : State :=
  let lockers := (moduleLockers addr).foldl (resetLocker .unfitted) s
  let cabins := (moduleCabins addr).foldl (resetCabin .unfitted) lockers
  let cleared := cabins.setModule addr
    { clearIndications (cabins.module addr) with held := false, resync := false, coldRead := false }
  (cleared.supersede (.held addr false)).failEntries addr

end State

/-- SET_MODULES (R112). -/
def setModules : Handler := fun req s =>
  match parseModules req.body with
  | none => refuse .outOfRange s
  | some r =>
    if r.addr = 0 || decide (144 < r.addr) then refuse .outOfRange s
    else
      let was := s.configured r.addr
      if was && !r.configured then
        if (moduleLockers r.addr).any fun n => (s.locker n).moving then refuse .lockerBusy s
        else if (moduleLockers r.addr).any (fun n => (s.locker n).holder.isSome) ||
            (moduleCabins r.addr).any (fun c => (s.cabin c).occupant.isSome) then refuse .holdsLocker s
        else accept [] ((s.writeModuleSetting r).unconfigure r.addr)
      else if !was && r.configured then accept [] ((s.writeModuleSetting r).configure r.addr)
      else accept [] (s.writeModuleSetting r)

/-- SET_MODULES granted on port `p`. -/
def execSetModules (p : PortId) (s : State) : Host.Outcome State Fault Refusal :=
  .next (s.grantRequest p .setModules setModules)

/-- HOLD_MODULE and RELEASE_MODULE on port `p`: the held flag set or cleared (R129). -/
def setHeld (held : Bool) (p : PortId) : Handler := fun req s =>
  match parseNumber 1 req.body with
  | none => refuse .outOfRange s
  | some addr =>
    if addr = 0 || decide (144 < addr) then refuse .outOfRange s
    else if !s.configured addr then refuse .wrongState s
    else
      accept [] ((s.remember p (.held addr (s.module addr).held)).setModule addr { s.module addr with held := held })

/-- HOLD_MODULE taken by the field engine (R129). -/
def execHoldModule (p : PortId) (s : State) : Host.Outcome State Fault Refusal :=
  .next (s.takeRequest p .holdModule (setHeld true p))

/-- RELEASE_MODULE taken by the field engine (R129). -/
def execReleaseModule (p : PortId) (s : State) : Host.Outcome State Fault Refusal :=
  .next (s.takeRequest p .releaseModule (setHeld false p))

/-- QUERY_MODULE (R130). -/
def queryModule : Handler := fun req s =>
  match parseNumber 1 req.body with
  | none => refuse .outOfRange s
  | some addr => if addr = 0 || decide (144 < addr) then refuse .outOfRange s else accept (s.moduleBytes addr) s

/-- QUERY_MODULE taken by the field engine (R130). -/
def execQueryModule (p : PortId) (s : State) : Host.Outcome State Fault Refusal :=
  .next (s.takeRequest p .queryModule queryModule)

end Sys2Proof.Machine
end

