-- ==== Sys2Proof/Machine/Loop.lean ====
section
/-! DEFINITION. The field engine on the loop: who gets the next turn, the frames it sends, a module's reply checked and taken, and
attempts that fail (chapter 6, sections 6.2 to 6.6; section 13.4). -/

namespace Sys2Proof.Machine

/-! ### Frames (Tables 13-8 and 13-9) -/

/-- A field loop request frame: address, function, data length, data, CRC-8. -/
def loopFrame (addr function : Nat) (data : List Byte) : List Byte :=
  let inner := bytesOf 1 addr ++ bytesOf 1 function ++ bytesOf 1 data.length ++ data
  inner ++ [crc8 inner]

namespace State

/-- The POLL frame of a module: show flag, set in supply state HOLD, and each position's pending indication
(R114, R117). -/
def pollFrame (s : State) (addr : Nat) : List Byte :=
  let shown := ((s.module addr).positions.toList.take (positionCount addr)).flatMap fun q => bytesOf 1 (indicationCode q.shown)
  loopFrame addr 1 (bytesOf 1 (yesNo (s.supply.supply == .hold)) ++ shown)

/-! ### Whose turn it is (R117, R123, R124) -/

/-- Is the address due in a cycle with this count (R123)? -/
def dueIn (s : State) (cycle addr : Nat) : Bool := s.configured addr && (!s.isSilent addr || cycle == 0)

/-- The first address from `start` up that is due in a cycle with this count. -/
def firstDue (s : State) (cycle start : Nat) : Option Nat :=
  ((List.range 144).map (· + 1)).find? fun a => decide (start ≤ a) && s.dueIn cycle a

/-- The address of the next poll turn and the count of the cycle it falls in: in this cycle, in the next, or, when every
configured module is SILENT, in the next whose count is 0; cycles with nothing due take no time (R123).  With no module
configured every cycle is empty, each complete at once, and R123 says no count at which that stops: the walk finds nothing
then, and the poll position and the cycle count stand as they are until a module is configured (DESIGN CHOICE, unsafe,
assumption 25). -/
def nextDue (s : State) : Option (Nat × Nat) :=
  match s.firstDue s.field.cycle s.field.pollPosition with
  | some a => some (a, s.field.cycle)
  | none =>
    match s.firstDue ((s.field.cycle + 1) % 16) 1 with
    | some a => some (a, (s.field.cycle + 1) % 16)
    | none => (s.firstDue 0 1).map fun a => (a, 0)

end State

/-- What the field engine does next (R124). -/
inductive NextTurn where
  | broadcast (b : Show)
  | poll (addr cycle : Nat)
  | command (cmd : Command)
  deriving DecidableEq, Repr, Inhabited

namespace State

/-- May the field engine begin an exchange: it runs, none is in progress, the hand-over list is empty and the start delay
has passed (R119, R124, R136)? -/
def mayBegin (s : State) : Bool :=
  s.running && s.field.exchange.isNone && s.field.handover.isEmpty && !s.field.startDelay

/-- The choice of R124. -/
def choice (s : State) : Option NextTurn :=
  match s.field.broadcast with
  | some b => some (.broadcast b)
  | none =>
    let poll := s.nextDue.map fun d => NextTurn.poll d.1 d.2
    let command := s.field.queue.head?.map NextTurn.command
    match s.field.lastTurn with
    | .poll => command.or poll
    | .command => poll.or command

/-- The next turn, when the field engine may begin one. -/
def turn (s : State) : Option NextTurn := if s.mayBegin then s.choice else none

/-- A poll turn begun at an address: the walk passes it, and the cycle count advances past address 144 (R123). -/
def beginPoll (s : State) (addr cycle : Nat) (kind : ExchangeKind) (frame : List Byte) : State :=
  { s with
    field.exchange := some { kind := kind, addr := addr, attempt := 1, frame := frame, renewed := [] },
    field.pollPosition := if addr = 144 then 1 else addr + 1,
    field.cycle := if addr = 144 then (cycle + 1) % 16 else cycle,
    field.lastTurn := .poll,
    field.lineFrame := frame }

/-- A command turn begun: the head entry leaves the queue (R126). -/
def beginCommand (s : State) (cmd : Command) (function : Nat) : State :=
  let frame := loopFrame cmd.addr function (bytesOf 1 cmd.pos)
  { s with
    field.exchange := some { kind := .command cmd, addr := cmd.addr, attempt := 1, frame := frame, renewed := [] },
    field.queue := s.field.queue.drop 1,
    field.lastTurn := .command,
    field.lineFrame := frame }

/-- A broadcast sent to address 0: no reply, no attempts, the alternation left as it stood (R117). -/
def sendBroadcast (s : State) (function : Nat) : State :=
  { s with field.broadcast := none, field.lineFrame := loopFrame 0 function [] }

end State

/-- POLL: a poll turn at a due module without resync pending (R114, R123). -/
def execPoll (s : State) : Host.Outcome State Fault Refusal :=
  match s.turn with
  | some (.poll a c) => .next (if (s.module a).resync then s else s.beginPoll a c .poll (s.pollFrame a))
  | _ => .next s

/-- READ_STATE: a poll turn at a due module with resync pending (R116, R123). -/
def execReadState (s : State) : Host.Outcome State Fault Refusal :=
  match s.turn with
  | some (.poll a c) => .next (if (s.module a).resync then s.beginPoll a c .readState (loopFrame a 4 []) else s)
  | _ => .next s

/-- LATCH: a command turn whose head entry is a LATCH (R115, R126). -/
def execLatch (s : State) : Host.Outcome State Fault Refusal :=
  match s.turn with
  | some (.command cmd) => .next (if cmd.action = .latch then s.beginCommand cmd 2 else s)
  | _ => .next s

/-- UNLATCH: a command turn whose head entry is an UNLATCH (R115, R126). -/
def execUnlatch (s : State) : Host.Outcome State Fault Refusal :=
  match s.turn with
  | some (.command cmd) => .next (if cmd.action = .unlatch then s.beginCommand cmd 3 else s)
  | _ => .next s

/-- HOLD_SHOW: the pending broadcast HOLD_SHOW is sent (R117). -/
def execHoldShow (s : State) : Host.Outcome State Fault Refusal :=
  match s.turn with
  | some (.broadcast .hold) => .next (s.sendBroadcast 5)
  | _ => .next s

/-- CLEAR_SHOW: the pending broadcast CLEAR_SHOW is sent (R117). -/
def execClearShow (s : State) : Host.Outcome State Fault Refusal :=
  match s.turn with
  | some (.broadcast .clear) => .next (s.sendBroadcast 6)
  | _ => .next s

/-- FIELD_START_DELAY: one second after a start the field engine may begin exchanges (R136). -/
def execFieldStartDelay (s : State) : Host.Outcome State Fault Refusal :=
  .next (if s.running then { s with field.startDelay := false } else s)

/-! ### A module's reply (R113, R197) -/

/-- The data of a reply frame that comes from the addressed module, answers the request's function, has the length it
names and passes its CRC-8. -/
def replyData (x : Exchange) (bytes : List Byte) : Option (List Byte) :=
  match bytes with
  | a :: f :: m :: rest =>
    if a.toNat = x.addr ∧ f.toNat = functionCode x.kind + 128 ∧ rest.length = m.toNat + 1 ∧
        rest.getLast? = some (crc8 bytes.dropLast) then some rest.dropLast
    else none
  | _ => none

/-- One event of a POLL reply: type, position, serial (section 13.4).  It names a position the module has, and HANDLE only
at a cabin module (R113). -/
def eventOf (addr : Nat) (bytes : List Byte) : Option Event :=
  let pos := byteAt bytes 1
  if positionCount addr ≤ pos then none
  else
    match byteAt bytes 0 with
    | 1 => some (.present pos (fieldAt bytes 2 4))
    | 2 => some (.doorOpen pos)
    | 3 => some (.doorClosed pos)
    | 4 => if isCabinModule addr then some (.handle pos) else none
    | _ => none

/-- The events of a POLL reply, six bytes each, in the reply's order. -/
def eventsOf (addr : Nat) : Nat → List Byte → Option (List Event)
  | 0, _ => some []
  | n + 1, bytes =>
    match eventOf addr (bytes.take 6), eventsOf addr n (bytes.drop 6) with
    | some e, some rest => some (e :: rest)
    | _, _ => none

/-- What a valid reply says. -/
inductive ReplyContent where
  | poll (lost : Bool) (events : List Event)
  | outcome (cmd : Command) (result : CommandResult)
  | readings (cells : List Reading)
  deriving DecidableEq, Repr, Inhabited

/-- The outcome that a reply to a LATCH or an UNLATCH lists (Table 13-9); DOOR_OPEN answers a LATCH only (R197). -/
def resultOf (a : Action) : Nat → Option CommandResult
  | 0 => some .done
  | 1 => if a = .latch then some .doorOpen else none
  | 2 => some .jammed
  | _ => none

/-- The content of a reply's data for the exchange it answers, when its length agrees with its function and contents
(R197). -/
def contentOf (x : Exchange) (data : List Byte) : Option ReplyContent :=
  match x.kind with
  | .poll =>
    match data with
    | status :: count :: rest =>
      if count.toNat ≤ 4 ∧ rest.length = 6 * count.toNat then
        (eventsOf x.addr count.toNat rest).map (ReplyContent.poll (status.getLsbD 0))
      else none
    | _ => none
  | .command cmd =>
    match data with
    | [o] => (resultOf cmd.action o.toNat).map (ReplyContent.outcome cmd)
    | _ => none
  | .readState =>
    if data.length = positionCount x.addr then
      some (.readings (data.map fun b => { engaged := b.getLsbD 0, doorOpen := b.getLsbD 1 }))
    else none

/-- What a valid reply to the exchange says, or none when the reply fails a test (R113, R197). -/
def checkReply (x : Exchange) (bytes : List Byte) : Option ReplyContent := (replyData x bytes).bind (contentOf x)

/-! ### An exchange that ends (R113 to R116, R121, R127, R128) -/

/-- A latch position as a reading gives it. -/
def Reading.latch (r : Reading) : Latch := if r.engaged then .engaged else .free

/-- A door position as a reading gives it. -/
def Reading.door (r : Reading) : Door := if r.doorOpen then .opened else .closed

/-- A position's latch and door after an outcome of its command (R115). -/
def Position.after (a : Action) (r : CommandResult) (q : Position) : Position :=
  { q with latch := outcomeLatch a r q.latch, door := outcomeDoor a r q.door }

namespace State

/-- The exchange in progress is cleared. -/
def endExchange (s : State) : State := { s with field.exchange := none }

/-- A successful exchange: the failure count is 0, and a SILENT module is back, with resync pending and MODULE_BACK
(R127, R128). -/
def moduleAnswered (s : State) (addr : Nat) : State :=
  let m := s.module addr
  let online := s.setModule addr { m with silent := false, failures := 0, resync := m.resync || m.silent }
  if m.silent then online.notify .moduleBack (some (.station addr)) none else online

/-- The indications a POLL carried are cleared, but for positions given a new one meanwhile (R114). -/
def clearCarried (s : State) (addr : Nat) (renewed : List Nat) : State :=
  let m := s.module addr
  s.setModule addr
    { m with positions := tableMap (fun i q => if renewed.contains i then q else { q with shown := none }) m.positions }

/-- What a successful POLL yields: the events, and resync pending when some were lost (R114, R121). -/
def pollYields (s : State) (addr : Nat) (lost : Bool) (events : List Event) : State :=
  let marked := if lost then s.setModule addr { s.module addr with resync := true } else s
  marked.handOver (events.map (HandItem.event addr))

/-- A module record's positions set from a READ_STATE reply (R116). -/
def readPositions (s : State) (addr : Nat) (cells : List Reading) : State :=
  cells.zipIdx.foldl
    (fun t e => t.updPosition addr e.2 fun q => { q with latch := e.1.latch, door := e.1.door }) s

/-- An exchange ended by a valid reply (R113 to R116, R121, R128). -/
def succeed (s : State) (x : Exchange) (content : ReplyContent) : State :=
  let t := s.endExchange.moduleAnswered x.addr
  match content with
  | .poll lost events =>
    let cleared := t.clearCarried x.addr x.renewed
    if s.isSilent x.addr then cleared else cleared.pollYields x.addr lost events
  | .outcome cmd r => (t.updPosition cmd.addr cmd.pos (Position.after cmd.action r)).handOver [.outcome cmd r]
  | .readings cells => (t.readPositions x.addr cells).handOver [.report x.addr cells (s.module x.addr).coldRead]

/-- The outcome FAILED of an exchange that carried a command (R115). -/
def failOutcome (s : State) (x : Exchange) : State :=
  match x.kind with
  | .command cmd => (s.updPosition cmd.addr cmd.pos (Position.after cmd.action .failed)).handOver [.outcome cmd .failed]
  | _ => s

/-- A module that becomes SILENT: MODULE_SILENT, its indications cleared, and FAILED for each of its queue entries
(R127). -/
def silence (s : State) (addr : Nat) : State :=
  let quiet := s.setModule addr { clearIndications (s.module addr) with silent := true }
  (quiet.notify .moduleSilent (some (.station addr)) none).failEntries addr

/-- An exchange ended FAILED: the failure count rises, up to 3, and at 3 an ONLINE module becomes SILENT (R113, R127). -/
def fail (s : State) (x : Exchange) : State :=
  let m := s.module x.addr
  let counted := s.endExchange.setModule x.addr { m with failures := min 3 (m.failures + 1) }
  let passed := counted.failOutcome x
  if 2 ≤ m.failures ∧ m.silent = false then passed.silence x.addr else passed

/-- An attempt that fails: the same request is sent again, or after the third the exchange ends FAILED (R113). -/
def attemptFails (s : State) (x : Exchange) : State :=
  if x.attempt < 3 then
    { s with field.exchange := some { x with attempt := x.attempt + 1 }, field.lineFrame := x.frame }
  else s.fail x

end State

/-- MODULE_REPLY: a reply arrives while an attempt waits; a valid one ends the exchange, another fails the attempt
(R113, R197).  Bytes that arrive when no attempt waits are discarded. -/
def execModuleReply (bytes : List Byte) (s : State) : Host.Outcome State Fault Refusal :=
  match s.field.exchange with
  | none => .next s
  | some x =>
    if !s.running then .next s
    else
      match checkReply x bytes with
      | some content => .next (s.succeed x content)
      | none => .next (s.attemptFails x)

/-- ATTEMPT_TIMEOUT: 10 ms pass without a reply, and the attempt fails (R113). -/
def execAttemptTimeout (s : State) : Host.Outcome State Fault Refusal :=
  match s.field.exchange with
  | none => .next s
  | some x => .next (if s.running then s.attemptFails x else s)

end Sys2Proof.Machine
end

