-- ==== Sys2Proof/Machine/Notices.lean ====
section
/-! DEFINITION. The notice unit: notices taken, routed and queued, the alarm list and its escalation, and the requests of the
Notices group (chapter 9). -/

namespace Sys2Proof.Machine

/-! ### Priorities and queues (R160, R163, R164) -/

/-- The three alarm kinds (Table 9-2). -/
def isAlarm : NoticeKind → Bool
  | .lockerForced | .cabinForced | .cabinOverholdLong => true
  | _ => false

/-- The priority a notice is given as it is taken (R160). -/
def State.priorityOf (s : State) (n : Raised) : Nat :=
  match n.hit with
  | some h => h.priority
  | none => if isAlarm n.kind then 7 else tableGet s.settings.priorities 0 (noticeCode n.kind - 1)

/-- A notice joining a queue: after every notice of the same or higher priority, before every lower one (R163). -/
def insertNotice (n : Notice) (q : List Notice) : List Notice :=
  q.takeWhile (fun m => decide (n.priority ≤ m.priority)) ++ n :: q.dropWhile fun m => decide (n.priority ≤ m.priority)

/-- The lowest priority present, which is the last notice's (R163, R164). -/
def lowestPriority (q : List Notice) : Nat := (q.getLast?.map (·.priority)).getD 0

/-- The queue after a new notice (R163, R164): on a full queue the youngest of the lowest priority gives way to a higher
one. -/
def queueAfter (n : Notice) (q : List Notice) : List Notice :=
  if q.length < Config.noticeCapacity then insertNotice n q
  else if lowestPriority q < n.priority then insertNotice n q.dropLast
  else q

/-- Is the notice routed to the port (R162)? -/
def State.routedTo (s : State) (p : PortId) (n : Notice) : Bool :=
  (s.portPermitted p).getLsbD (kindCode .readNotice - 1) &&
    (decide (s.settings.thresholds.get p ≤ n.priority) || (isAlarm n.body.kind && p == .cp2) ||
      n.body.kind == .powerWarn)

/-- One copy of the notice placed in the port's queue when it is routed there; a full queue sets the overflow flag
(R162 to R164). -/
def State.routeNotice (n : Notice) (s : State) (p : PortId) : State :=
  if s.routedTo p n then
    let placed := s.setQueue p (queueAfter n (s.queue p))
    if (s.queue p).length < Config.noticeCapacity then placed else placed.setOverflow p true
  else s

/-! ### The alarm list (R167 to R169) -/

/-- Does the alarm list hold a record of the same kind and place (R167)? -/
def State.alarmListed (s : State) (kind : NoticeKind) (place : Option Place) : Bool :=
  s.notices.alarms.any fun a => a.kind == kind && a.place == place

/-- An alarm notice entered in an alarm list with its overflow flag: not again when it is listed, and a full list sets the
flag instead (R167). -/
def alarmEntered (n : Raised) (escalation : Nat) (a : List Alarm × Bool) : List Alarm × Bool :=
  if a.1.any fun r => r.kind == n.kind && r.place == n.place then a
  else if a.1.length < Config.alarmCapacity then
    let record : Alarm := { kind := n.kind, place := n.place, raised := n.time, countdown := escalation, escalated := false }
    (a.1 ++ [record], a.2)
  else (a.1, true)

/-- An alarm notice entered in the alarm list, its countdown at the escalation window (R167, R168). -/
def State.enterAlarm (s : State) (n : Raised) : State := s.onAlarms (alarmEntered n s.settings.windows.escalation)

/-- A notice taken by the notice unit: priority, alarm list, routing (R159 to R167). -/
def State.takeNotice (s : State) (n : Raised) : State :=
  let record : Notice := { body := n, priority := s.priorityOf n }
  let listed := if isAlarm n.kind then s.enterAlarm n else s
  [PortId.cp0, .cp1, .cp2].foldl (State.routeNotice record) listed

/-- NOTICE_TAKEN: the oldest notice raised is taken, whole (R159).  Nothing is taken while the unit stands stopped
(R171). -/
def execNoticeTaken (s : State) : Host.Outcome State Fault Refusal :=
  match s.notices.raised with
  | [] => .next s
  | n :: rest => if s.running then .next ({ s with notices.raised := rest }.takeNotice n) else .next s

/-- One alarm record at an escalation tick (R168). -/
def Alarm.tick (a : Alarm) : Alarm :=
  if a.escalated then a
  else if a.countdown ≤ 1 then { a with countdown := 0, escalated := true }
  else { a with countdown := a.countdown - 1 }

/-- An escalation tick (R168). -/
def State.escalationTick (s : State) : State := s.onAlarms fun a => (a.1.map Alarm.tick, a.2)

/-- ESCALATION_TICK: once each second, but not while the notice unit stands stopped (R168, R171). -/
def execEscalationTick (s : State) : Host.Outcome State Fault Refusal :=
  .next (if s.running then s.escalationTick else s)

/-- Will some record's countdown reach 0 at the next tick (R168)? -/
def State.escalationDue (s : State) : Bool := s.notices.alarms.any fun a => !a.escalated && decide (a.countdown ≤ 1)

/-- ALARM_ESCALATED: the escalation tick at which a record's countdown reaches 0; no such step where none does
(R168, assumption 3). -/
def execAlarmEscalated (s : State) : Host.Outcome State Fault Refusal :=
  .next (if s.running && s.escalationDue then s.escalationTick else s)

/-! ### Requests -/

/-- The reply code NONE, alone (R180). -/
def answerNone (s : State) : Answer × State := ({ code := .none, data := [] }, s)

/-- READ_NOTICE on the port that carries it (R165). -/
def readNotice (p : PortId) : Handler := fun req s =>
  match parseEmpty req.body with
  | none => refuse .outOfRange s
  | some _ =>
    match s.queue p with
    | [] => answerNone s
    | n :: rest => accept (noticeBytes n ++ bytesOf 1 rest.length) (s.setQueue p rest)

/-- READ_NOTICE taken by the notice unit. -/
def execReadNotice (p : PortId) (s : State) : Host.Outcome State Fault Refusal :=
  .next (s.takeRequest p .readNotice (readNotice p))

/-- The place an ACK_ALARM names: a locker for LOCKER_FORCED, a cabin for the two cabin alarms; none when the kind is no
alarm or the number lies outside its range (R170). -/
def alarmPlace (k : NoticeKind) (n : Nat) : Option Place :=
  match k with
  | .lockerForced => if 1 ≤ n ∧ n ≤ 1024 then some (.locker n) else none
  | .cabinForced | .cabinOverholdLong => if 1 ≤ n ∧ n ≤ 64 then some (.cabin n) else none
  | _ => none

/-- One alarm, or all of them, acknowledged by port `p`; an empty list clears the overflow flag (R170). -/
def State.acknowledge (s : State) (p : PortId) (which : Option (NoticeKind × Place)) : State :=
  let l := ackFrom which s.notices.alarms
  { s.remember p (.alarms which s.notices.alarms s.notices.alarmOverflow) with
    notices.alarms := l, notices.alarmOverflow := s.notices.alarmOverflow && !l.isEmpty }

/-- ACK_ALARM on port `p` (R170). -/
def ackAlarm (p : PortId) : Handler := fun req s =>
  match parseAck req.body with
  | none => refuse .outOfRange s
  | some .all => accept [] (s.acknowledge p none)
  | some (.one k n) =>
    match alarmPlace k n with
    | none => refuse .outOfRange s
    | some place =>
      if s.alarmListed k (some place) then accept [] (s.acknowledge p (some (k, place)))
      else answerNone s

/-- ACK_ALARM taken by the notice unit. -/
def execAckAlarm (p : PortId) (s : State) : Host.Outcome State Fault Refusal :=
  .next (s.takeRequest p .ackAlarm (ackAlarm p))

/-- SET_THRESHOLD on the port that carries it (R166). -/
def setThreshold (p : PortId) : Handler := fun req s =>
  match parseNumber 1 req.body with
  | none => refuse .outOfRange s
  | some t =>
    if 8 < t then refuse .outOfRange s
    else accept [] ((s.remember p (.threshold p (s.settings.thresholds.get p))).setThreshold p t)

/-- SET_THRESHOLD taken by the notice unit. -/
def execSetThreshold (p : PortId) (s : State) : Host.Outcome State Fault Refusal :=
  .next (s.takeRequest p .setThreshold (setThreshold p))

/-- SET_NOTICE_PRIORITY on port `p` (R161). -/
def setNoticePriority (p : PortId) : Handler := fun req s =>
  match parsePriority req.body with
  | none => refuse .outOfRange s
  | some (k, n) =>
    if 7 < n then refuse .outOfRange s
    else if isAlarm k || k == .watchHit then refuse .wrongState s
    else
      accept [] ((s.remember p (.priority k (tableGet s.settings.priorities 0 (noticeCode k - 1)))).setPriority k n)

/-- SET_NOTICE_PRIORITY taken by the notice unit. -/
def execSetNoticePriority (p : PortId) (s : State) : Host.Outcome State Fault Refusal :=
  .next (s.takeRequest p .setNoticePriority (setNoticePriority p))

end Sys2Proof.Machine
end

