-- ==== Sys2Proof/Machine/Ports.lean ====
section
/-! DEFINITION. The port receivers: bytes assembled into frames, frames checked for validity, busy, permission and rank, and replies
sent (chapter 10). -/

namespace Sys2Proof.Machine

/-- A port that returns to IDLE with a reply waiting enters SENDING at once (R173). -/
def Port.toIdle (q : Port) : Port :=
  match q.ready with
  | [] => { q with link := .idle }
  | r :: rest => { q with link := .sending r, ready := rest }

/-- The bytes after the sync byte make a whole frame: length, tag, kind, as many body bytes as the length gives, and two
CRC bytes (R174). -/
def frameWhole (bytes : List Byte) : Bool :=
  match bytes with
  | [] => false
  | len :: _ => decide (bytes.length = len.toNat + 5)

/-- Does a whole frame pass its CRC and carry a kind byte without the reply bit (R174)?  R174 says 'at that byte' for the length
alone and not when a kind byte with the reply bit set drops its frame: the model receives such a frame to its last CRC byte
and drops it there, so a 0xA5 in its body starts no frame (DESIGN CHOICE, unsafe, assumption 27). -/
def frameValid (bytes : List Byte) : Bool :=
  let inner := bytes.take (bytes.length - 2)
  decide (natOf (bytes.drop (bytes.length - 2)) = (crc16 inner).toNat) && decide (byteAt bytes 2 < 128)

/-- The body of a whole frame. -/
def frameBody (bytes : List Byte) : List Byte := (bytes.drop 3).take (bytes.length - 5)

/-- The rank check of R177, and R178's for ISSUE_BAND, whose band rank is the sixth body byte; a body too short for it
passes. -/
def rankPasses (k : ReqKind) (portRank : Nat) (body : List Byte) : Bool :=
  match k with
  | .issueBand =>
    match body[5]? with
    | some b => decide (portRank ≤ b.toNat)
    | none => true
  | _ => decide (portRank ≤ rankNeeded k)

/-- Checks 2 and 3 of R175: the code that refuses a request at the port, or none when it goes on to its block. -/
def State.portRefusal (s : State) (p : PortId) (code : Byte) (body : List Byte) : Option ResultCode :=
  match kindOf code with
  | none => some .notPermitted
  | some k =>
    if !(s.portPermitted p).getLsbD (kindCode k - 1) then some .notPermitted
    else if !rankPasses k (s.portRank p) body then some .rank
    else none

/-- A complete, valid frame taken by its port (R175, R176). -/
def State.takeFrame (s : State) (p : PortId) (tag code : Byte) (body : List Byte) : State :=
  if (s.port p).outstanding.isSome then
    s.deliver p { tag := tag, code := code, result := .busy, data := [], busy := true }
  else
    let r : Request := { tag := tag, code := code, body := body, rank := s.portRank p, taken := false }
    let held := s.setPort p { s.port p with outstanding := some r }
    match s.portRefusal p code body with
    | none => held
    | some c => (held.markTaken p).deliver p (replyTo r { code := c, data := [] })

/-- The frame that a port has assembled is ended: the port returns to IDLE, and a valid frame is taken (R174). -/
def State.endFrame (s : State) (p : PortId) (bytes : List Byte) : State :=
  let idle := s.setPort p (s.port p).toIdle
  if frameValid bytes then idle.takeFrame p (bytes.getD 1 0) (bytes.getD 2 0) (frameBody bytes) else idle

/-- PORT_FRAME: the frame assembled on the port is complete and is checked (R174, R175); no such step where none is. -/
def execPortFrame (p : PortId) (s : State) : Host.Outcome State Fault Refusal :=
  match (s.port p).link with
  | .receiving bytes => .next (if frameWhole bytes then s.endFrame p bytes else s)
  | _ => .next s

/-- A frame that is already whole is taken before the line brings anything more: it is complete at its last CRC byte
(R174, assumption 4). -/
def State.settleFrame (s : State) (p : PortId) : State :=
  match (s.port p).link with
  | .receiving bytes => if frameWhole bytes then s.endFrame p bytes else s
  | _ => s

/-- A byte examined by a port receiver (R173, R174). -/
def State.receiveByte (s : State) (p : PortId) (b : Byte) : State :=
  let q := s.port p
  match q.link with
  | .idle => if b = 0xA5#8 then s.setPort p { q with link := .receiving [] } else s
  | .receiving [] => if Config.bodyTop < b.toNat then s.setPort p q.toIdle else s.setPort p { q with link := .receiving [b] }
  | .receiving bytes => s.setPort p { q with link := .receiving (bytes ++ [b]) }
  | .sending _ => s
  | .stopped => s

/-- PORT_BYTE_RECEIVED: a byte arrives at a port (R173, R174). -/
def execPortByteReceived (p : PortId) (b : Byte) (s : State) : Host.Outcome State Fault Refusal :=
  .next ((s.settleFrame p).receiveByte p b)

/-- FRAME_GAP_TIMEOUT: more than 20 ms between two bytes of a frame drop it (R174); a whole frame has no further byte to
wait for. -/
def execFrameGapTimeout (p : PortId) (s : State) : Host.Outcome State Fault Refusal :=
  match (s.port p).link with
  | .receiving bytes => .next (if frameWhole bytes then s else s.setPort p (s.port p).toIdle)
  | _ => .next s

/-- The last byte of a reply has left the line: the outstanding request's reply clears its flag, and what that
request wrote stands for good; a BUSY does neither (R173, R176, R158, R185). -/
def State.endReply (s : State) (p : PortId) (r : Reply) : State :=
  if r.busy then s.setPort p (s.port p).toIdle
  else (s.closeUndo p).setPort p (Port.toIdle { s.port p with outstanding := none })

/-- REPLY_SENT: the last byte of a reply leaves the line (R173, R176). -/
def execReplySent (p : PortId) (s : State) : Host.Outcome State Fault Refusal :=
  match (s.port p).link with
  | .sending r => .next (s.endReply p r)
  | _ => .next s

end Sys2Proof.Machine
end

