-- ==== Sys2Proof/Machine/Reconcile.lean ====
section
/-! DEFINITION. A READ_STATE report brings a module's lockers and cabins into agreement (R131 to R134, R83). -/

namespace Sys2Proof.Machine

namespace State

/-! ### Lockers (R131 to R134) -/

/-- A correction that meets a full queue: LOCKER_FAULT with the locker number and no serial (R134). -/
def correctionFault (s : State) (n : Nat) : State := s.notify .lockerFault (some (.locker n)) none

/-- An ENGAGED latch at a FREE locker: left ORPHANED after a cold read, else freed by an UNLATCH with release, or left
ORPHANED with LOCKER_FAULT where the queue is full (Table 6-3, R134). -/
def freeEngaged (s : State) (n : Nat) (cold : Bool) : State :=
  if cold then (s.enterLocker n .orphaned).notify .orphanFound (some (.locker n)) none
  else if s.queueFull then (s.enterLocker n .orphaned).correctionFault n
  else s.unlatchLocker n false true

/-- A locker in FAULT with its holder kept, and LOCKER_FAULT (Table 6-3). -/
def faultLocker (s : State) (n : Nat) : State :=
  (s.enterLocker n .fault).notify .lockerFault (some (.locker n)) (s.holderSerial n)

/-- A locker in a state other than LATCHING and UNLATCHING, its fields set already (Table 6-3). -/
def settledLocker (s : State) (n : Nat) (r : Reading) (cold : Bool) : State :=
  match (s.locker n).state with
  | .locked => if !r.engaged then s.faultLocker n else if r.doorOpen then s.forceLocker n else s
  | .orphaned => if !r.engaged then s.enterLocker n .free else if r.doorOpen then s.forceLocker n else s
  | .free => if r.engaged then s.freeEngaged n cold else s
  | .outOfService =>
    if r.engaged then if s.queueFull then s.correctionFault n else s.unlatchLocker n false true else s
  | .reserved => if r.engaged then if r.doorOpen then s.faultLocker n else s.enterLocker n .locked else s
  | .released =>
    if r.engaged then if r.doorOpen then s.faultLocker n else s.enterLocker n .locked
    else if r.doorOpen then s.enterLocker n .opened else s
  | .opened =>
    if r.engaged then if r.doorOpen then s.faultLocker n else s.enterLocker n .locked
    else if r.doorOpen then s else s.enterLocker n .closing
  | .closing =>
    if r.engaged then if r.doorOpen then s.faultLocker n else s.enterLocker n .locked
    else if r.doorOpen then s.enterLocker n .opened else s
  | .fault | .forced | .unfitted | .latching | .unlatching => s

/-- The state of a locker held open or shut with its latch free: OPEN when its door is OPEN, RELEASED when CLOSED. -/
def freeState (r : Reading) : LockerState := if r.doorOpen then .opened else .released

/-- A locker whose release was cut off: its UNLATCH queued again, or LOCKER_FAULT and the state its origin gives where the
queue is full (Table 6-4, R134). -/
def resumeRelease (s : State) (n : Nat) : State :=
  if s.queueFull then
    (s.enterLocker n (if (s.locker n).origin = some .outOfService then .outOfService else .orphaned)).correctionFault n
  else s.queueLocker n .unlatch

/-- A LATCHING locker whose command is lost (Table 6-4). -/
def lostLatch (s : State) (n : Nat) (r : Reading) : State :=
  let l := s.locker n
  if r.engaged then s.enterLocker n (if l.holder.isSome then .locked else .orphaned)
  else if l.origin = some .reserved then s.setLocker n { l.enter .reserved s.now with since := l.since, master := false }
  else if l.holder.isNone then s.enterLocker n .free
  else s.setLocker n { l.enter (freeState r) s.now with master := false }

/-- An UNLATCHING locker whose command is lost (Table 6-4); its last row keeps master. -/
def lostUnlatch (s : State) (n : Nat) (r : Reading) : State :=
  let l := s.locker n
  if l.release then
    if r.engaged then s.resumeRelease n
    else (s.unbindLocker n).setLocker n
      { ((s.unbindLocker n).locker n).enter (if l.origin = some .outOfService then .outOfService else .free) s.now with
        master := false }
  else if r.engaged then s.enterLocker n (if l.holder.isSome then .locked else .orphaned)
  else if l.holder.isSome then s.enterLocker n (freeState r)
  else s.enterLocker n .free

/-- Locker `n` brought into agreement with its reading; `marked` says that a command for it is on its way (R131). -/
def reconcileLocker (s : State) (n : Nat) (r : Reading) (cold marked : Bool) : State :=
  let t := s.setLocker n { s.locker n with door := r.door, latch := r.latch }
  match (t.locker n).state with
  | .latching => if marked then t else t.lostLatch n r
  | .unlatching => if marked then t else t.lostUnlatch n r
  | _ => t.settledLocker n r cold

/-! ### Cabins (R83) -/

/-- A correcting UNLATCH for cabin `c`; where the queue is full the cabin is left VACANT with LOCKER_FAULT (R83). -/
def freeCabin (s : State) (c : Nat) : State :=
  if s.queueFull then
    (if (s.cabin c).state = .vacant then s else s.vacate c).notify .lockerFault (some (.cabin c)) none
  else s.unlatchCabin c

/-- Cabin `c` brought into agreement with its reading (Table 4-5). -/
def reconcileCabin (s : State) (c : Nat) (r : Reading) : State :=
  let t := s.setCabin c { s.cabin c with door := r.door, latch := r.latch }
  let k := t.cabin c
  match k.state with
  | .occupied =>
    if !r.engaged then (t.vacate c).notify .cabinReleasedByPower (some (.cabin c)) (t.occupantSerial c)
    else if r.doorOpen then t.forceCabin c
    else t
  | .latching =>
    if k.command.isSome then t
    else if r.engaged then t.setCabin c (k.enter .occupied t.now)
    else t.vacate c
  | .unlatching =>
    if k.command.isSome then t
    else if !r.engaged then t.vacate c
    else if k.occupant.isSome then t.setCabin c { k with state := .occupied }
    else t.freeCabin c
  | .vacant => if k.command.isNone && r.engaged then t.freeCabin c else t
  | .outOfService | .unfitted => t

/-! ### The report (R131) -/

/-- Is a command for the position queued or awaiting hand-over (R131)? -/
def commandWaits (s : State) (addr pos : Nat) : Bool :=
  (s.field.queue.any fun cmd => cmd.addr == addr && cmd.pos == pos) ||
    s.field.handover.any fun item =>
      match item with
      | .outcome cmd _ => cmd.addr == addr && cmd.pos == pos
      | _ => false

/-- One position brought into agreement; `base` is the state at the grant, which the marks are made from. -/
def reconcileAt (base : State) (addr : Nat) (cold : Bool) (s : State) (e : Reading × Nat) : State :=
  match placeAt addr e.2 with
  | .locker n => s.reconcileLocker n e.1 cold (base.commandWaits addr e.2)
  | .cabin c => s.reconcileCabin c e.1
  | .station _ => s

/-- A READ_STATE report handled: every position in order, and then the module's resync pending and cold read cleared. -/
def reconcile (addr : Nat) (readings : List Reading) (cold : Bool) (s : State) : State :=
  let agreed := readings.zipIdx.foldl (reconcileAt s addr cold) s
  agreed.setModule addr { agreed.module addr with resync := false, coldRead := false }

end State

/-- READ_STATE_REPORT: a report granted (R131). -/
def execReadStateReport (s : State) : Host.Outcome State Fault Refusal :=
  .next (s.grantItem fun item =>
    match item with
    | .report addr readings cold => some (State.reconcile addr readings cold)
    | _ => none)

end Sys2Proof.Machine
end

