-- ==== Sys2Proof/Machine/Settings.lean ====
section
/-! DEFINITION. The requests of the Settings and clock group and the end of a save: SET_PORT, SET_WINDOWS, SAVE_SETTINGS,
SAVE_COMPLETE, SET_CLOCK, TRIM_CLOCK and STATUS (R182, R195, R194, R187, R188, R183). -/

namespace Sys2Proof.Machine

/-! ### SET_PORT (R182) -/

/-- A permission set without READ_NOTICE empties the port's notice queue (R166). -/
def State.dropUnread (s : State) (p : PortId) (set : PermSet) : State :=
  if set.getLsbD (kindCode .readNotice - 1) then s else s.setQueue p []

/-- The rank and permission set a port stands at (R181). -/
def State.portSetting (s : State) (p : PortId) : PortSetting := { rank := s.portRank p, permitted := s.portPermitted p }

/-- SET_PORT on the port that carries it. -/
def setPortRequest (carrier : PortId) : Handler := fun req s =>
  match parsePort req.body with
  | none => refuse .outOfRange s
  | some (number, rank, set) =>
    match portOf number with
    | none => refuse .outOfRange s
    | some p =>
      if rank = 0 || decide (3 < rank) then refuse .outOfRange s
      else if p = .cp2 then refuse .wrongState s
      else accept (bytesOf 1 rank ++ permBytes set)
        (((s.remember carrier (.port p (s.portSetting p))).setPortSetting p { rank := rank, permitted := set }).dropUnread p
          set)

/-- SET_PORT taken by the port receivers. -/
def execSetPort (p : PortId) (s : State) : Host.Outcome State Fault Refusal :=
  .next (s.takeRequest p .setPort (setPortRequest p))

/-! ### SET_WINDOWS (R195, R141) -/

/-- The nine values clamped into the ranges of Table 11-4. -/
def Windows.clamped (w : Windows) : Windows :=
  { opening := clamp 3 30 w.opening, relock := clamp 10 300 w.relock, reservation := clamp 60 3600 w.reservation,
    leave := clamp 60 1800 w.leave, grace := clamp 0 1800 w.grace, limitSingle := clamp 300 3600 w.limitSingle,
    limitFamily := clamp 300 3600 w.limitFamily, limitStaff := clamp 300 3600 w.limitStaff,
    escalation := clamp 30 600 w.escalation }

/-- The valid rate nearest to a requested one, the higher of two equally near (R141). -/
def nearestRate (n : Nat) : StepRate :=
  if n < 192 then .r128 else if n < 384 then .r256 else if n < 768 then .r512 else .r1024

/-- SET_WINDOWS. -/
def setWindows : Handler := fun req s =>
  match parseWindows req.body with
  | none => refuse .outOfRange s
  | some r =>
    accept (windowsBytes r.values.clamped (nearestRate r.rate))
      { s with settings.windows := r.values.clamped, settings.stepRate := nearestRate r.rate }

/-- SET_WINDOWS granted on port `p`. -/
def execSetWindows (p : PortId) (s : State) : Host.Outcome State Fault Refusal :=
  .next (s.grantRequest p .setWindows setWindows)

/-! ### The settings store (R193, R194) -/

/-- A SAVE_SETTINGS that is not refused: the snapshot is taken, the flag set, and the request stays outstanding without a
reply. -/
def State.beginSave (s : State) (p : PortId) : State :=
  { s with supply.save := some { snapshot := s.settings, replyTo := some p } }.markTaken p

/-- SAVE_SETTINGS taken by the supply and clock unit. -/
def execSaveSettings (p : PortId) (s : State) : Host.Outcome State Fault Refusal :=
  match s.request p .saveSettings with
  | none => .next s
  | some r =>
    if !s.running then .next s
    else if !r.body.isEmpty then .next ((s.markTaken p).deliver p (replyTo r { code := .outOfRange, data := [] }))
    else if s.supply.save.isSome then .next ((s.markTaken p).deliver p (replyTo r { code := .saveBusy, data := [] }))
    else .next (s.beginSave p)

/-- The reply to the SAVE_SETTINGS whose write has ended, when its port still waits for it. -/
def State.answerSave (s : State) (dest : Option PortId) (code : ResultCode) : State :=
  match dest with
  | none => s
  | some p =>
    match (s.port p).outstanding with
    | none => s
    | some r => s.deliver p (replyTo r { code := code, data := [] })

/-- SAVE_COMPLETE: the store reports that the write has ended, with success or not (R194).  It ends the write so while RESET is
held too, whatever the CLEAR strap: R194 does not say at which end of the pulse a closed CLEAR strap abandons a save
(DESIGN CHOICE, unsafe, assumption 26). -/
def execSaveComplete (ok : Bool) (s : State) : Host.Outcome State Fault Refusal :=
  match s.supply.save with
  | none => .next s
  | some v =>
    let ended : State := { s with supply.save := none, supply.store := if ok then some v.snapshot else none }
    .next (ended.answerSave v.replyTo (if ok then .ok else .storeFault))

/-! ### The day clock (R187, R188) -/

/-- The locker's window started again at the new clock (R148). -/
def Locker.restart (l : Locker) (now : Nat) : Locker :=
  match l.state with
  | .reserved | .released | .closing => { l with since := now }
  | _ => l

/-- The occupation timed afresh at the new clock, its stage 0 (R148, R69). -/
def Cabin.restart (r : Cabin) (now : Nat) : Cabin :=
  match r.state with
  | .occupied => { r with since := now, stage := 0 }
  | _ => r

/-- The day clock set, and every running window and occupation begun again (R187, R148); a TRIM_CLOCK still outstanding has
nothing left to take back. -/
def State.setDayClock (s : State) (t : Nat) : State :=
  { s.supersede (.clock 0) with
    supply.clock := t, supply.clockValid := true,
    engine.lockers := tableMap (fun _ l => l.restart t) s.engine.lockers,
    engine.cabins := tableMap (fun _ r => r.restart t) s.engine.cabins }

/-- Is a visitor record, REVOKED ones included, in the band table (R187)? -/
def State.anyVisitor (s : State) : Bool := tableAny (fun i b => i != 0 && b.any Band.isVisitor) s.engine.bands

/-- SET_CLOCK (R187). -/
def setClock : Handler := fun req s =>
  match parseNumber 3 req.body with
  | none => refuse .outOfRange s
  | some t =>
    if Config.day ≤ t then refuse .outOfRange s
    else if s.anyVisitor then refuse .tableNotEmpty s
    else accept (bytesOf 3 t) (s.setDayClock t)

/-- SET_CLOCK granted on port `p`. -/
def execSetClock (p : PortId) (s : State) : Host.Outcome State Fault Refusal :=
  .next (s.grantRequest p .setClock setClock)

/-- TRIM_CLOCK on port `p` (R188). -/
def trimClock (p : PortId) : Handler := fun req s =>
  match parseTrim req.body with
  | none => refuse .outOfRange s
  | some d => accept (bytesOf 3 (trimmed s.now d)) { s.remember p (.clock d) with supply.clock := trimmed s.now d }

/-- TRIM_CLOCK taken by the supply and clock unit. -/
def execTrimClock (p : PortId) (s : State) : Host.Outcome State Fault Refusal :=
  .next (s.takeRequest p .trimClock (trimClock p))

/-! ### STATUS (R183) -/

/-- STATUS on the port that carries it: its overflow flag is cleared after it has been read. -/
def statusRequest (p : PortId) : Handler := fun req s =>
  match parseEmpty req.body with
  | none => refuse .outOfRange s
  | some _ => accept (s.statusBytes p) (s.setOverflow p false)

/-- STATUS taken by the port receivers. -/
def execStatus (p : PortId) (s : State) : Host.Outcome State Fault Refusal :=
  .next (s.takeRequest p .status (statusRequest p))

end Sys2Proof.Machine
end

