-- ==== Sys2Proof/Machine/Settlement.lean ====
section
/-! DEFINITION. The requests of the Settlement group: SETTLE, PAY and COLLECT, and the overstay charge (chapter 5). -/

namespace Sys2Proof.Machine

/-! ### The overstay charge (R90 to R93) -/

/-- The figures of the computation: E, N, gross charge, paid_cents C and sum due (R98). -/
structure Figures where
  elapsed : Nat
  steps : Nat
  gross : Nat
  paid : Nat
  due : Nat
  deriving DecidableEq, Repr, Inhabited

/-- The number of steps begun: none while the grace is not passed, otherwise the overrun from the end of the paid time,
rounded up to whole steps (R92). -/
def stepsBegun (e allowance grace u : Nat) : Nat :=
  if e ≤ allowance + grace then 0 else (e - allowance + u - 1) / u

/-- The charge of an account at `now` (R90 to R93). -/
def charge (now entry : Nat) (a : Account) (t : TariffClass) (grace : Nat) : Figures :=
  let e := elapsed now entry
  let n := stepsBegun e (a.paidMinutes * 60) grace t.step
  let gross := min (n * t.rate) t.cap
  { elapsed := e, steps := n, gross := gross, paid := a.paidCents, due := gross - a.paidCents }

/-- The figures in the layout of Table 13-2: E (3), N, gross, C, due. -/
def Figures.bytes (f : Figures) : List Byte :=
  bytesOf 3 f.elapsed ++ bytesOf 2 f.steps ++ bytesOf 2 f.gross ++ bytesOf 2 f.paid ++ bytesOf 2 f.due

/-! ### SETTLE -/

/-- The holdings checks of R95, in their order. -/
def Band.holdings (b : Band) : Option ResultCode :=
  if b.cabin.isSome then some .inCabin
  else if !b.members.isEmpty then some .membersInside
  else if !b.lockers.isEmpty then some .holdsLocker
  else none

/-- The answer and the record of a SETTLE whose charge has been computed (R96, R97). -/
def settleWith (slot : Nat) (b : Band) (f : Figures) (s : State) : Answer × State :=
  if f.due = 0 then
    ({ code := .clear, data := f.bytes }, s.setBand slot (some { b with state := .cleared s.now }))
  else ({ code := .owes, data := f.bytes }, s.setBand slot (some { b with state := .owing f.due }))

/-- SETTLE (R94 to R98). -/
def settle : Handler := fun req s =>
  match parseNumber 4 req.body with
  | none => refuse .outOfRange s
  | some serial =>
    match s.findSerial serial with
    | .error c => refuse c s
    | .ok (slot, b) =>
      if b.state = .revoked then refuse .revoked (s.notify .revokedPresented none (some serial))
      else
        match b.kind, b.state with
        | .staff, _ => ({ code := .clearStaff, data := [] }, s)
        | .visitor a, .cleared _ =>
          ({ code := .clear,
             data := Figures.bytes { elapsed := 0, steps := 0, gross := 0, paid := a.paidCents, due := 0 } }, s)
        | .visitor a, _ =>
          match b.holdings with
          | some c => refuse c s
          | none => settleWith slot b (charge s.now b.entry a (s.tariffClass a.tariff) s.settings.windows.grace) s

/-- SETTLE granted on port `p`. -/
def execSettle (p : PortId) (s : State) : Host.Outcome State Fault Refusal :=
  .next (s.grantRequest p .settle settle)

/-! ### PAY -/

/-- Money added to paid_cents, saturating (R86, R100, R101). -/
def addCents (paid amount : Nat) : Nat := min Config.centsTop (paid + amount)

/-- PAY (R99 to R101). -/
def pay : Handler := fun req s =>
  match parseSerialAmount req.body with
  | none => refuse .outOfRange s
  | some (serial, amount) =>
    if amount = 0 then refuse .outOfRange s
    else
      match s.findSerial serial with
      | .error c => refuse c s
      | .ok (slot, b) =>
        match b.kind, b.state with
        | .visitor a, .active =>
          if b.cabin.isSome then refuse .inCabin s
          else
            let paid := addCents a.paidCents amount
            accept (bytesOf 2 paid) (s.setBand slot (some { b with kind := .visitor { a with paidCents := paid } }))
        | .visitor a, .owing owed =>
          if b.cabin.isSome then refuse .inCabin s
          else
            let paid := addCents a.paidCents amount
            let credited : Band := { b with kind := .visitor { a with paidCents := paid } }
            if owed ≤ amount then
              ({ code := .clear, data := bytesOf 2 (amount - owed) ++ bytesOf 2 paid },
                s.setBand slot (some { credited with state := .cleared s.now }))
            else
              ({ code := .owes, data := bytesOf 2 (owed - amount) ++ bytesOf 2 paid },
                s.setBand slot (some { credited with state := .owing (owed - amount) }))
        | _, _ => refuse .wrongState s

/-- PAY granted on port `p`. -/
def execPay (p : PortId) (s : State) : Host.Outcome State Fault Refusal :=
  .next (s.grantRequest p .pay pay)

/-! ### COLLECT -/

/-- Is the record a CLEARED visitor's (R103)? -/
def Band.isCleared (b : Band) : Bool :=
  match b.kind, b.state with
  | .visitor _, .cleared _ => true
  | _, _ => false

/-- COLLECT (R103), with the chain teardown of R22. -/
def collect : Handler := fun req s =>
  match parseNumber 4 req.body with
  | none => refuse .outOfRange s
  | some serial =>
    match s.findSerial serial with
    | .error c => refuse c s
    | .ok (slot, b) =>
      if !b.isCleared then refuse .wrongState s
      else if !b.members.isEmpty then refuse .membersInside s
      else accept (bytesOf 1 (s.tearDown slot b).2) (s.tearDown slot b).1

/-- COLLECT granted on port `p`. -/
def execCollect (p : PortId) (s : State) : Host.Outcome State Fault Refusal :=
  .next (s.grantRequest p .collect collect)

end Sys2Proof.Machine
end

