-- ==== Sys2Proof/Machine/Supply.lean ====
section
/-! DEFINITION. The supply and clock unit: the day clock's tick, the supply states, retention, RESET, and the two kinds of start
with what every block does at them (chapter 11; R30 to R32, R66, R67, R84, R85, R135 to R137, R149, R150, R158, R171,
R172, R184, R185). -/

namespace Sys2Proof.Machine

namespace State

/-! ### The blocks stop (R135, R171, R184, R191, R192) -/

/-- A port that enters STOPPED: a reply on the line or waiting is lost, a request waiting for its block stays (R184). -/
def stopPort (_ : PortId) (q : Port) : Port := { q with link := .stopped, ready := [] }

/-- The ports, the field engine and the sweep stop: the exchange is abandoned, the hand-over list and the pending broadcast go,
and a waiting sweep step is dropped (R135, R149). -/
def stopBlocks (s : State) : State :=
  { s with
    ports := s.ports.map stopPort,
    sweep.waiting := false,
    field.exchange := none, field.handover := [], field.waitingHeld := false, field.broadcast := none }

/-! ### Supply states (R189 to R191) -/

/-- The supply state enters HOLD: POWER_WARN, and HOLD_SHOW pending (R190). -/
def enterHold (s : State) : State :=
  { s with supply.supply := .hold, supply.restoring := false, field.broadcast := some .hold }.notify .powerWarn none none

/-- The supply state reaches DOWN (R191): the blocks stop, LPEN goes, and a save is abandoned with the store invalid. -/
def enterDown (s : State) : State :=
  { s.stopBlocks with
    supply.supply := .down, supply.restoring := false, supply.resetHeld := false, supply.lpen := false,
    supply.store := if s.supply.save.isSome then none else s.supply.store,
    supply.save := none }

/-! ### What every start does -/

/-- A module at a warm start: no indication is left pending (R122), and a configured one is ONLINE with resync pending
(R136). -/
def warmModule (c : ModuleSetting) (m : Module) : Module :=
  let quiet := clearIndications m
  if c.configured then { quiet with silent := false, failures := 0, resync := true } else quiet

/-- The field engine as a start leaves it, with the module table given (R136, R137). -/
def startedField (modules : Vector Module 144) (supply : SupplyState) (rate : LoopRate) : FieldEngine :=
  { modules := modules,
    queue := [],
    pollPosition := 1,
    cycle := 0,
    lastTurn := .command,
    exchange := none,
    handover := [],
    waitingHeld := false,
    broadcast := some (if supply = .hold then .hold else .clear),
    loopRate := rate,
    startDelay := true,
    lineFrame := [] }

/-- What is the same at every start: ports IDLE with the strapped rate, notice queues and overflow flags emptied, the sweep
at the first step of a round, the arbiter's cycle as if the sweep had been granted last, retention set
(R31, R150, R171, R172, R185, R192).  What the requests dropped here had written without a grant has been taken back first, by
`undoTaken`. -/
def startCommon (s : State) (straps : Straps) : State :=
  { s with
    ports := { cp0 := Port.idle, cp1 := Port.idle, cp2 := Port.idle },
    portRate := straps.portRate,
    notices.raised := [],
    notices.queues := { cp0 := [], cp1 := [], cp2 := [] },
    notices.overflow := { cp0 := false, cp1 := false, cp2 := false },
    sweep := { index := 1, remaining := Config.roundSteps, waiting := false },
    engine.lastGranted := .sweep,
    supply.retention := true,
    supply.resetHeld := false }

/-- A warm start (R31, R66, R84, R136, R158): the tables and working settings are kept, and every cabin's command is cleared. -/
def warmStart (s : State) (straps : Straps) : State :=
  let t := s.startCommon straps
  let modules := tableMap (fun i m => warmModule (s.moduleSetting (i + 1)) m) s.field.modules
  { t with
    engine.cabins := tableMap (fun _ k => { k with command := none }) s.engine.cabins,
    field := startedField modules s.supply.supply straps.loopRate }

/-- The binding engine's tables after a cold start (R32, R36, R67, R85). -/
def coldEngine (settings : Settings) (clock : Nat) : Engine :=
  let fitted (addr : Nat) : Bool :=
    (tableGet settings.modules { configured := false, holdOnForce := false } (addr - 1)).configured
  { bands := Vector.replicate 2048 none,
    serialMap := [],
    zoneUsed := Vector.replicate 16 false,
    lockers := tableMap (fun i l => Locker.blank (if fitted (lockerAt (i + 1)).1 then .free else l) clock)
      (Vector.replicate 1024 LockerState.unfitted),
    cabins := tableMap (fun i k => Cabin.blank (if fitted (cabinAt (i + 1)).1 then .vacant else k) clock)
      (Vector.replicate 64 CabinState.unfitted),
    lastGranted := .sweep }

/-- A cold start (R32, R36, R67, R85, R137, R158, R172, R193): bindings empty, settings loaded from a valid store or at
their factory defaults, and SETTINGS_LOST raised in the second case. -/
def coldStart (s : State) (straps : Straps) : State :=
  let settings := s.supply.store.getD Settings.factory
  let t := s.startCommon straps
  let modules := tableMap (fun _ c => Module.blank c.configured) settings.modules
  let cold : State :=
    { t with
      settings := settings,
      engine := coldEngine settings s.now,
      watches := Vector.replicate 4 Watch.blank,
      notices.alarms := [],
      notices.alarmOverflow := false,
      field := startedField modules s.supply.supply straps.loopRate,
      supply.clockValid := false }
  if s.supply.store.isNone then cold.notify .settingsLost none none else cold

/-- The supply unit as the restore timer completes in DOWN: NORMAL, LPEN asserted, and the clock at 0 where retention was
lost (R186, R192). -/
def restored (s : State) : State :=
  { s with
    supply.clock := if s.supply.retention then s.supply.clock else 0,
    supply.supply := .normal, supply.restoring := false, supply.lpen := true, supply.save := none }

/-- The part as power is first applied and its backup cell held nothing: the supply state is DOWN and the retention flag clear
(R189), so every block stands stopped (R135, R171, R184, R191), and what the cell would have kept is free (assumption 5).
`State.reset` is this part after its first start (assumption 1). -/
def powerOn : State :=
  { State.reset with
    settings := Config.lostSettings 0,
    engine := Config.lostEngine 0,
    watches := Config.lostWatches 0,
    ports := State.reset.ports.map stopPort,
    notices := { State.reset.notices with raised := [], alarms := Config.lostAlarms 0 },
    field := { FieldEngine.reset with modules := Config.lostModules 0, broadcast := none },
    supply :=
      { State.reset.supply with clock := Config.lostClock 0 % Config.day, supply := .down, retention := false, lpen := false },
    freeSeq := 1 }

end State

/-- DAY_CLOCK_TICK: one second of the unit's oscillator ends, while the backup cell or the supply keeps it (R186). -/
def execDayClockTick (s : State) : Host.Outcome State Fault Refusal :=
  .next (if s.supply.retention then { s with supply.clock := (s.supply.clock + 1) % Config.day } else s)

/-- SUPPLY_HOLD: VSUP falls below 20.5 V in NORMAL (R190). -/
def execSupplyHold (s : State) : Host.Outcome State Fault Refusal :=
  .next (if s.supply.supply = .normal then s.enterHold else s)

/-- RESTORE_TIMER_START: VSUP rises above 21.5 V in HOLD or DOWN (R189). -/
def execRestoreTimerStart (s : State) : Host.Outcome State Fault Refusal :=
  .next (if s.supply.supply = .normal then s else { s with supply.restoring := true })

/-- RESTORE_TIMER_RESTARTED: VSUP falls to 21.5 V or below before the restore timer has run its 2 s; it begins anew when
VSUP next rises above that level (R189). -/
def execRestoreTimerRestarted (s : State) : Host.Outcome State Fault Refusal :=
  .next (if s.supply.supply = .normal then s else { s with supply.restoring := false })

/-- SUPPLY_NORMAL: the restore timer completes in HOLD, and CLEAR_SHOW becomes pending (R190). -/
def execSupplyNormal (s : State) : Host.Outcome State Fault Refusal :=
  .next
    (if s.supply.supply = .hold ∧ s.supply.restoring then
      { s with supply.supply := .normal, supply.restoring := false, field.broadcast := some .clear }
    else s)

/-- SUPPLY_DOWN: VSUP falls below 18.0 V; from NORMAL the supply passes through HOLD (R189, R191). -/
def execSupplyDown (s : State) : Host.Outcome State Fault Refusal :=
  match s.supply.supply with
  | .normal => .next s.enterHold.enterDown
  | .hold => .next s.enterDown
  | .down => .next s

/-- RETENTION_LOST: VBAK falls below 2.4 V in DOWN.  What the cell held is a free value from here to the cold start that
follows (R192, assumption 5). -/
def execRetentionLost (s : State) : Host.Outcome State Fault Refusal :=
  .next
    (if s.supply.supply = .down then
      { s with
        settings := Config.lostSettings s.freeSeq,
        engine := Config.lostEngine s.freeSeq,
        watches := Config.lostWatches s.freeSeq,
        field.modules := Config.lostModules s.freeSeq,
        notices.alarms := Config.lostAlarms s.freeSeq,
        supply.clock := Config.lostClock s.freeSeq % Config.day,
        supply.retention := false,
        freeSeq := s.freeSeq + 1 }
    else s)

/-- RETURN_FROM_DOWN: the restore timer completes in DOWN, and a start takes effect (R192, Table 11-2); first what the dropped
requests had written without a grant is taken back (R185). -/
def execReturnFromDown (straps : Straps) (s : State) : Host.Outcome State Fault Refusal :=
  .next
    (if s.supply.supply = .down ∧ s.supply.restoring then
      let t := s.undoTaken.restored
      if s.supply.retention then (t.warmStart straps).notify .powerRestored none none else t.coldStart straps
    else s)

/-- RESET_ASSERTED: RESET is held; the blocks stand stopped as in DOWN, and the clock, the supply monitor and the loop power
stay as they were (R192).  In DOWN a pulse is not acted on (R191). -/
def execResetAsserted (s : State) : Host.Outcome State Fault Refusal :=
  .next (if s.running then { s.stopBlocks with supply.resetHeld := true } else s)

/-- A RESET start with the CLEAR strap open: a save goes on, its port no longer waiting for the reply (R192, R194). -/
def State.resetWarm (s : State) (straps : Straps) : State :=
  let kept : State := { s with supply.save := s.supply.save.map fun v => { v with replyTo := none } }
  kept.warmStart straps

/-- A RESET start with the CLEAR strap closed: a save still running as the pulse ends is abandoned before the store is loaded
(R192, R194); one that ended while RESET was held has ended as SAVE_COMPLETE says (DESIGN CHOICE, unsafe, assumption 26). -/
def State.resetCold (s : State) (straps : Straps) : State :=
  let kept : State :=
    { s with supply.store := if s.supply.save.isSome then none else s.supply.store, supply.save := none }
  kept.coldStart straps

/-- RESET_RELEASED: the pulse ends and a start takes effect by the CLEAR strap (R192); first what the dropped requests had
written without a grant is taken back (R185). -/
def execResetReleased (straps : Straps) (s : State) : Host.Outcome State Fault Refusal :=
  .next
    (if s.supply.resetHeld && s.supply.supply != .down then
      if straps.clearClosed then s.undoTaken.resetCold straps else s.undoTaken.resetWarm straps
    else s)

end Sys2Proof.Machine
end

