-- ==== Sys2Proof/Machine/Sweep.lean ====
section
/-! DEFINITION. The sweep: one step at the present index, the round, and the expiries a step may find
(R56 to R58, R79, R105, R138 to R145). -/

namespace Sys2Proof.Machine

/-- The record a position of the round visits (Table 7-1). -/
inductive SweepPlace where
  | locker (n : Nat)
  | cabin (c : Nat)
  | slot (n : Nat)
  deriving DecidableEq, Repr, Inhabited

/-- Table 7-1. -/
def sweepPlace (index : Nat) : SweepPlace :=
  if index ≤ 1024 then .locker index else if index ≤ 1088 then .cabin (index - 1024) else .slot (index - 1088)

namespace State

/-! ### Lockers (R56 to R58, R142) -/

/-- Has a window of the given length, begun at `since`, run out (section 3.6)? -/
def expired (s : State) (since window : Nat) : Bool := decide (window ≤ elapsed s.now since)

/-- A RELEASED locker relatched by the sweep, unless the queue is full (R56, R55). -/
def relatch (s : State) (n : Nat) : State := if s.queueFull then s else s.latchLocker n false

/-- A RESERVED locker unbound by the sweep (R58). -/
def lapseReservation (s : State) (n : Nat) : State :=
  ((s.unbindLocker n).enterLocker n .free).notify .reservationLapsed (some (.locker n)) (s.holderSerial n)

/-- A step at locker `n` (R142). -/
def sweepLocker (s : State) (n : Nat) : State :=
  let l := s.locker n
  match l.state with
  | .released => if s.expired l.since s.settings.windows.opening then s.relatch n else s
  | .closing =>
    if s.expired l.since s.settings.windows.relock then
      if l.master then s.relatch n else (s.unbindLocker n).enterLocker n .free
    else s
  | .reserved => if s.expired l.since s.settings.windows.reservation then s.lapseReservation n else s
  | _ => s

/-! ### Cabins (R79, R143) -/

/-- The limit of a kind of cabin (Table 11-4). -/
def cabinLimit (s : State) : CabinKind → Nat
  | .single => s.settings.windows.limitSingle
  | .family => s.settings.windows.limitFamily
  | .staff => s.settings.windows.limitStaff

/-- Stage 1 raised when it is due, with CABIN_OVERHOLD. -/
def overholdFirst (s : State) (c : Nat) : State :=
  let k := s.cabin c
  if k.stage = 0 ∧ s.cabinLimit (s.cabinKind c) ≤ elapsed s.now k.since then
    (s.setCabin c { k with stage := 1 }).notify .cabinOverhold (some (.cabin c)) (s.occupantSerial c)
  else s

/-- Stage 2 raised when it is due, with the alarm CABIN_OVERHOLD_LONG. -/
def overholdSecond (s : State) (c : Nat) : State :=
  let k := s.cabin c
  if k.stage = 1 ∧ 2 * s.cabinLimit (s.cabinKind c) ≤ elapsed s.now k.since then
    (s.setCabin c { k with stage := 2 }).notify .cabinOverholdLong (some (.cabin c)) (s.occupantSerial c)
  else s

/-- A step at cabin `c` (R143): both stages when both are due. -/
def sweepCabin (s : State) (c : Nat) : State :=
  if (s.cabin c).state = .occupied then (s.overholdFirst c).overholdSecond c else s

/-! ### Band slots (R105, R144, R145) -/

/-- The long-stay check of a visit (R145). -/
def checkLongStay (s : State) (slot : Nat) : State :=
  match s.band slot with
  | none => s
  | some b =>
    match b.kind with
    | .staff => s
    | .visitor a =>
      if a.longStay || decide (elapsed s.now b.entry < Config.longStay) then s
      else
        (s.setBand slot (some (b.updAccount fun x => { x with longStay := true }))).notify .longStay
          (b.lastPlace.map (·.place)) (some b.serial)

/-- A CLEARED band whose leave window has run out returns to ACTIVE (R105). -/
def lapseLeave (s : State) (slot : Nat) (b : Band) : State :=
  (s.setBand slot (some { b with state := .active })).notify .leaveLapsed none (some b.serial)

/-- A step at a band slot (R144). -/
def sweepSlot (s : State) (slot : Nat) : State :=
  match s.band slot with
  | none => s
  | some b =>
    match b.kind, b.state with
    | .staff, _ => s
    | .visitor _, .revoked => s
    | .visitor _, .cleared since =>
      if s.expired since s.settings.windows.leave then (s.lapseLeave slot b).checkLongStay slot else s
    | .visitor _, _ => s.checkLongStay slot

/-! ### The step (R138, R139) -/

/-- What a step does to the record at the present index. -/
def sweepAct (s : State) : State :=
  match sweepPlace s.sweep.index with
  | .locker n => s.sweepLocker n
  | .cabin c => s.sweepCabin c
  | .slot n => s.sweepSlot n

/-- The index advances and the remaining count falls; at 0 both are reloaded for a new round.  No step waits until the next
is due (R139, R140). -/
def advance (w : Sweep) : Sweep :=
  if w.remaining ≤ 1 then { index := 1, remaining := Config.roundSteps, waiting := false }
  else { index := w.index + 1, remaining := w.remaining - 1, waiting := false }

/-- The step at the present index, when `wanted` holds of the state it finds: granted and handled, or, where the arbiter may
not grant it yet, waiting for its grant (R139, R140). -/
def sweepWhen (s : State) (wanted : Bool) : State :=
  if s.running && wanted then
    if s.mayGrant .sweep then { (s.granted .sweep).sweepAct with sweep := advance s.sweep }
    else { s with sweep.waiting := true }
  else s

/-! ### What a step would find -/

/-- Does the step stand at a locker in the state given whose window, of the length given, has run out? -/
def findsLocker (s : State) (st : LockerState) (window : Nat) : Bool :=
  match sweepPlace s.sweep.index with
  | .locker n => (s.locker n).state == st && s.expired (s.locker n).since window
  | _ => false

/-- Does the step stand at an occupation with an overhold stage due? -/
def findsOverhold (s : State) : Bool :=
  match sweepPlace s.sweep.index with
  | .cabin c =>
    let k := s.cabin c
    let limit := s.cabinLimit (s.cabinKind c)
    k.state == .occupied &&
      ((k.stage == 0 && decide (limit ≤ elapsed s.now k.since)) ||
        (k.stage == 1 && decide (2 * limit ≤ elapsed s.now k.since)))
  | _ => false

/-- Does the step stand at a CLEARED visitor whose leave window has run out? -/
def findsLeave (s : State) : Bool :=
  match sweepPlace s.sweep.index with
  | .slot n =>
    (s.band n).any fun b =>
      match b.kind, b.state with
      | .visitor _, .cleared since => s.expired since s.settings.windows.leave
      | _, _ => false
  | _ => false

/-- Does the step stand at a visit that it will mark as a long stay: an ACTIVE or OWING one, or one that this step
returns to ACTIVE, not marked yet and 43,200 s old? -/
def findsLongStay (s : State) : Bool :=
  match sweepPlace s.sweep.index with
  | .slot n =>
    (s.band n).any fun b =>
      match b.kind with
      | .staff => false
      | .visitor a =>
        !a.longStay && decide (Config.longStay ≤ elapsed s.now b.entry) &&
          (match b.state with
            | .active | .owing _ => true
            | .cleared since => s.expired since s.settings.windows.leave
            | .revoked => false)
  | _ => false

end State

/-- SWEEP_STEP: the sweep's step at the present index has become due, or waits already, and is granted when the arbiter may
grant it (R139, R140, R142 to R144). -/
def execSweepStep (s : State) : Host.Outcome State Fault Refusal := .next (s.sweepWhen true)

/-- SWEEP_ROUND_COMPLETE: the step that is the last of its round (R139). -/
def execSweepRoundComplete (s : State) : Host.Outcome State Fault Refusal :=
  .next (s.sweepWhen (decide (s.sweep.remaining ≤ 1)))

/-- OPEN_WINDOW_EXPIRY: the step that finds a RELEASED locker past its open window (R56). -/
def execOpenWindowExpiry (s : State) : Host.Outcome State Fault Refusal :=
  .next (s.sweepWhen (s.findsLocker .released s.settings.windows.opening))

/-- RELOCK_WINDOW_EXPIRY: the step that finds a CLOSING locker past its relock window (R57). -/
def execRelockWindowExpiry (s : State) : Host.Outcome State Fault Refusal :=
  .next (s.sweepWhen (s.findsLocker .closing s.settings.windows.relock))

/-- RESERVATION_LAPSED: the step that finds a RESERVED locker past its reservation window (R58). -/
def execReservationLapsed (s : State) : Host.Outcome State Fault Refusal :=
  .next (s.sweepWhen (s.findsLocker .reserved s.settings.windows.reservation))

/-- CABIN_OVERHOLD: the step that finds an occupation with a stage due (R79). -/
def execCabinOverhold (s : State) : Host.Outcome State Fault Refusal := .next (s.sweepWhen s.findsOverhold)

/-- LEAVE_LAPSED: the step that finds a CLEARED visitor past the leave window (R105). -/
def execLeaveLapsed (s : State) : Host.Outcome State Fault Refusal := .next (s.sweepWhen s.findsLeave)

/-- LONG_STAY: the step that marks a visit as a long stay (R145). -/
def execLongStay (s : State) : Host.Outcome State Fault Refusal := .next (s.sweepWhen s.findsLongStay)

end Sys2Proof.Machine
end

