-- ==== Sys2Proof/Machine/Watches.lean ====
section
/-! DEFINITION. The requests of the Watches group: SET_WATCH, CLEAR_WATCH and QUERY_WATCH (section 8.4).  The matching of events is in
Ops.lean. -/

namespace Sys2Proof.Machine

/-- The subject's checks of R155. -/
def Subject.inRange : Subject → Bool
  | .band first count =>
    validSerial first && decide (1 ≤ count) && decide (count ≤ 256) && decide (first + count - 1 < Config.serialTop)
  | .places .locker first last => decide (1 ≤ first) && decide (first ≤ last) && decide (last ≤ 1024)
  | .places .cabin first last => decide (1 ≤ first) && decide (first ≤ last) && decide (last ≤ 64)

/-- Is the subject a BAND one (Table 8-1)? -/
def Subject.isBand : Subject → Bool
  | .band .. => true
  | .places .. => false

/-- The checks of R155. -/
def WatchRequest.inRange (r : WatchRequest) : Bool :=
  decide (r.watch ≤ 3) && decide (r.priority ≤ 7) && r.subject.inRange && (!r.stop || r.subject.isBand)

/-- The mask as stored: on a BAND subject without the three events that carry no serial, and with REFUSED when stop is set
(R155). -/
def storedMask (sub : Subject) (stop : Bool) (mask : WatchMask) : WatchMask :=
  if sub.isBand then
    let kept := mask &&& 0b00011#5
    if stop then kept ||| 0b00010#5 else kept
  else mask

/-- The slot that SET_WATCH stores (R155). -/
def WatchRequest.slot (r : WatchRequest) : Watch :=
  { enabled := r.enabled, subject := r.subject, mask := storedMask r.subject r.stop r.mask, priority := r.priority,
    stop := r.stop, hits := 0, lastHit := none }

/-- SET_WATCH on port `p` (R155). -/
def setWatchRequest (p : PortId) : Handler := fun req s =>
  match parseWatch req.body with
  | none => refuse .outOfRange s
  | some r =>
    if !r.inRange then refuse .outOfRange s
    else accept (watchBytes r.slot) ((s.remember p (.watch r.watch (s.watch r.watch))).setWatch r.watch r.slot)

/-- SET_WATCH taken by the watch unit (R157). -/
def execSetWatch (p : PortId) (s : State) : Host.Outcome State Fault Refusal :=
  .next (s.takeRequest p .setWatch (setWatchRequest p))

/-- CLEAR_WATCH on port `p` (R156). -/
def clearWatch (p : PortId) : Handler := fun req s =>
  match parseNumber 1 req.body with
  | none => refuse .outOfRange s
  | some i =>
    if 3 < i then refuse .outOfRange s
    else accept [] ((s.remember p (.enabled i (s.watch i).enabled)).setWatch i { s.watch i with enabled := false })

/-- CLEAR_WATCH taken by the watch unit (R157). -/
def execClearWatch (p : PortId) (s : State) : Host.Outcome State Fault Refusal :=
  .next (s.takeRequest p .clearWatch (clearWatch p))

/-- QUERY_WATCH (R156). -/
def queryWatch : Handler := fun req s =>
  match parseNumber 1 req.body with
  | none => refuse .outOfRange s
  | some i => if 3 < i then refuse .outOfRange s else accept (watchBytes (s.watch i)) s

/-- QUERY_WATCH taken by the watch unit (R157). -/
def execQueryWatch (p : PortId) (s : State) : Host.Outcome State Fault Refusal :=
  .next (s.takeRequest p .queryWatch queryWatch)

end Sys2Proof.Machine
end

