-- ==== Sys2Proof/Machine/Zones.lean ====
section
/-! DEFINITION. The requests of the Zones and tariffs group: SET_ZONE, QUERY_ZONE, SET_TARIFF and SELECT_BANK (sections 3.1
and 5.2). -/

namespace Sys2Proof.Machine

/-- Check 1 of R35. -/
def ZoneRequest.inRange (r : ZoneRequest) : Bool :=
  decide (r.zone ≤ 15) && decide (1 ≤ r.value.first) && decide (r.value.first ≤ 1024) && decide (1 ≤ r.value.count) &&
    decide (r.value.first + r.value.count - 1 ≤ 1024) && decide (r.value.rank ≤ 3)

/-- Do two ranges share a locker number? -/
def Zone.meets (a b : Zone) : Bool := decide (a.first < b.first + b.count) && decide (b.first < a.first + a.count)

/-- Check 2 of R35: the new range contains a locker number of another present zone. -/
def State.zoneOverlaps (s : State) (r : ZoneRequest) : Bool :=
  r.value.present && tableAny (fun i z => i != r.zone && z.present && r.value.meets z) s.settings.zones

/-- Does a zone's range contain a bound locker (R35)? -/
def State.boundIn (s : State) (z : Zone) : Bool :=
  tableAny (fun i l => decide (z.first ≤ i + 1) && decide (i + 1 < z.first + z.count) && l.holder.isSome) s.engine.lockers

/-- Does the request differ from the stored record in the present field alone (check 3 of R35)? -/
def Zone.differsInPresentOnly (old new : Zone) : Bool :=
  old.present != new.present && decide (new = { old with present := new.present })

/-- SET_ZONE (R35). -/
def setZone : Handler := fun req s =>
  match parseZone req.body with
  | none => refuse .outOfRange s
  | some r =>
    if !r.inRange then refuse .outOfRange s
    else if s.zoneOverlaps r then refuse .overlap s
    else if !(s.zone r.zone).differsInPresentOnly r.value && (s.boundIn (s.zone r.zone) || s.boundIn r.value) then
      refuse .zoneInUse s
    else accept [] ({ s with settings.zones := tableSet s.settings.zones r.zone r.value }.setZoneUsed r.zone false)

/-- SET_ZONE granted on port `p`. -/
def execSetZone (p : PortId) (s : State) : Host.Outcome State Fault Refusal :=
  .next (s.grantRequest p .setZone setZone)

/-- QUERY_ZONE (R36). -/
def queryZone : Handler := fun req s =>
  match parseNumber 1 req.body with
  | none => refuse .outOfRange s
  | some z => if 15 < z then refuse .outOfRange s else accept (s.zoneBytes z) s

/-- QUERY_ZONE granted on port `p`. -/
def execQueryZone (p : PortId) (s : State) : Host.Outcome State Fault Refusal :=
  .next (s.grantRequest p .queryZone queryZone)

/-- A class's values clamped into the ranges of Table 5-2 (R88). -/
def TariffClass.clamped (t : TariffClass) : TariffClass :=
  { step := clamp 60 3600 t.step, rate := clamp 0 10000 t.rate, cap := clamp 0 65535 t.cap }

/-- One class of one bank replaced (R88). -/
def State.setTariffClass (s : State) (bank : Bank) (cls : Nat) (t : TariffClass) : State :=
  match bank with
  | .a => { s with settings.bankA := tableSet s.settings.bankA cls t }
  | .b => { s with settings.bankB := tableSet s.settings.bankB cls t }

/-- SET_TARIFF (R88). -/
def setTariff : Handler := fun req s =>
  match parseTariff req.body with
  | none => refuse .outOfRange s
  | some r =>
    if 7 < r.cls then refuse .outOfRange s
    else
      let t := r.value.clamped
      accept (bytesOf 2 t.step ++ bytesOf 2 t.rate ++ bytesOf 2 t.cap) (s.setTariffClass r.bank r.cls t)

/-- SET_TARIFF granted on port `p`. -/
def execSetTariff (p : PortId) (s : State) : Host.Outcome State Fault Refusal :=
  .next (s.grantRequest p .setTariff setTariff)

/-- SELECT_BANK (R89). -/
def selectBank : Handler := fun req s =>
  match parseBank req.body with
  | none => refuse .outOfRange s
  | some bank => accept [] { s with settings.selected := bank }

/-- SELECT_BANK granted on port `p`. -/
def execSelectBank (p : PortId) (s : State) : Host.Outcome State Fault Refusal :=
  .next (s.grantRequest p .selectBank selectBank)

end Sys2Proof.Machine
end

