-- ==== Sys2Proof/Machine/Dispatch.lean ====
section
/-! DEFINITION. Which meaning each command has: one arm per constructor. -/

namespace Sys2Proof.Machine

def exec (i : Instr) (s : State) : Host.Outcome State Fault Refusal :=
  match i with
  | .issueBand p => Sys2Proof.Machine.execIssueBand p s
  | .addTime p => Sys2Proof.Machine.execAddTime p s
  | .reissueBand p => Sys2Proof.Machine.execReissueBand p s
  | .revokeBand p => Sys2Proof.Machine.execRevokeBand p s
  | .discardBand p => Sys2Proof.Machine.execDiscardBand p s
  | .queryBand p => Sys2Proof.Machine.execQueryBand p s
  | .closeDay p => Sys2Proof.Machine.execCloseDay p s
  | .settle p => Sys2Proof.Machine.execSettle p s
  | .pay p => Sys2Proof.Machine.execPay p s
  | .collect p => Sys2Proof.Machine.execCollect p s
  | .assignLocker p => Sys2Proof.Machine.execAssignLocker p s
  | .openLocker p => Sys2Proof.Machine.execOpenLocker p s
  | .releaseLocker p => Sys2Proof.Machine.execReleaseLocker p s
  | .rearmLocker p => Sys2Proof.Machine.execRearmLocker p s
  | .setLockerService p => Sys2Proof.Machine.execSetLockerService p s
  | .queryLocker p => Sys2Proof.Machine.execQueryLocker p s
  | .openCabin p => Sys2Proof.Machine.execOpenCabin p s
  | .setCabinService p => Sys2Proof.Machine.execSetCabinService p s
  | .queryCabin p => Sys2Proof.Machine.execQueryCabin p s
  | .setZone p => Sys2Proof.Machine.execSetZone p s
  | .queryZone p => Sys2Proof.Machine.execQueryZone p s
  | .setTariff p => Sys2Proof.Machine.execSetTariff p s
  | .selectBank p => Sys2Proof.Machine.execSelectBank p s
  | .setWatch p => Sys2Proof.Machine.execSetWatch p s
  | .clearWatch p => Sys2Proof.Machine.execClearWatch p s
  | .queryWatch p => Sys2Proof.Machine.execQueryWatch p s
  | .readNotice p => Sys2Proof.Machine.execReadNotice p s
  | .ackAlarm p => Sys2Proof.Machine.execAckAlarm p s
  | .setThreshold p => Sys2Proof.Machine.execSetThreshold p s
  | .setNoticePriority p => Sys2Proof.Machine.execSetNoticePriority p s
  | .setModules p => Sys2Proof.Machine.execSetModules p s
  | .holdModule p => Sys2Proof.Machine.execHoldModule p s
  | .releaseModule p => Sys2Proof.Machine.execReleaseModule p s
  | .queryModule p => Sys2Proof.Machine.execQueryModule p s
  | .setPort p => Sys2Proof.Machine.execSetPort p s
  | .setWindows p => Sys2Proof.Machine.execSetWindows p s
  | .saveSettings p => Sys2Proof.Machine.execSaveSettings p s
  | .saveComplete ok => Sys2Proof.Machine.execSaveComplete ok s
  | .setClock p => Sys2Proof.Machine.execSetClock p s
  | .trimClock p => Sys2Proof.Machine.execTrimClock p s
  | .status p => Sys2Proof.Machine.execStatus p s
  | .portFrame p => Sys2Proof.Machine.execPortFrame p s
  | .frameGapTimeout p => Sys2Proof.Machine.execFrameGapTimeout p s
  | .replySent p => Sys2Proof.Machine.execReplySent p s
  | .present => Sys2Proof.Machine.execPresent s
  | .heldPresentRefused => Sys2Proof.Machine.execHeldPresentRefused s
  | .doorOpen => Sys2Proof.Machine.execDoorOpen s
  | .doorClosed => Sys2Proof.Machine.execDoorClosed s
  | .handle => Sys2Proof.Machine.execHandle s
  | .latchDone => Sys2Proof.Machine.execLatchDone s
  | .latchDoorOpen => Sys2Proof.Machine.execLatchDoorOpen s
  | .latchJammed => Sys2Proof.Machine.execLatchJammed s
  | .latchFailed => Sys2Proof.Machine.execLatchFailed s
  | .unlatchDone => Sys2Proof.Machine.execUnlatchDone s
  | .unlatchJammed => Sys2Proof.Machine.execUnlatchJammed s
  | .unlatchFailed => Sys2Proof.Machine.execUnlatchFailed s
  | .readStateReport => Sys2Proof.Machine.execReadStateReport s
  | .sweepStep => Sys2Proof.Machine.execSweepStep s
  | .sweepRoundComplete => Sys2Proof.Machine.execSweepRoundComplete s
  | .openWindowExpiry => Sys2Proof.Machine.execOpenWindowExpiry s
  | .relockWindowExpiry => Sys2Proof.Machine.execRelockWindowExpiry s
  | .reservationLapsed => Sys2Proof.Machine.execReservationLapsed s
  | .cabinOverhold => Sys2Proof.Machine.execCabinOverhold s
  | .leaveLapsed => Sys2Proof.Machine.execLeaveLapsed s
  | .longStay => Sys2Proof.Machine.execLongStay s
  | .poll => Sys2Proof.Machine.execPoll s
  | .readState => Sys2Proof.Machine.execReadState s
  | .latch => Sys2Proof.Machine.execLatch s
  | .unlatch => Sys2Proof.Machine.execUnlatch s
  | .holdShow => Sys2Proof.Machine.execHoldShow s
  | .clearShow => Sys2Proof.Machine.execClearShow s
  | .moduleReply bytes => Sys2Proof.Machine.execModuleReply bytes s
  | .attemptTimeout => Sys2Proof.Machine.execAttemptTimeout s
  | .fieldStartDelay => Sys2Proof.Machine.execFieldStartDelay s
  | .noticeTaken => Sys2Proof.Machine.execNoticeTaken s
  | .escalationTick => Sys2Proof.Machine.execEscalationTick s
  | .alarmEscalated => Sys2Proof.Machine.execAlarmEscalated s
  | .dayClockTick => Sys2Proof.Machine.execDayClockTick s
  | .supplyHold => Sys2Proof.Machine.execSupplyHold s
  | .restoreTimerStart => Sys2Proof.Machine.execRestoreTimerStart s
  | .supplyNormal => Sys2Proof.Machine.execSupplyNormal s
  | .supplyDown => Sys2Proof.Machine.execSupplyDown s
  | .retentionLost => Sys2Proof.Machine.execRetentionLost s
  | .returnFromDown straps => Sys2Proof.Machine.execReturnFromDown straps s
  | .resetAsserted => Sys2Proof.Machine.execResetAsserted s
  | .resetReleased straps => Sys2Proof.Machine.execResetReleased straps s
  | .portByteReceived p b => Sys2Proof.Machine.execPortByteReceived p b s
  | .restoreTimerRestarted => Sys2Proof.Machine.execRestoreTimerRestarted s

end Sys2Proof.Machine
end

