-- ==== Sys2Proof/Machine/Bodies.lean ====
section
/-! DEFINITION. The request bodies as a master writes them (Table 13-2): each layout written from its fields, and the events
of a POLL reply as a module writes them (section 13.4).  The part only reads these; the writers are what the statements hold
the readers of Operands.lean and Loop.lean against. -/

namespace Sys2Proof.Machine

/-- An assignment's three bytes. -/
def assignmentBytes : Assignment → List Byte
  | .zone z => bytesOf 1 0 ++ bytesOf 2 z
  | .locker n => bytesOf 1 1 ++ bytesOf 2 n

/-- ISSUE_BAND. -/
def issueBody (q : IssueRequest) : List Byte :=
  bytesOf 4 q.serial ++ bytesOf 1 (yesNo q.staff) ++ bytesOf 1 q.rank ++ bytesOf 2 q.minutes ++ bytesOf 1 q.cls ++
    (q.leader.map (bytesOf 4)).getD [] ++ (q.assignment.map assignmentBytes).getD []

/-- ADD_TIME and PAY. -/
def serialAmountBody (serial amount : Nat) : List Byte := bytesOf 4 serial ++ bytesOf 2 amount

/-- REISSUE_BAND. -/
def twoSerialsBody (old new : Nat) : List Byte := bytesOf 4 old ++ bytesOf 4 new

/-- DISCARD_BAND and QUERY_BAND. -/
def bandRefBody : BandRef → List Byte
  | .serial n => bytesOf 1 0 ++ bytesOf 4 n
  | .slot n => bytesOf 1 1 ++ bytesOf 4 n

/-- ASSIGN_LOCKER. -/
def assignBody (serial : Nat) (a : Assignment) : List Byte := bytesOf 4 serial ++ assignmentBytes a

/-- SET_LOCKER_SERVICE. -/
def lockerServiceBody (n : Nat) (back : Bool) : List Byte := bytesOf 2 n ++ bytesOf 1 (yesNo back)

/-- SET_CABIN_SERVICE. -/
def cabinServiceBody (c : Nat) (back : Bool) : List Byte := bytesOf 1 c ++ bytesOf 1 (yesNo back)

/-- SET_ZONE. -/
def zoneBody (q : ZoneRequest) : List Byte :=
  bytesOf 1 q.zone ++ bytesOf 1 (yesNo q.value.present) ++ bytesOf 2 q.value.first ++ bytesOf 2 q.value.count ++
    bytesOf 1 q.value.rank ++ bytesOf 1 (yesNo q.value.groupOnly) ++ bytesOf 1 (zoneOrderCode q.value.order)

/-- SET_TARIFF. -/
def tariffBody (q : TariffRequest) : List Byte :=
  bytesOf 1 (bankCode q.bank) ++ bytesOf 1 q.cls ++ bytesOf 2 q.value.step ++ bytesOf 2 q.value.rate ++
    bytesOf 2 q.value.cap

/-- SELECT_BANK. -/
def bankBody (bank : Bank) : List Byte := bytesOf 1 (bankCode bank)

/-- SET_WATCH. -/
def watchBody (q : WatchRequest) : List Byte :=
  bytesOf 1 q.watch ++ [flagsByte [q.enabled, q.stop]] ++ subjectBytes q.subject ++ bytesOf 1 q.mask.toNat ++
    bytesOf 1 q.priority

/-- ACK_ALARM. -/
def ackBody : AckRequest → List Byte
  | .all => []
  | .one k n => bytesOf 1 (noticeCode k) ++ bytesOf 2 n

/-- SET_NOTICE_PRIORITY. -/
def priorityBody (k : NoticeKind) (n : Nat) : List Byte := bytesOf 1 (noticeCode k) ++ bytesOf 1 n

/-- SET_MODULES; the kind bytes of a lock module are written 0. -/
def modulesBody (q : ModulesRequest) : List Byte :=
  bytesOf 1 q.addr ++ bytesOf 1 (yesNo q.configured) ++ bytesOf 1 (yesNo q.holdOnForce) ++
    if isCabinModule q.addr then q.kinds.flatMap fun k => bytesOf 1 (cabinKindCode k) else bytesOf 4 0

/-- SET_PORT. -/
def portBody (number rank : Nat) (set : PermSet) : List Byte := bytesOf 1 number ++ bytesOf 1 rank ++ permBytes set

/-- SET_WINDOWS. -/
def windowsBody (q : WindowsRequest) : List Byte :=
  bytesOf 2 q.values.opening ++ bytesOf 2 q.values.relock ++ bytesOf 2 q.values.reservation ++ bytesOf 2 q.values.leave ++
    bytesOf 2 q.values.grace ++ bytesOf 2 q.values.limitSingle ++ bytesOf 2 q.values.limitFamily ++
    bytesOf 2 q.values.limitStaff ++ bytesOf 2 q.values.escalation ++ bytesOf 2 q.rate

/-- TRIM_CLOCK. -/
def trimBody (d : Int) : List Byte := [BitVec.ofInt 8 d]

/-- One event of a POLL reply, as a module writes it: type, position, serial (section 13.4). -/
def eventBytes : Event → List Byte
  | .present pos serial => bytesOf 1 1 ++ bytesOf 1 pos ++ bytesOf 4 serial
  | .doorOpen pos => bytesOf 1 2 ++ bytesOf 1 pos ++ bytesOf 4 0
  | .doorClosed pos => bytesOf 1 3 ++ bytesOf 1 pos ++ bytesOf 4 0
  | .handle pos => bytesOf 1 4 ++ bytesOf 1 pos ++ bytesOf 4 0

/-! ### The values a layout can carry -/

/-- The event names a position that a module at the address has, a HANDLE only at a cabin module, and its serial fits
(R113, R118). -/
def Event.fits (addr : Nat) : Event → Prop
  | .present pos serial => pos < positionCount addr ∧ serial < 4294967296
  | .doorOpen pos => pos < positionCount addr
  | .doorClosed pos => pos < positionCount addr
  | .handle pos => pos < positionCount addr ∧ isCabinModule addr = true

/-- The assignment's number fits its two bytes. -/
def Assignment.fits : Assignment → Prop
  | .zone z => z < 65536
  | .locker n => n < 65536

/-- Every field of ISSUE_BAND fits its bytes. -/
def IssueRequest.fits (q : IssueRequest) : Prop :=
  q.serial < 4294967296 ∧ q.rank < 256 ∧ q.minutes < 65536 ∧ q.cls < 256 ∧ (∀ l ∈ q.leader, l < 4294967296) ∧
    ∀ a ∈ q.assignment, a.fits

/-- The band reference fits its four bytes. -/
def BandRef.fits : BandRef → Prop
  | .serial n => n < 4294967296
  | .slot n => n < 4294967296

/-- Every field of SET_ZONE fits its bytes. -/
def ZoneRequest.fits (q : ZoneRequest) : Prop :=
  q.zone < 256 ∧ q.value.first < 65536 ∧ q.value.count < 65536 ∧ q.value.rank < 256

/-- Every field of SET_TARIFF fits its bytes. -/
def TariffRequest.fits (q : TariffRequest) : Prop :=
  q.cls < 256 ∧ q.value.step < 65536 ∧ q.value.rate < 65536 ∧ q.value.cap < 65536

/-- A watch's subject fits its seven bytes. -/
def Subject.fits : Subject → Prop
  | .band first count => first < 4294967296 ∧ count < 65536
  | .places _ first last => first < 4294967296 ∧ last < 65536

/-- Every field of SET_WATCH fits its bytes. -/
def WatchRequest.fits (q : WatchRequest) : Prop := q.watch < 256 ∧ q.priority < 256 ∧ q.subject.fits

/-- The alarm's number fits its two bytes. -/
def AckRequest.fits : AckRequest → Prop
  | .all => True
  | .one _ n => n < 65536

/-- Every field of SET_MODULES fits: four kinds for a cabin module, none for a lock module. -/
def ModulesRequest.fits (q : ModulesRequest) : Prop :=
  q.addr < 256 ∧ q.kinds.length = if isCabinModule q.addr then 4 else 0

/-- Every value of SET_WINDOWS fits its two bytes. -/
def WindowsRequest.fits (q : WindowsRequest) : Prop :=
  q.values.opening < 65536 ∧ q.values.relock < 65536 ∧ q.values.reservation < 65536 ∧ q.values.leave < 65536 ∧
    q.values.grace < 65536 ∧ q.values.limitSingle < 65536 ∧ q.values.limitFamily < 65536 ∧
    q.values.limitStaff < 65536 ∧ q.values.escalation < 65536 ∧ q.rate < 65536

end Sys2Proof.Machine
end

