-- ==== Sys2Proof/Safety.lean ====
section
/-! DEFINITION. What a safe run is, the invariants of the machine, and the words the statements are made of: a request that stands
before its block, a request answered, a state reached by a list of commands. -/

namespace Sys2Proof.Machine

/-- The row of a request kind, on the port that carries it. -/
def rowOf (p : PortId) : ReqKind → Instr
  | .issueBand => .issueBand p
  | .addTime => .addTime p
  | .reissueBand => .reissueBand p
  | .revokeBand => .revokeBand p
  | .discardBand => .discardBand p
  | .queryBand => .queryBand p
  | .closeDay => .closeDay p
  | .settle => .settle p
  | .pay => .pay p
  | .collect => .collect p
  | .assignLocker => .assignLocker p
  | .openLocker => .openLocker p
  | .releaseLocker => .releaseLocker p
  | .rearmLocker => .rearmLocker p
  | .setLockerService => .setLockerService p
  | .queryLocker => .queryLocker p
  | .openCabin => .openCabin p
  | .setCabinService => .setCabinService p
  | .queryCabin => .queryCabin p
  | .setZone => .setZone p
  | .queryZone => .queryZone p
  | .setTariff => .setTariff p
  | .selectBank => .selectBank p
  | .setWatch => .setWatch p
  | .clearWatch => .clearWatch p
  | .queryWatch => .queryWatch p
  | .readNotice => .readNotice p
  | .ackAlarm => .ackAlarm p
  | .setThreshold => .setThreshold p
  | .setNoticePriority => .setNoticePriority p
  | .setModules => .setModules p
  | .holdModule => .holdModule p
  | .releaseModule => .releaseModule p
  | .queryModule => .queryModule p
  | .setPort => .setPort p
  | .setWindows => .setWindows p
  | .saveSettings => .saveSettings p
  | .setClock => .setClock p
  | .trimClock => .trimClock p
  | .status => .status p

/-- The handling of a request kind by the block that owns its state; SAVE_SETTINGS, whose reply waits for the end of the write,
has none of this form (R194). -/
def handlerOf (p : PortId) : ReqKind → Option Handler
  | .issueBand => some issueBand
  | .addTime => some addTime
  | .reissueBand => some reissueBand
  | .revokeBand => some revokeBand
  | .discardBand => some discardBand
  | .queryBand => some queryBand
  | .closeDay => some closeDay
  | .settle => some settle
  | .pay => some pay
  | .collect => some collect
  | .assignLocker => some assignLocker
  | .openLocker => some openLocker
  | .releaseLocker => some releaseLocker
  | .rearmLocker => some rearmLocker
  | .setLockerService => some setLockerService
  | .queryLocker => some queryLocker
  | .openCabin => some openCabin
  | .setCabinService => some setCabinService
  | .queryCabin => some queryCabin
  | .setZone => some setZone
  | .queryZone => some queryZone
  | .setTariff => some setTariff
  | .selectBank => some selectBank
  | .setWatch => some (setWatchRequest p)
  | .clearWatch => some (clearWatch p)
  | .queryWatch => some queryWatch
  | .readNotice => some (readNotice p)
  | .ackAlarm => some (ackAlarm p)
  | .setThreshold => some (setThreshold p)
  | .setNoticePriority => some (setNoticePriority p)
  | .setModules => some setModules
  | .holdModule => some (setHeld true p)
  | .releaseModule => some (setHeld false p)
  | .queryModule => some queryModule
  | .setPort => some (setPortRequest p)
  | .setWindows => some setWindows
  | .saveSettings => none
  | .setClock => some setClock
  | .trimClock => some (trimClock p)
  | .status => some (statusRequest p)

/-- The body lengths that Table 13-2 gives a kind. -/
def bodyLengths : ReqKind → List Nat
  | .issueBand => [9, 12, 13, 16]
  | .addTime => [6]
  | .reissueBand => [8]
  | .revokeBand => [4]
  | .discardBand => [5]
  | .queryBand => [5]
  | .closeDay => [0]
  | .settle => [4]
  | .pay => [6]
  | .collect => [4]
  | .assignLocker => [7]
  | .openLocker => [2]
  | .releaseLocker => [2]
  | .rearmLocker => [2]
  | .setLockerService => [3]
  | .queryLocker => [2]
  | .openCabin => [1]
  | .setCabinService => [2]
  | .queryCabin => [1]
  | .setZone => [9]
  | .queryZone => [1]
  | .setTariff => [8]
  | .selectBank => [1]
  | .setWatch => [11]
  | .clearWatch => [1]
  | .queryWatch => [1]
  | .readNotice => [0]
  | .ackAlarm => [0, 3]
  | .setThreshold => [1]
  | .setNoticePriority => [2]
  | .setModules => [7]
  | .holdModule => [1]
  | .releaseModule => [1]
  | .queryModule => [1]
  | .setPort => [7]
  | .setWindows => [20]
  | .saveSettings => [0]
  | .setClock => [3]
  | .trimClock => [1]
  | .status => [0]

/-- The enumerated and yes-or-no bytes of a body of a kind (Table 13-2): each one's offset with the lowest and the highest code
that section 13.1 gives it.  The assignment form of an ISSUE_BAND stands where the body's length puts it, and the cabin kinds of
a SET_MODULES count for a cabin module only (R196). -/
def codedBytes (k : ReqKind) (body : List Byte) : List (Nat × Nat × Nat) :=
  match k with
  | .issueBand =>
    (4, 0, 1) :: (if body.length = 12 then [(9, 0, 1)] else if body.length = 16 then [(13, 0, 1)] else [])
  | .discardBand | .queryBand | .setTariff | .selectBank => [(0, 0, 1)]
  | .assignLocker => [(4, 0, 1)]
  | .setLockerService => [(2, 0, 1)]
  | .setCabinService => [(1, 0, 1)]
  | .setZone => [(1, 0, 1), (7, 0, 1), (8, 0, 1)]
  | .setWatch => [(2, 0, 2)]
  | .ackAlarm => if body = [] then [] else [(0, 1, 19)]
  | .setNoticePriority => [(0, 1, 19)]
  | .setModules =>
    let addr := (body.getD 0 0#8).toNat
    [(1, 0, 1), (2, 0, 1)] ++ (if 129 ≤ addr ∧ addr ≤ 144 then [(3, 0, 2), (4, 0, 2), (5, 0, 2), (6, 0, 2)] else [])
  | _ => []

/-- The body has a length its kind may have, and each enumerated or yes-or-no byte of it holds a code (R196). -/
def bodyAllowed (k : ReqKind) (body : List Byte) : Prop :=
  body.length ∈ bodyLengths k ∧
    ∀ c ∈ codedBytes k body, c.2.1 ≤ (body.getD c.1 0#8).toNat ∧ (body.getD c.1 0#8).toNat ≤ c.2.2

/-- Is the code a refusal's (Table 10-3, R180)? -/
def ResultCode.refuses : ResultCode → Bool
  | .ok | .clear | .clearStaff | .owes | .none => false
  | _ => true

/-- The bytes hold each row's value at the row's offset and in its width, high byte first; a row is an offset, a width and a
value, and a value too wide for its field is cut to it (section 13.1). -/
def holdsRows (d : List Byte) (rows : List (Nat × Nat × Nat)) : Prop :=
  ∀ e ∈ rows, fieldAt d e.1 e.2.1 = e.2.2 % 256 ^ e.2.1

/-- What a port's line does with the replies that stand ready in their order: it sends the first of them (R173). -/
def sends : List Reply → Link
  | [] => .idle
  | r :: _ => .sending r

namespace State

/-! ### Runs -/

/-- Commands run one after another from a state, stopping at the first fault or refusal. -/
def runAll : List Instr → State → Host.Outcome State Fault Refusal
  | [], s => .next s
  | c :: rest, s =>
    match exec c s with
    | .next t => t.runAll rest
    | .fault f => .fault f
    | .refused r => .refused r

/-- A run is safe when it ends in a state: no command of it stops the part. -/
def safeRun (cs : List Instr) (s : State) : Prop := ∃ t, s.runAll cs = .next t

/-! ### Requests -/

/-- A request of kind `k` waits on port `p` and the binding arbiter may grant it now. -/
abbrev granting (s : State) (p : PortId) (k : ReqKind) (r : Request) : Prop :=
  s.request p k = some r ∧ s.mayGrant (.port p) = true

/-- A request of kind `k` waits on port `p`, and the block that owns its state, which needs no grant, runs. -/
abbrev taking (s : State) (p : PortId) (k : ReqKind) (r : Request) : Prop := s.request p k = some r ∧ s.running = true

/-- The state once the request on port `p` has been taken and its reply has become ready. -/
def answered (s : State) (p : PortId) (r : Request) (code : ResultCode) (data : List Byte) : State :=
  (s.markTaken p).deliver p (replyTo r { code := code, data := data })

/-- The field engine's waiting item is the one given and the arbiter may grant it now. -/
abbrev grantingItem (s : State) (item : HandItem) : Prop := s.waitingItem = some item ∧ s.mayGrant .field = true

/-- A presentation decided at a module's position and shown at its reader, reported to the watches as PRESENTED and, when it
was answered RED, as REFUSED too; then the event leaves the hand-over list (R122, R152, R154, R119). -/
def shown (s : State) (addr pos serial : Nat) (ind : Indication) : State :=
  let told := (s.indicate addr pos ind).watchEvent (placeAt addr pos) .presented (some serial)
  (if ind = .red then told.watchEvent (placeAt addr pos) .refused (some serial) else told).popHead

/-- The record in a slot with its last_place set to a place and the present time (R6). -/
def seenAt (s : State) (slot : Nat) (b : Band) (place : Place) : State :=
  s.setBand slot (some { b with lastPlace := some { place := place, time := s.now } })

/-! ### Invariants -/

/-- Every count stands in the range the spec gives it: the day clock, the sweep's index with its remaining count, the poll
position and cycle count, and the attempt number (R186, R138, R123, R113). -/
def CountsInRange (s : State) : Prop :=
  s.supply.clock < Config.day ∧
    1 ≤ s.sweep.remaining ∧ 1 ≤ s.sweep.index ∧ s.sweep.index + s.sweep.remaining = Config.roundSteps + 1 ∧
    1 ≤ s.field.pollPosition ∧ s.field.pollPosition ≤ 144 ∧ s.field.cycle ≤ 15 ∧
    ∀ x, s.field.exchange = some x → 1 ≤ x.attempt ∧ x.attempt ≤ 3

/-- The supply state, the retention flag, LPEN, RESET and the restore timer agree, and the ports, the field engine and the
sweep stand stopped exactly while the part does not run (R189, R191, R192, R184, R135, R149). -/
def StandsStopped (s : State) : Prop :=
  (s.supply.supply ≠ .down → s.supply.retention = true ∧ s.supply.lpen = true) ∧
    (s.supply.supply = .down → s.supply.lpen = false ∧ s.supply.resetHeld = false ∧ s.supply.save = none) ∧
    (s.supply.supply = .normal → s.supply.restoring = false) ∧
    (∀ p, (s.port p).link = .stopped ↔ s.running = false) ∧
    (s.running = false →
      s.field.exchange = none ∧ s.field.handover = [] ∧ s.field.waitingHeld = false ∧ s.sweep.waiting = false ∧
        ∀ p, (s.port p).ready = [])

/-- The field command queue holds at most 32 entries (R125). -/
def CommandQueueBounded (s : State) : Prop := s.field.queue.length ≤ Config.queueCapacity

/-- Every port's notice queue holds at most 16 notices, the higher priority before the lower (R163). -/
def NoticeQueuesOrdered (s : State) : Prop :=
  ∀ p, (s.queue p).length ≤ Config.noticeCapacity ∧ (s.queue p).Pairwise fun a b => b.priority ≤ a.priority

/-- A list of at most eight alarm records, all of alarm kinds, no two of one kind and place, the countdown of an escalated one
at 0 (R167, R168). -/
def alarmsSound (l : List Alarm) : Prop :=
  l.length ≤ Config.alarmCapacity ∧ (∀ a ∈ l, isAlarm a.kind = true) ∧
    l.Pairwise (fun a b => ¬(a.kind = b.kind ∧ a.place = b.place)) ∧ ∀ a ∈ l, a.escalated = true → a.countdown = 0

/-- While the backup cell has held, the alarm list is sound, and so is the list that would stand without each ACK_ALARM still
outstanding (R167, R168, R185). -/
def AlarmListSound (s : State) : Prop :=
  s.supply.retention = true →
    alarmsSound s.notices.alarms ∧
      ∀ u ∈ s.undo, ∀ which l full, u.before = .alarms which l full → alarmsSound l

/-- What each request taken without a grant wrote over belongs to a request of that kind which is taken and still outstanding on
its port, and a port has one at most (R176, R185). -/
def UndoSound (s : State) : Prop :=
  (∀ u ∈ s.undo, ∃ r k, (s.port u.port).outstanding = some r ∧ r.taken = true ∧ kindOf r.code = some k ∧
    match u.before with
    | .watch i _ => k = .setWatch ∧ i ≤ 3
    | .enabled i _ => k = .clearWatch ∧ i ≤ 3
    | .port p _ => k = .setPort ∧ p ≠ .cp2
    | .threshold p _ => k = .setThreshold ∧ p = u.port
    | .priority kind _ => k = .setNoticePriority ∧ isAlarm kind = false ∧ kind ≠ .watchHit
    | .alarms .. => k = .ackAlarm
    | .held a _ => (k = .holdModule ∨ k = .releaseModule) ∧ 1 ≤ a ∧ a ≤ 144
    | .clock _ => k = .trimClock) ∧
    s.undo.Pairwise fun a b => a.port ≠ b.port

/-- The locker table and the bands' lockers lists agree: a locker names a holder exactly when that holder's list names it; a
list holds no locker twice and at most the number its role allows; a locker of a module that is not configured is UNFITTED;
and each state has a holder or none as Table 3-3 gives (R15, R37, R38, R39). -/
def LockersAgree (s : State) : Prop :=
  (∀ n h, 1 ≤ n → n ≤ 1024 → ((s.locker n).holder = some h ↔ ∃ b, s.band h = some b ∧ n ∈ b.lockers)) ∧
    (∀ k b, s.band k = some b → b.lockers.Nodup ∧ (∀ n ∈ b.lockers, 1 ≤ n ∧ n ≤ 1024) ∧
      match b.role with
      | .none => b.lockers.length ≤ 1
      | .leader _ => b.lockers.length ≤ 2
      | .member _ => b.lockers = []) ∧
    ∀ n, 1 ≤ n → n ≤ 1024 →
      (s.configured (lockerAt n).1 = false → (s.locker n).state = .unfitted) ∧
      match (s.locker n).state with
      | .unfitted | .free | .orphaned | .outOfService => (s.locker n).holder = none
      | .reserved | .locked | .released | .opened | .closing => (s.locker n).holder ≠ none
      | .latching => (s.locker n).holder = none → (s.locker n).origin = some .forced
      | .unlatching => (s.locker n).holder = none ↔ (s.locker n).release = true
      | .fault | .forced => True

/-- The cabin table and the bands' cabin fields agree: a cabin names an occupant exactly when that band's cabin field names the
cabin; a cabin of a module that is not configured is UNFITTED; and each state has an occupant or none (R68, R69,
Table 4-2). -/
def CabinsAgree (s : State) : Prop :=
  (∀ c k, 1 ≤ c → c ≤ 64 → ((s.cabin c).occupant = some k ↔ ∃ b, s.band k = some b ∧ b.cabin = some c)) ∧
    (∀ k b c, s.band k = some b → b.cabin = some c → 1 ≤ c ∧ c ≤ 64) ∧
    ∀ c, 1 ≤ c → c ≤ 64 →
      (s.configured (cabinAt c).1 = false → (s.cabin c).state = .unfitted) ∧
      match (s.cabin c).state with
      | .unfitted | .vacant | .outOfService => (s.cabin c).occupant = none
      | .latching | .occupied => (s.cabin c).occupant ≠ none
      | .unlatching => True

/-- The serial map stands in rising order and maps exactly the serials of the records in use, each to its slot (R4). -/
def SerialMapAgrees (s : State) : Prop :=
  s.engine.serialMap.Pairwise (fun a b => a.1 < b.1) ∧
    ∀ m k, s.slotOf m = some k ↔ ∃ b, s.band k = some b ∧ b.serial = m

/-- The groups are whole: a leader lists at most five members, none twice, each of which names it, and a member's leader lists
it; leaders and members are visitors (R14). -/
def GroupsAgree (s : State) : Prop :=
  ∀ k b, s.band k = some b →
    match b.role with
    | .none => True
    | .leader ms => b.isVisitor = true ∧ ms.length ≤ Config.groupCapacity ∧ ms.Nodup ∧
        ∀ m ∈ ms, ∃ mb, s.band m = some mb ∧ mb.role = .member k
    | .member l => b.isVisitor = true ∧ ∃ lb ms, s.band l = some lb ∧ lb.role = .leader ms ∧ k ∈ ms

/-- The reissue chains are whole: the record a previous link names is REVOKED and its next link names this one, and the other
way round; a chain holds at most four records, all of them visitors' (R17). -/
def ChainsAgree (s : State) : Prop :=
  ∀ k b, s.band k = some b →
    s.chainLength b ≤ Config.chainCapacity ∧
    (∀ p, b.previous = some p → ∃ pb, s.band p = some pb ∧ pb.state = .revoked ∧ pb.next = some k) ∧
    (∀ m, b.next = some m → b.state = .revoked ∧ ∃ mb, s.band m = some mb ∧ mb.previous = some k) ∧
    (b.kind = .staff → b.previous = none ∧ b.next = none)

/-- What a record in a state may still hold: a REVOKED one no cabin, and once reissued nothing; an OWING or CLEARED one no
locker and no member, a CLEARED one no cabin either (R19, R23, R95, R99). -/
def HoldingsAgree (s : State) : Prop :=
  ∀ k b, s.band k = some b →
    match b.state with
    | .active => True
    | .revoked => b.cabin = none ∧ (b.next ≠ none → b.lockers = [] ∧ b.role = .none)
    | .owing _ => b.lockers = [] ∧ b.members = []
    | .cleared _ => b.lockers = [] ∧ b.members = [] ∧ b.cabin = none

/-- While the backup cell has held, the binding engine's tables agree with one another. -/
def BindingTablesAgree (s : State) : Prop :=
  s.supply.retention = true →
    s.LockersAgree ∧ s.CabinsAgree ∧ s.SerialMapAgrees ∧ s.GroupsAgree ∧ s.ChainsAgree ∧ s.HoldingsAgree

end State

end Sys2Proof.Machine
end

