-- ==== Sys2Proof/Certificates/Slice0/Obligations.lean ====
section
/-! DEFINITION. The statements for the provers, family by family.  A statement about a command ends in the state that `exec` answers,
written as the state before with what the command changes; what the equation does not name is as it was. -/

open Sys2Proof Sys2Proof.Machine

/-! ### The machine as a whole -/

/-- A step takes the command at the front of the queue and runs it on the state with the queue's rest; with nothing waiting
the part idles (assumption 6: the model's choice). -/
def Obligations.StepRunsTheFrontCommand : Prop :=
  (∀ (c : Instr) (rest : List Instr) (s : State), s.pending = c :: rest → step s = exec c (s.withPending rest)) ∧
    ∀ s : State, s.pending = [] → step s = .next s

/-- Every command answers a next state, from every state, and leaves the commands that wait behind it as they stand.  That a
command whose step cannot take place now answers the state as it stands is the model's choice (assumption 2). -/
def Obligations.EveryCommandCompletes : Prop :=
  ∀ (c : Instr) (s : State), ∃ t, exec c s = .next t ∧ t.pending = s.pending

/-- The state after reset, and the part as power is first applied, meet every invariant stated below. -/
def Obligations.ResetMeetsTheInvariants : Prop :=
  ∀ s : State, s = State.reset ∨ s = State.powerOn →
    s.CountsInRange ∧ s.StandsStopped ∧ s.CommandQueueBounded ∧ s.NoticeQueuesOrdered ∧ s.AlarmListSound ∧
      s.UndoSound ∧ s.BindingTablesAgree

/-- Every step keeps the day clock, the sweep's round, the poll walk and the attempt number in their ranges. -/
def Obligations.StepsKeepCountsInRange : Prop :=
  ∀ s t : State, s.CountsInRange → step s = .next t → t.CountsInRange

/-- Every step keeps the supply unit consistent, and the ports, the field engine and the sweep stopped exactly while the part
stands stopped. -/
def Obligations.StepsKeepTheStop : Prop := ∀ s t : State, s.StandsStopped → step s = .next t → t.StandsStopped

/-- Every step keeps the field command queue at 32 entries or fewer. -/
def Obligations.StepsKeepTheCommandQueue : Prop :=
  ∀ s t : State, s.CommandQueueBounded → step s = .next t → t.CommandQueueBounded

/-- Every step keeps each notice queue at 16 notices or fewer, the higher priority before the lower. -/
def Obligations.StepsKeepTheNoticeQueues : Prop :=
  ∀ s t : State, s.NoticeQueuesOrdered → step s = .next t → t.NoticeQueuesOrdered

/-- Every step keeps the alarm list: eight records at most, no kind and place twice, and the same of the list that would stand
without each ACK_ALARM still outstanding.  The invariant of the stop comes with it, because what the backup cell holds after retention is lost is a free value until the cold start. -/
def Obligations.StepsKeepTheAlarmList : Prop :=
  ∀ s t : State, s.StandsStopped ∧ s.AlarmListSound → step s = .next t → t.AlarmListSound

/-! ### The binding arbiter and requests in general -/

/-- After a requester has been granted, it is not granted again while another waits, the sweep's waiting step among them.  The
order is the fixed cycle CP0, CP1, CP2, field engine, sweep, counted from the requester after the one last granted; each
grant to another brings the turn of a requester that waits nearer, so grants one after another to others while it waits
come to four at most, no requester twice among them.  A watch request, a HOLD_MODULE, a RELEASE_MODULE, a TRIM_CLOCK or a
STATUS that waits is taken before any grant.  With none waiting and the part running, some requester that waits may be
granted whenever any waits, and the requester next in the cycle may.  A granted request's row whose port may not be granted
now, an item's row while the field engine may not be, a request's row with no such request on its port or with the part
stopped, and an item's row with no item waiting leave the state as it stood (assumption 2).  The kinds taken without a grant
are the fourteen of R28 (R28, R129, R140, R157, R183, R188, R191).  Which kinds go before a grant is assumption 23. -/
def Obligations.NoRequesterIsGrantedTwiceBeforeAnother : Prop :=
  (∀ (s : State) (q r : Requester), q ≠ r → (s.granted r).waits q = true → (s.granted r).mayGrant r = false) ∧
    (∀ r : Requester,
      let cycle : List Requester := [.port .cp0, .port .cp1, .port .cp2, .field, .sweep]
      cycleAfter r = cycle.drop (cycle.idxOf r + 1) ++ cycle.take (cycle.idxOf r + 1)) ∧
    (∀ (s : State) (q r : Requester), s.mayGrant r = true → s.waits q = true → q ≠ r →
      (cycleAfter s.engine.lastGranted).idxOf r < (cycleAfter s.engine.lastGranted).idxOf q ∧
        (cycleAfter (s.granted r).engine.lastGranted).idxOf q < (cycleAfter s.engine.lastGranted).idxOf q) ∧
    (∀ (q : Requester) (grants : List (State × Requester)),
      (∀ g ∈ grants, g.1.mayGrant g.2 = true ∧ g.1.waits q = true ∧ g.2 ≠ q) →
        grants.IsChain (fun g next => next.1.engine.lastGranted = g.2) →
          (grants.map fun g => g.2).Nodup ∧ grants.length ≤ 4) ∧
    (∀ (s : State) (p : PortId) (k : ReqKind) (r : Request), s.request p k = some r →
      k ∈ [.setWatch, .clearWatch, .queryWatch, .holdModule, .releaseModule, .trimClock, .status] →
        ∀ q, s.mayGrant q = false) ∧
    (∀ s : State, (s.waits .sweep = true ↔ s.sweep.waiting = true) ∧
      (s.waits .field = true ↔ ∃ item, s.waitingItem = some item) ∧
      ∀ p, s.waits (.port p) = true ↔ ∃ k r, s.request p k = some r ∧ arbitrated k = true) ∧
    (∀ s : State, s.running = true → s.promptWaits = false →
      (∀ q, s.waits q = true → ∃ r, s.waits r = true ∧ s.mayGrant r = true) ∧
      ∀ r, (cycleAfter s.engine.lastGranted).head? = some r → s.mayGrant r = true) ∧
    (∀ k : ReqKind, arbitrated k = false ↔
      k ∈ [.setWatch, .clearWatch, .queryWatch, .readNotice, .ackAlarm, .setThreshold, .setNoticePriority, .holdModule,
        .releaseModule, .queryModule, .setPort, .saveSettings, .trimClock, .status]) ∧
    (∀ (p : PortId) (k : ReqKind) (s : State),
      (arbitrated k = true → s.mayGrant (.port p) = false → exec (rowOf p k) s = .next s) ∧
      (s.request p k = none ∨ s.running = false → exec (rowOf p k) s = .next s)) ∧
    ∀ (c : Instr) (s : State),
      c ∈ [Instr.present, .doorOpen, .doorClosed, .handle, .latchDone, .latchDoorOpen, .latchJammed, .latchFailed,
        .unlatchDone, .unlatchJammed, .unlatchFailed, .readStateReport] →
        (s.mayGrant .field = false ∨ s.waitingItem = none → exec c s = .next s) ∧
        (s.running = false → s.mayGrant .field = false)

/-- A refused request leaves every table and setting as it stood; only the SETTLE of a REVOKED band raises a notice as it is
refused.  A body of another length than Table 13-2 gives the kind, or one with an enumerated or yes-or-no byte that holds no
code of section 13.1, is refused OUT_OF_RANGE before any other check, for each of the forty kinds, and nothing changes but
the port that answers and, for a kind that passes the arbiter, the arbiter's cycle (R27, R94, R180, R196). -/
def Obligations.RefusedRequestsLeaveTheState : Prop :=
  (∀ (p : PortId) (k : ReqKind) (h : Handler) (r : Request) (s : State), handlerOf p k = some h →
    (h r s).1.code.refuses = true →
      (h r s).2 = s ∨
        (k = .settle ∧ (h r s).1.code = .revoked ∧ (h r s).2 = s.notify .revokedPresented none (parseNumber 4 r.body))) ∧
  ∀ (p : PortId) (k : ReqKind) (r : Request) (s : State), ¬bodyAllowed k r.body →
    (arbitrated k = true → s.granting p k r →
      exec (rowOf p k) s = .next ((s.granted (.port p)).answered p r .outOfRange [])) ∧
    (arbitrated k = false → s.taking p k r → exec (rowOf p k) s = .next (s.answered p r .outOfRange []))

/-- Every request body that a master writes by the layouts of Table 13-2 reads back as the operands it was written from, the
empty body as nothing more and a body where none belongs not at all; and a module's reply frame reads back as its data for
the module addressed and the function asked, and as nothing from another address or with another function; bytes that are no
such frame, of another length or with another CRC-8, yield no data.  That data is
read by the function: a POLL's lost flag and up to four events in their order, the outcome of a LATCH or an UNLATCH, one
reading for each position of the module; another length or outcome is no reply, nor is a POLL's data of fewer than two bytes
or with an event of an unknown type, at a position the module has not, or a HANDLE at a lock module (R113, R196, R197,
Tables 13-2, 13-8 and 13-9). -/
def Obligations.BodiesAndRepliesReadAsWritten : Prop :=
  (
    (∀ q : IssueRequest, q.fits → parseIssue (issueBody q) = some q) ∧
      (∀ n m : Nat, n < 4294967296 → m < 65536 → parseSerialAmount (serialAmountBody n m) = some (n, m)) ∧
      (∀ n m : Nat, n < 4294967296 → m < 4294967296 → parseTwoSerials (twoSerialsBody n m) = some (n, m)) ∧
      (∀ q : BandRef, q.fits → parseBandRef (bandRefBody q) = some q) ∧
      (∀ (n : Nat) (a : Assignment), n < 4294967296 → a.fits → parseAssign (assignBody n a) = some (n, a)) ∧
      (∀ (n : Nat) (d : Bool), n < 65536 → parseLockerService (lockerServiceBody n d) = some (n, d)) ∧
      (∀ (c : Nat) (d : Bool), c < 256 → parseCabinService (cabinServiceBody c d) = some (c, d)) ∧
      (∀ q : ZoneRequest, q.fits → parseZone (zoneBody q) = some q) ∧
      (∀ q : TariffRequest, q.fits → parseTariff (tariffBody q) = some q) ∧
      (∀ q : WatchRequest, q.fits → parseWatch (watchBody q) = some q) ∧
      (∀ q : AckRequest, q.fits → parseAck (ackBody q) = some q) ∧
      (∀ (k : NoticeKind) (n : Nat), n < 256 → parsePriority (priorityBody k n) = some (k, n)) ∧
      (∀ q : ModulesRequest, q.fits → parseModules (modulesBody q) = some q) ∧
      (∀ (n rank : Nat) (set : PermSet), n < 256 → rank < 256 → parsePort (portBody n rank set) = some (n, rank, set)) ∧
      (∀ q : WindowsRequest, q.fits → parseWindows (windowsBody q) = some q) ∧
      (∀ d : Int, -128 ≤ d → d < 128 → parseTrim (trimBody d) = some d) ∧
      (∀ bank : Bank, parseBank (bankBody bank) = some bank) ∧
      (∀ body : List Byte, parseEmpty body = if body = [] then some () else none) ∧
      ∀ w n : Nat, n < 256 ^ w → parseNumber w (bytesOf w n) = some n) ∧
  (
    ∀ (x : Exchange) (data : List Byte), x.addr < 256 → data.length < 256 →
      replyData x (loopFrame x.addr (functionCode x.kind + 128) data) = some data ∧
      (∀ a, a < 256 → a ≠ x.addr → replyData x (loopFrame a (functionCode x.kind + 128) data) = none) ∧
      (∀ f, f < 256 → f ≠ functionCode x.kind + 128 → replyData x (loopFrame x.addr f data) = none)) ∧
  (∀ (x : Exchange) (bytes data : List Byte), replyData x bytes = some data →
    data.length < 256 ∧ bytes = loopFrame x.addr (functionCode x.kind + 128) data) ∧
  (∀ x : Exchange, functionCode x.kind = match x.kind with
    | .poll => 1
    | .command cmd => if cmd.action = .latch then 2 else 3
    | .readState => 4) ∧
  (
    ∀ x : Exchange,
      (x.kind = .poll →
        (∀ (status : Byte) (events : List Event), events.length ≤ 4 → (∀ e ∈ events, e.fits x.addr) →
          contentOf x (status :: bytesOf 1 events.length ++ events.flatMap eventBytes) =
            some (.poll (status.getLsbD 0) events)) ∧
        (∀ (status count : Byte) (rest : List Byte), 4 < count.toNat ∨ rest.length ≠ 6 * count.toNat →
          contentOf x (status :: count :: rest) = none) ∧
        (∀ data : List Byte, data.length < 2 → contentOf x data = none) ∧
        ∀ (status count kind pos : Byte) (before serial after : List Byte), before.length % 6 = 0 → serial.length = 4 →
          let cabins := 129 ≤ x.addr ∧ x.addr ≤ 144
          kind.toNat = 0 ∨ 4 < kind.toNat ∨ (if cabins then 4 else 8) ≤ pos.toNat ∨ (kind.toNat = 4 ∧ ¬cabins) →
            contentOf x (status :: count :: (before ++ kind :: pos :: serial ++ after)) = none) ∧
      (∀ (cmd : Command) (data : List Byte), x.kind = .command cmd → data.length ≠ 1 → contentOf x data = none) ∧
      (∀ (cmd : Command) (o : Byte), x.kind = .command cmd →
        contentOf x [o] =
          (match o.toNat with
            | 0 => some (.outcome cmd .done)
            | 1 => if cmd.action = .latch then some (.outcome cmd .doorOpen) else none
            | 2 => some (.outcome cmd .jammed)
            | _ => none)) ∧
      (x.kind = .readState → ∀ data : List Byte,
        contentOf x data =
          if data.length = (if 129 ≤ x.addr ∧ x.addr ≤ 144 then 4 else 8) then
            some (.readings (data.map fun b => { engaged := b.getLsbD 0, doorOpen := b.getLsbD 1 }))
          else none))

/-! ### Command ports (chapter 10) -/

/-- A request frame sent byte by byte to a port that stands IDLE, and then taken as complete, becomes that port's
outstanding request with the tag, the kind and the body it carries. -/
def Obligations.FrameSentBecomesTheRequest : Prop :=
  ∀ (p : PortId) (tag code : Byte) (body : List Byte) (s : State),
    body.length ≤ Config.bodyTop → code.toNat < 128 → (s.port p).link = .idle → (s.port p).outstanding = none →
      (s.port p).ready = [] → s.portRefusal p code body = none →
        s.runAll ((requestFrame tag code body).map (Instr.portByteReceived p) ++ [.portFrame p]) =
          .next (s.setPort p
            { link := .idle, ready := [],
              outstanding := some { tag := tag, code := code, body := body, rank := s.portRank p, taken := false } })

/-- A byte at a port, by the port's link state: in IDLE the sync byte begins a frame and any other is discarded; in
RECEIVING a length above 64 drops the frame at that byte and any other byte joins it, a frame already whole being taken
first; in SENDING and STOPPED it is discarded (R173, R174, assumption 4 for the whole frame). -/
def Obligations.ByteByLinkState : Prop :=
  ∀ (p : PortId) (b : Byte) (s : State),
    ((s.port p).link = .idle →
      exec (.portByteReceived p b) s =
        .next (if b = 0xA5#8 then s.setPort p { s.port p with link := .receiving [] } else s)) ∧
    ((s.port p).link = .receiving [] →
      exec (.portByteReceived p b) s =
        .next (s.setPort p (if b.toNat ≤ 64 then { s.port p with link := .receiving [b] } else (s.port p).toIdle))) ∧
    (∀ (a : Byte) (more : List Byte), (s.port p).link = .receiving (a :: more) → more.length ≠ a.toNat + 4 →
      exec (.portByteReceived p b) s = .next (s.setPort p { s.port p with link := .receiving (a :: more ++ [b]) })) ∧
    (∀ (a : Byte) (more : List Byte) (t : State), (s.port p).link = .receiving (a :: more) → more.length = a.toNat + 4 →
      exec (.portFrame p) s = .next t → exec (.portByteReceived p b) s = exec (.portByteReceived p b) t) ∧
    (∀ r : Reply, (s.port p).link = .sending r → exec (.portByteReceived p b) s = .next s) ∧
    ((s.port p).link = .stopped → exec (.portByteReceived p b) s = .next s)

/-- A complete, valid frame: BUSY while a request is outstanding; else NOT_PERMITTED for a kind that does not exist or is not in
the port's permission set; else RANK for a port of too high a number; else the request is outstanding and goes to its
block.  The reply of a refusal is sent behind those that waited for the line.  A settings request needs a port of rank 0,
an attendant request one of rank 0 or 1, ISSUE_BAND one whose rank is no greater than the sixth body byte, and no other
kind has a requirement; a body of five bytes or fewer carries no rank and passes.  The kinds are coded 1 to 40 in the order
of Table 13-2, and CP2 has rank 0 and holds every kind.  After the sync byte a frame is whole with length, tag, kind, as many
body bytes as the length gives and two more, and then valid exactly if those two hold the CRC-16 of all before them, high
byte first, and the kind is below 128 (R173, R174, R175 to R178, R181, R196, Table 13-1). -/
def Obligations.FrameCheckedInOrder : Prop :=
  (
    ∀ (len tag code hi lo : Byte) (body : List Byte),
      let bytes := len :: tag :: code :: (body ++ [hi, lo])
      (frameWhole bytes = true ↔ body.length = len.toNat) ∧
        (frameValid bytes = true ↔
          256 * hi.toNat + lo.toNat = (crc16 (len :: tag :: code :: body)).toNat ∧ code.toNat < 128) ∧
        frameBody bytes = body) ∧
  (∀ bytes : List Byte, frameWhole bytes = true →
    ∃ (len tag code hi lo : Byte) (body : List Byte), bytes = len :: tag :: code :: (body ++ [hi, lo])) ∧
  (
    ∀ (p : PortId) (bytes : List Byte) (s : State),
      (s.port p).link = .receiving bytes → frameWhole bytes = true → frameValid bytes = true →
        let tag := bytes.getD 1 0
        let code := bytes.getD 2 0
        let body := frameBody bytes
        let waiting := (s.port p).ready
        let request (taken : Bool) : Request :=
          { tag := tag, code := code, body := body, rank := s.portRank p, taken := taken }
        let answers (c : ResultCode) (busy : Bool) (outstanding : Option Request) : Prop :=
          let all := waiting ++ [{ tag := tag, code := code, result := c, data := [], busy := busy }]
          exec (.portFrame p) s =
            .next (s.setPort p { link := sends all, outstanding := outstanding, ready := all.drop 1 })
        ((s.port p).outstanding ≠ none → answers .busy true (s.port p).outstanding) ∧
        ((s.port p).outstanding = none →
          (kindOf code = none ∨ (∃ k, kindOf code = some k ∧ (s.portPermitted p).getLsbD (kindCode k - 1) = false) →
            answers .notPermitted false (some (request true))) ∧
          (∀ k, kindOf code = some k → (s.portPermitted p).getLsbD (kindCode k - 1) = true →
            (rankPasses k (s.portRank p) body = false → answers .rank false (some (request true))) ∧
            (rankPasses k (s.portRank p) body = true →
              exec (.portFrame p) s =
                .next (s.setPort p
                  { link := sends waiting, outstanding := some (request false), ready := waiting.drop 1 }))))) ∧
  (
    ∀ (k : ReqKind) (rank : Nat) (body : List Byte),
      let settings := [.setZone, .setTariff, .setWindows, .setPort, .setModules, .setNoticePriority, .saveSettings, .setClock]
      let attendant := [.openLocker, .releaseLocker, .rearmLocker, .setLockerService, .openCabin, .setCabinService,
        .holdModule, .releaseModule, .revokeBand, .discardBand, .closeDay, .setWatch, .clearWatch]
      (k ∈ settings → (rankPasses k rank body = true ↔ rank = 0)) ∧
      (k ∈ attendant → (rankPasses k rank body = true ↔ rank ≤ 1)) ∧
      (k = .issueBand →
        (∀ b, body[5]? = some b → (rankPasses k rank body = true ↔ rank ≤ b.toNat)) ∧
        (body.length ≤ 5 → rankPasses k rank body = true)) ∧
      (k ∉ settings → k ∉ attendant → k ≠ .issueBand → rank ≤ 3 → rankPasses k rank body = true)) ∧
  (∀ (code : Byte) (k : ReqKind), kindOf code = some k ↔ code.toNat = kindCode k) ∧
  [ReqKind.issueBand, .addTime, .reissueBand, .revokeBand, .discardBand, .queryBand, .closeDay, .settle, .pay, .collect,
    .assignLocker, .openLocker, .releaseLocker, .rearmLocker, .setLockerService, .queryLocker, .openCabin,
    .setCabinService, .queryCabin, .setZone, .queryZone, .setTariff, .selectBank, .setWatch, .clearWatch, .queryWatch,
    .readNotice, .ackAlarm, .setThreshold, .setNoticePriority, .setModules, .holdModule, .releaseModule, .queryModule,
    .setPort, .setWindows, .saveSettings, .setClock, .trimClock, .status].map kindCode =
      (List.range 40).map (fun i => i + 1) ∧
  ∀ s : State, s.portRank .cp2 = 0 ∧ (∀ i, i < 40 → (s.portPermitted .cp2).getLsbD i = true) ∧
    s.portRank .cp0 = s.settings.cp0.rank ∧ s.portPermitted .cp0 = s.settings.cp0.permitted ∧
    s.portRank .cp1 = s.settings.cp1.rank ∧ s.portPermitted .cp1 = s.settings.cp1.permitted

/-- A whole frame with a bad CRC or the reply bit set (that the reply bit drops a frame at its last CRC byte is assumption 27),
and an unfinished frame at a gap of more than 20 ms, are dropped without a reply.  The end of a reply clears the request it answers, and what a request taken without a grant wrote then stands for good: of an
older one still outstanding nothing remains to be undone at the place it wrote whole, the watch or the alarm list that the
older one found is as the newer leaves it, and another place stays (assumption 24); a BUSY clears
none.  A port that returns to IDLE sends the reply
that waited; a reply that becomes ready is sent at once by an IDLE port, waits at a busy line and is lost at a STOPPED one.
The driver enable is asserted exactly while a reply is being sent: from a reply at an IDLE port on, and no more once the last
byte of a reply has gone with none behind it (R158, R173, R174, R176, R184, R185). -/
def Obligations.DroppedFramesAndRepliesFreeTheLine : Prop :=
  (
    ∀ (p : PortId) (bytes : List Byte) (s : State), (s.port p).link = .receiving bytes →
      (frameWhole bytes = true → frameValid bytes = false →
        exec (.portFrame p) s = .next (s.setPort p (s.port p).toIdle)) ∧
      (frameWhole bytes = false → exec (.frameGapTimeout p) s = .next (s.setPort p (s.port p).toIdle)) ∧
      ((s.port p).ready = [] → (s.port p).toIdle = { s.port p with link := .idle }) ∧
      ∀ r rest, (s.port p).ready = r :: rest → (s.port p).toIdle = { s.port p with link := .sending r, ready := rest }) ∧
  (
    ∀ (p : PortId) (r : Reply) (s : State),
      ((s.port p).link = .sending r →
        exec (.replySent p) s =
          .next (({ s with undo := if r.busy then s.undo else settledUndo p s.undo } : State).setPort p
              { link := sends (s.port p).ready,
                outstanding := if r.busy then (s.port p).outstanding else none,
                ready := (s.port p).ready.drop 1 })) ∧
      ((s.port p).link = .idle → s.deliver p r = s.setPort p { s.port p with link := .sending r }) ∧
      ((s.port p).link = .stopped → s.deliver p r = s) ∧
      ((s.port p).link ≠ .idle → (s.port p).link ≠ .stopped →
        s.deliver p r = s.setPort p { s.port p with ready := (s.port p).ready ++ [r] })) ∧
  (
    ∀ (p : PortId) (us : List Undo),
      ((∀ u ∈ us, u.port ≠ p) → settledUndo p us = us) ∧
      ∀ newer u older, us = newer ++ u :: older → (∀ v ∈ newer, v.port ≠ p) → u.port = p →
        settledUndo p us =
          newer ++ older.filterMap fun o => (u.before.onceStands o.before).map fun b => { o with before := b }) ∧
  (
    (∀ i w e j v f,
      (Before.watch i w).onceStands (.watch j v) = (if i = j then none else some (.watch j v)) ∧
      (Before.watch i w).onceStands (.enabled j f) = (if i = j then none else some (.enabled j f)) ∧
      (Before.enabled i e).onceStands (.watch j v) = some (.watch j (if i = j then { v with enabled := false } else v)) ∧
      (Before.enabled i e).onceStands (.enabled j f) = (if i = j then none else some (.enabled j f))) ∧
    (∀ p v q w, (Before.port p v).onceStands (.port q w) = if p = q then none else some (.port q w)) ∧
    (∀ k m l n, (Before.priority k m).onceStands (.priority l n) = if k = l then none else some (.priority l n)) ∧
    (∀ a h b g, (Before.held a h).onceStands (.held b g) = if a = b then none else some (.held b g)) ∧
    (∀ d e, (Before.clock d).onceStands (.clock e) = some (.clock e)) ∧
    (∀ l full which m f, (Before.alarms none l full).onceStands (.alarms which m f) = some (.alarms which [] false)) ∧
    (∀ k place l full which m f, (∀ a ∈ m, ¬(a.kind = k ∧ a.place = some place)) → m ≠ [] →
      (Before.alarms (some (k, place)) l full).onceStands (.alarms which m f) = some (.alarms which m f)) ∧
    ∀ k place l full which f before a after, a.kind = k → a.place = some place →
      (∀ x ∈ before, ¬(x.kind = k ∧ x.place = some place)) →
        (Before.alarms (some (k, place)) l full).onceStands (.alarms which (before ++ a :: after) f) =
          some (.alarms which (before ++ after) (f && !(before ++ after).isEmpty))) ∧
  ∀ (p : PortId) (r : Reply) (s : State),
    (s.driverEnable p = true ↔ ∃ sending, (s.port p).link = .sending sending) ∧
    ((s.port p).link = .idle → (s.deliver p r).driverEnable p = true) ∧
    ((s.port p).link = .sending r → ∃ t, exec (.replySent p) s = .next t ∧
      (t.driverEnable p = true ↔ (s.port p).ready ≠ []))

/-- STATUS answers the block statuses, laid out as Table 13-7 gives with nine bytes for each alarm in the list's order, and
clears the overflow flag of its own port; SET_PORT replaces rank and permission set of CP0 or CP1 and empties the port's
queue when READ_NOTICE is not in the set, keeping what it wrote over while it is outstanding; a port number above 2 or a rank of 0 or above 3 is refused OUT_OF_RANGE, and then
CP2 WRONG_STATE (R183, R181, R182, R166, R185, R196). -/
def Obligations.PortRequestsTakeEffect : Prop :=
  (∀ (p : PortId) (r : Request) (s : State), s.taking p .status r → r.body = [] →
    exec (.status p) s = .next ((s.setOverflow p false).answered p r .ok (s.statusBytes p))) ∧
  (∀ (p : PortId) (s : State),
    let d := s.statusBytes p
    let silent := ((List.range 144).filter fun i => s.configured (i + 1) && s.isSilent (i + 1)).length
    d.length = 22 + 9 * s.notices.alarms.length ∧
      holdsRows d
        [(0, 3, s.supply.clock),
         (3, 1, yesNo s.supply.clockValid + 2 * yesNo s.supply.save.isSome + 4 * yesNo (s.notices.overflow.get p) +
           8 * yesNo s.notices.alarmOverflow),
         (4, 1, match s.supply.supply with
           | .normal => 0
           | .hold => 1
           | .down => 2),
         (5, 1, s.portRank p), (11, 1, s.settings.thresholds.get p), (12, 1, (s.queue p).length),
         (13, 2, s.sweep.index), (15, 2, s.sweep.remaining),
         (17, 2, match s.settings.stepRate with
           | .r128 => 128
           | .r256 => 256
           | .r512 => 512
           | .r1024 => 1024),
         (19, 1, s.field.queue.length), (20, 1, silent), (21, 1, s.notices.alarms.length)] ∧
      (∀ i, i < 40 → (d.getD (6 + i / 8) 0#8).getLsbD (i % 8) = (s.portPermitted p).getLsbD i) ∧
      ∀ i a, s.notices.alarms[i]? = some a →
        holdsRows (d.drop (22 + 9 * i))
          [(0, 1, noticeCode a.kind), (1, 2, (placeCode a.place).2), (3, 3, a.raised), (6, 2, a.countdown),
           (8, 1, yesNo a.escalated)]) ∧
  (∀ (p : PortId) (r : Request) (rank : Nat) (set : PermSet) (s : State), s.taking p .setPort r → 1 ≤ rank → rank ≤ 3 →
    (parsePort r.body = some (0, rank, set) →
      exec (.setPort p) s =
        .next (({ s with settings.cp0 := { rank := rank, permitted := set },
                         undo := { port := p, before := .port .cp0 s.settings.cp0 } :: s.undo,
                         notices.queues.cp0 := if set.getLsbD 26 then s.notices.queues.cp0 else [] } : State).answered
          p r .ok (bytesOf 1 rank ++ permBytes set))) ∧
    (parsePort r.body = some (1, rank, set) →
      exec (.setPort p) s =
        .next (({ s with settings.cp1 := { rank := rank, permitted := set },
                         undo := { port := p, before := .port .cp1 s.settings.cp1 } :: s.undo,
                         notices.queues.cp1 := if set.getLsbD 26 then s.notices.queues.cp1 else [] } : State).answered
          p r .ok (bytesOf 1 rank ++ permBytes set))) ∧
    (parsePort r.body = some (2, rank, set) → exec (.setPort p) s = .next (s.answered p r .wrongState []))) ∧
  ∀ (p : PortId) (r : Request) (n rank : Nat) (set : PermSet) (s : State), s.taking p .setPort r →
    parsePort r.body = some (n, rank, set) → 2 < n ∨ rank = 0 ∨ 3 < rank →
      exec (.setPort p) s = .next (s.answered p r .outOfRange [])

/-! ### Queries -/

/-- Every query answers the record as it stands and changes nothing but its port and, where it passes the arbiter, the
arbiter's cycle; a number outside its range is refused OUT_OF_RANGE, slot 0 and an EMPTY slot UNKNOWN_BAND.  The records are laid out as Tables 13-2 to 13-5 and 13-7 give, each field at its offset in its width with
the high byte first, an absent field 0 and its flags bit clear; a reply frame has the envelope of Table 13-1, its kind with
the reply bit set, the result code before the data, and the CRC-16 over all but the sync byte; states, result codes and
the short enumerations are coded as section 13.1 lists them (R5, R12, R36, R64, R82, R130, R156, R180, R196). -/
def Obligations.QueriesReportAndChangeNothing : Prop :=
  (
    [LockerState.unfitted, .free, .reserved, .latching, .locked, .unlatching, .released, .opened, .closing, .fault, .forced,
      .orphaned, .outOfService].map lockerCode = List.range 13 ∧
    [CabinState.unfitted, .vacant, .latching, .occupied, .unlatching, .outOfService].map cabinCode = List.range 6 ∧
    [ResultCode.ok, .clear, .clearStaff, .owes, .none, .busy, .notPermitted, .rank, .unknownBand, .alreadyIssued,
      .tableFull, .wrongState, .outOfRange, .zoneAbsent, .zoneInUse, .overlap, .noFreeLocker, .holdsLocker, .inCabin,
      .membersInside, .groupFull, .chainFull, .revoked, .lockerBusy, .doorOpen, .fieldBusy, .moduleSilent, .powerHold,
      .clockNotSet, .tableNotEmpty, .saveBusy, .storeFault].map resultCode = List.range 32 ∧
    [Door.opened, .closed, .unknown].map doorCode = List.range 3 ∧
    [Latch.engaged, .free, .unknown].map latchCode = List.range 3 ∧
    [CabinKind.single, .family, .staff].map cabinKindCode = List.range 3 ∧
    [none, some Action.latch, some .unlatch].map commandCode = List.range 3 ∧
    [none, some Indication.green, some .red, some .amber].map indicationCode = List.range 4 ∧
    [ZoneOrder.lowFirst, .highFirst].map zoneOrderCode = List.range 2 ∧ [Bank.a, .b].map bankCode = List.range 2 ∧
    [WatchEvent.presented, .refused, .latched, .unlatched, .doorOpened].map watchCode = List.range 5 ∧
    placeCode none = (0, 0) ∧ (∀ n, placeCode (some (.locker n)) = (1, n)) ∧ (∀ n, placeCode (some (.cabin n)) = (2, n)) ∧
    ∀ n, placeCode (some (.station n)) = (3, n)) ∧
  (
    ∀ r : Reply, r.data.length < 255 →
      let f := r.frame
      f.length = r.data.length + 7 ∧ (f.drop 5).take r.data.length = r.data ∧
        holdsRows f
          [(0, 1, 0xA5), (1, 1, r.data.length + 1), (2, 1, r.tag.toNat), (3, 1, 128 + r.code.toNat % 128),
           (4, 1, resultCode r.result),
           (5 + r.data.length, 2, (crc16 ((f.drop 1).take (r.data.length + 4))).toNat)]) ∧
  (
    ∀ (slot : Nat) (b : Band),
      let d := bandBytes slot b
      let account (f : Account → Nat) : Nat := match b.kind with
        | .visitor a => f a
        | .staff => 0
      let last := b.lastPlace.map fun l => l.place
      d.length = 54 ∧
        holdsRows d
          [(0, 2, slot),
           (2, 1, match b.state with
             | .active => 1
             | .owing _ => 2
             | .cleared _ => 3
             | .revoked => 4),
           (3, 1, match b.kind with
             | .visitor _ => 0
             | .staff => 1),
           (4, 1, b.rank),
           (5, 1, (match b.state with
             | .cleared _ => 1
             | _ => 0) + 2 * account (fun a => yesNo a.longStay) + 4 * yesNo b.lastPlace.isSome),
           (6, 4, b.serial), (10, 3, b.entry), (13, 2, account fun a => a.paidMinutes),
           (15, 1, account fun a => bankCode a.tariff.bank), (16, 1, account fun a => a.tariff.cls),
           (17, 2, account fun a => a.paidCents),
           (19, 2, match b.state with
             | .owing cents => cents
             | _ => 0),
           (21, 1, b.lockers.length), (22, 2, b.lockers.getD 0 0), (24, 2, b.lockers.getD 1 0), (26, 1, b.cabin.getD 0),
           (27, 1, match b.role with
             | .none => 0
             | .leader _ => 1
             | .member _ => 2),
           (28, 2, b.leaderSlot.getD 0), (30, 1, b.members.length), (31, 2, b.members.getD 0 0),
           (33, 2, b.members.getD 1 0), (35, 2, b.members.getD 2 0), (37, 2, b.members.getD 3 0),
           (39, 2, b.members.getD 4 0), (41, 2, b.previous.getD 0), (43, 2, b.next.getD 0),
           (45, 3, match b.state with
             | .cleared since => since
             | _ => 0),
           (48, 1, (placeCode last).1), (49, 2, (placeCode last).2),
           (51, 3, (b.lastPlace.map fun l => l.time).getD 0)]) ∧
  (
    ∀ (n : Nat) (s : State),
      let l := s.locker n
      let d := s.lockerBytes n
      d.length = 15 ∧
        holdsRows d
          [(0, 1, lockerCode l.state),
           (1, 1, yesNo l.fresh + 2 * yesNo l.master + 4 * yesNo l.release + 8 * yesNo l.origin.isSome +
             16 * yesNo (s.zoneOf n).isNone),
           (2, 2, l.holder.getD 0), (4, 4, ((l.holder.bind s.band).map fun b => b.serial).getD 0), (8, 3, l.since),
           (11, 1, (l.origin.map lockerCode).getD 0), (12, 1, doorCode l.door), (13, 1, latchCode l.latch),
           (14, 1, (s.zoneOf n).getD 0)]) ∧
  (
    ∀ (c : Nat) (s : State),
      let k := s.cabin c
      let d := s.cabinBytes c
      d.length = 15 ∧
        holdsRows d
          [(0, 1, cabinKindCode (s.cabinKind c)), (1, 1, cabinCode k.state), (2, 2, k.occupant.getD 0),
           (4, 4, ((k.occupant.bind s.band).map fun b => b.serial).getD 0), (8, 3, k.since), (11, 1, k.stage.val),
           (12, 1, commandCode k.command), (13, 1, doorCode k.door), (14, 1, latchCode k.latch)]) ∧
  (
    ∀ (z : Nat) (s : State),
      let d := s.zoneBytes z
      d.length = 10 ∧
        holdsRows d
          [(0, 1, z), (1, 1, yesNo (s.zone z).present), (2, 2, (s.zone z).first), (4, 2, (s.zone z).count),
           (6, 1, (s.zone z).rank), (7, 1, yesNo (s.zone z).groupOnly), (8, 1, zoneOrderCode (s.zone z).order),
           (9, 1, yesNo (s.zoneUsed z))]) ∧
  (
    ∀ w : Watch,
      let d := watchBytes w
      let last := w.lastHit.map fun h => h.place
      d.length = 22 ∧
        holdsRows d
          [(0, 1, yesNo w.enabled + 2 * yesNo w.stop + 4 * yesNo w.lastHit.isSome),
           (1, 1, match w.subject with
             | .band .. => 0
             | .places .locker _ _ => 1
             | .places .cabin _ _ => 2),
           (2, 4, match w.subject with
             | .band first _ => first
             | .places _ first _ => first),
           (6, 2, match w.subject with
             | .band _ count => count
             | .places _ _ final => final),
           (8, 1, w.mask.toNat), (9, 1, w.priority), (10, 1, w.hits), (11, 1, (placeCode last).1),
           (12, 2, (placeCode last).2), (14, 1, (w.lastHit.map fun h => watchCode h.event).getD 0),
           (15, 4, (w.lastHit.bind fun h => h.serial).getD 0), (19, 3, (w.lastHit.map fun h => h.time).getD 0)]) ∧
  (
    ∀ (addr : Nat) (s : State),
      let m := s.module addr
      let d := s.moduleBytes addr
      let count := if 129 ≤ addr ∧ addr ≤ 144 then 4 else 8
      let mine := s.field.exchange.filter fun x => x.addr == addr
      let function : ExchangeKind → Nat
        | .poll => 1
        | .command cmd => if cmd.action = .latch then 2 else 3
        | .readState => 4
      d.length = 7 + 3 * count ∧
        holdsRows d
          [(0, 1, yesNo (s.moduleSetting addr).configured + 2 * yesNo (s.moduleSetting addr).holdOnForce + 4 * yesNo m.held +
             8 * yesNo m.resync + 16 * yesNo m.coldRead),
           (1, 1, yesNo m.silent), (2, 1, m.failures), (3, 1, count),
           (4 + 3 * count, 1, (s.field.queue.filter fun cmd => cmd.addr == addr).length),
           (5 + 3 * count, 1, (mine.map fun x => function x.kind).getD 0),
           (6 + 3 * count, 1, (mine.map fun x => x.attempt).getD 0)] ∧
        ∀ i, i < count →
          let q := tableGet m.positions Position.blank i
          holdsRows (d.drop (4 + 3 * i)) [(0, 1, latchCode q.latch), (1, 1, doorCode q.door), (2, 1, indicationCode q.shown)]) ∧
  (∀ (n : Nat) (s : State),
    s.findRef (.serial n) = s.findSerial n ∧
      (2047 < n → s.findRef (.slot n) = .error .outOfRange) ∧
      (n = 0 ∨ (n ≤ 2047 ∧ s.band n = none) → s.findRef (.slot n) = .error .unknownBand) ∧
      ∀ b, n ≤ 2047 → s.band n = some b → s.findRef (.slot n) = .ok (n, b)) ∧
  (∀ (p : PortId) (r : Request) (n : Nat) (s : State),
    (∀ ref c, s.granting p .queryBand r → parseBandRef r.body = some ref → s.findRef ref = .error c →
      exec (.queryBand p) s = .next ((s.granted (.port p)).answered p r c [])) ∧
    (s.granting p .queryLocker r → parseNumber 2 r.body = some n → n = 0 ∨ 1024 < n →
      exec (.queryLocker p) s = .next ((s.granted (.port p)).answered p r .outOfRange [])) ∧
    (s.granting p .queryCabin r → parseNumber 1 r.body = some n → n = 0 ∨ 64 < n →
      exec (.queryCabin p) s = .next ((s.granted (.port p)).answered p r .outOfRange [])) ∧
    (s.granting p .queryZone r → parseNumber 1 r.body = some n → 15 < n →
      exec (.queryZone p) s = .next ((s.granted (.port p)).answered p r .outOfRange [])) ∧
    (s.taking p .queryWatch r → parseNumber 1 r.body = some n → 3 < n →
      exec (.queryWatch p) s = .next (s.answered p r .outOfRange [])) ∧
    (s.taking p .queryModule r → parseNumber 1 r.body = some n → n = 0 ∨ 144 < n →
      exec (.queryModule p) s = .next (s.answered p r .outOfRange []))) ∧
  ∀ (p : PortId) (r : Request) (s : State),
    (∀ ref slot b, s.granting p .queryBand r → parseBandRef r.body = some ref → s.findRef ref = .ok (slot, b) →
      exec (.queryBand p) s = .next ((s.granted (.port p)).answered p r .ok (bandBytes slot b))) ∧
    (∀ n, s.granting p .queryLocker r → parseNumber 2 r.body = some n → 1 ≤ n → n ≤ 1024 →
      exec (.queryLocker p) s = .next ((s.granted (.port p)).answered p r .ok (s.lockerBytes n))) ∧
    (∀ c, s.granting p .queryCabin r → parseNumber 1 r.body = some c → 1 ≤ c → c ≤ 64 →
      exec (.queryCabin p) s = .next ((s.granted (.port p)).answered p r .ok (s.cabinBytes c))) ∧
    (∀ z, s.granting p .queryZone r → parseNumber 1 r.body = some z → z ≤ 15 →
      exec (.queryZone p) s = .next ((s.granted (.port p)).answered p r .ok (s.zoneBytes z))) ∧
    (∀ i, s.taking p .queryWatch r → parseNumber 1 r.body = some i → i ≤ 3 →
      exec (.queryWatch p) s = .next (s.answered p r .ok (watchBytes (s.watch i)))) ∧
    (∀ a, s.taking p .queryModule r → parseNumber 1 r.body = some a → 1 ≤ a → a ≤ 144 →
      exec (.queryModule p) s = .next (s.answered p r .ok (s.moduleBytes a)))

/-! ### Bands (chapter 2, section 5.6) -/

/-- ISSUE_BAND that passes its checks: the lowest EMPTY slot holds the new record, its serial is mapped, the leader it names
lists it, and the locker an assignment gives is RESERVED for the holder with its zone marked used; every other record is as
it was (R9, R10, R11, R13). -/
def Obligations.IssueBandCreatesTheRecord : Prop :=
  ∀ (p : PortId) (r : Request) (q : IssueRequest) (leader : Option Nat) (slot n : Nat) (s : State),
    s.granting p .issueBand r → parseIssue r.body = some q → q.inRange = true → s.supply.clockValid = true →
      s.supply.supply ≠ .hold → s.slotOf q.serial = none → s.leaderFor q.leader = .ok leader →
        s.freeSlot = some slot → s.issueLocker q leader r.rank = .ok n →
          ∃ t : State,
            exec (.issueBand p) s = .next (t.answered p r .ok (bytesOf 2 slot ++ bytesOf 2 n)) ∧
            t.band slot = some
              { state := .active,
                kind := if q.staff then .staff
                  else .visitor { paidMinutes := min 720 q.minutes,
                                  tariff := { bank := s.settings.selected, cls := q.cls }, paidCents := 0,
                                  longStay := false },
                rank := q.rank, serial := q.serial, entry := s.now,
                lockers := if n ≠ 0 ∧ leader = none then [n] else [], cabin := none,
                role := match leader with
                  | none => .none
                  | some l => .member l,
                previous := none, next := none, lastPlace := none } ∧
            (∀ m, t.slotOf m = if m = q.serial then some slot else s.slotOf m) ∧
            (∀ l b, leader = some l → s.band l = some b →
              t.band l = some { b with role := .leader (b.members ++ [slot]),
                                       lockers := if n = 0 then b.lockers else b.lockers ++ [n] }) ∧
            (∀ k, k ≠ slot → leader ≠ some k → t.band k = s.band k) ∧
            (n ≠ 0 →
              t.locker n = { s.locker n with state := .reserved, holder := some (leader.getD slot), since := s.now,
                                             fresh := false, master := false, release := false, origin := none } ∧
              ∀ z, s.zoneOf n = some z → t.zoneUsed z = true) ∧
            (∀ m, m ≠ n → t.locker m = s.locker m) ∧
            (∀ z, n = 0 ∨ s.zoneOf n ≠ some z → t.zoneUsed z = s.zoneUsed z) ∧
            t = { s with engine := { t.engine with cabins := s.engine.cabins, lastGranted := .port p } }

/-- ISSUE_BAND refuses at the first check of Table 2-3 that fails, in the table's order.  Its values are in range as the first
row gives; the leader named is found by its serial and must be an ACTIVE visitor that is no MEMBER and lists fewer than
five; an assignment is checked as ASSIGN_LOCKER's, for a record of the role the new band would have.  A serial is valid
from 1 to 4,294,967,294, and one in the map yields its record (R5, R7, R9, R13). -/
def Obligations.IssueBandRefusesInOrder : Prop :=
  (∀ q : IssueRequest,
    let valid (n : Nat) : Prop := 1 ≤ n ∧ n ≤ 4294967294
    q.inRange = true ↔
      valid q.serial ∧ (if q.staff then q.rank = 0 ∨ q.rank = 1 else (q.rank = 2 ∨ q.rank = 3) ∧ q.cls ≤ 7) ∧
        (∀ l, q.leader = some l → q.staff = false ∧ valid l) ∧ (∀ z, q.assignment = some (.zone z) → z ≤ 15) ∧
        ∀ n, q.assignment = some (.locker n) → 1 ≤ n ∧ n ≤ 1024) ∧
  (∀ (n : Nat) (s : State),
    (n = 0 ∨ 4294967295 ≤ n → s.findSerial n = .error .outOfRange) ∧
    (1 ≤ n → n ≤ 4294967294 →
      (s.slotOf n = none → s.findSerial n = .error .unknownBand) ∧
      ∀ slot b, s.slotOf n = some slot → s.band slot = some b → s.findSerial n = .ok (slot, b))) ∧
  (∀ (n : Nat) (s : State),
    s.leaderFor none = .ok none ∧
    (∀ c, s.findSerial n = .error c → s.leaderFor (some n) = .error c) ∧
    ∀ slot b, s.findSerial n = .ok (slot, b) →
      (b.state ≠ .active ∨ b.kind = .staff ∨ (∃ l, b.role = .member l) → s.leaderFor (some n) = .error .wrongState) ∧
      (b.state = .active → b.isVisitor = true →
        (b.role = .none → s.leaderFor (some n) = .ok (some slot)) ∧
        ∀ ms, b.role = .leader ms →
          (ms.length < 5 → s.leaderFor (some n) = .ok (some slot)) ∧
          (5 ≤ ms.length → s.leaderFor (some n) = .error .groupFull))) ∧
  (∀ (q : IssueRequest) (leader : Option Nat) (portRank : Nat) (s : State),
    (q.assignment = none → s.issueLocker q leader portRank = .ok 0) ∧
    ∀ a, q.assignment = some a →
      (leader = none → s.issueLocker q leader portRank = s.assignment a q.rank portRank .none 0) ∧
      ∀ l, leader = some l →
        s.issueLocker q leader portRank =
          s.assignment a q.rank portRank (.member l) (((s.band l).map fun b => b.lockers.length).getD 0)) ∧
  ∀ (p : PortId) (r : Request) (q : IssueRequest) (s : State),
    s.granting p .issueBand r → parseIssue r.body = some q →
      let refusal (c : ResultCode) : Prop := exec (.issueBand p) s = .next ((s.granted (.port p)).answered p r c [])
      (q.inRange = false → refusal .outOfRange) ∧
      (q.inRange = true →
        (s.supply.clockValid = false → refusal .clockNotSet) ∧
        (s.supply.clockValid = true →
          (s.supply.supply = .hold → refusal .powerHold) ∧
          (s.supply.supply ≠ .hold →
            (s.slotOf q.serial ≠ none → refusal .alreadyIssued) ∧
            (s.slotOf q.serial = none →
              (∀ c, s.leaderFor q.leader = .error c → refusal c) ∧
              (∀ leader, s.leaderFor q.leader = .ok leader →
                (s.freeSlot = none → refusal .tableFull) ∧
                (∀ slot c, s.freeSlot = some slot → s.issueLocker q leader r.rank = .error c → refusal c))))))

/-- The slot a new record is given is the lowest EMPTY one from 1 to 2,047; an assignment by zone takes a FREE locker of the
zone's range, the lowest-numbered for LOW_FIRST and the highest for HIGH_FIRST; and each finds none only when there is
none.  A locker's zone is the present zone whose range contains its number (R3, R33, R60). -/
def Obligations.PicksTakeTheFirstFree : Prop :=
  (
    ∀ s : State,
      (∀ slot, s.freeSlot = some slot →
        1 ≤ slot ∧ slot ≤ 2047 ∧ s.band slot = none ∧ ∀ k, 1 ≤ k → k < slot → s.band k ≠ none) ∧
      (s.freeSlot = none → ∀ k, 1 ≤ k → k ≤ 2047 → s.band k ≠ none)) ∧
  (
    ∀ (z : Zone) (s : State),
      (∀ n, s.pickFree z = some n →
        z.first ≤ n ∧ n < z.first + z.count ∧ (s.locker n).state = .free ∧
          ∀ m, z.first ≤ m → m < z.first + z.count → (s.locker m).state = .free →
            match z.order with
            | .lowFirst => n ≤ m
            | .highFirst => m ≤ n) ∧
      (s.pickFree z = none → ∀ m, z.first ≤ m → m < z.first + z.count → (s.locker m).state ≠ .free)) ∧
  (
    ∀ (n : Nat) (s : State),
      let has (z : Nat) : Prop :=
        z ≤ 15 ∧ (s.zone z).present = true ∧ (s.zone z).first ≤ n ∧ n < (s.zone z).first + (s.zone z).count
      (∀ z, s.zoneOf n = some z → has z) ∧ (s.zoneOf n = none → ∀ z, ¬has z) ∧
        ∀ z, has z → (∀ y, has y → y = z) → s.zoneOf n = some z)

/-- PAY: on an ACTIVE visitor a prepayment; on an OWING one either the sum is covered, with the change answered and the band
CLEARED, or the rest is owed; paid_cents saturates at 65,535; a staff, CLEARED or REVOKED band is refused WRONG_STATE and a
band in a cabin IN_CABIN.  ADD_TIME raises paid_minutes, at most to 720, and brings an OWING or CLEARED visitor back to
ACTIVE; a staff band and a REVOKED band are refused WRONG_STATE.  Before these checks an amount of 0 is refused
OUT_OF_RANGE and a serial that names no record as R5 gives (R99 to R102). -/
def Obligations.PayAndAddTimeChangeTheAccount : Prop :=
  (
    ∀ (p : PortId) (r : Request) (serial n : Nat) (c : ResultCode) (s : State), parseSerialAmount r.body = some (serial, n) →
      (s.granting p .pay r → n = 0 → exec (.pay p) s = .next ((s.granted (.port p)).answered p r .outOfRange [])) ∧
      (s.granting p .pay r → 1 ≤ n → s.findSerial serial = .error c →
        exec (.pay p) s = .next ((s.granted (.port p)).answered p r c [])) ∧
      (s.granting p .addTime r → s.findSerial serial = .error c →
        exec (.addTime p) s = .next ((s.granted (.port p)).answered p r c []))) ∧
  (
    ∀ (p : PortId) (r : Request) (serial amount slot : Nat) (b : Band) (s : State),
      s.granting p .pay r → parseSerialAmount r.body = some (serial, amount) → 1 ≤ amount →
        s.findSerial serial = .ok (slot, b) →
          let g := s.granted (.port p)
          (b.kind = .staff ∨ b.state = .revoked ∨ (∃ since, b.state = .cleared since) →
            exec (.pay p) s = .next (g.answered p r .wrongState [])) ∧
          ∀ a, b.kind = .visitor a →
            let paid := min 65535 (a.paidCents + amount)
            let credited : Band := { b with kind := .visitor { a with paidCents := paid } }
            (b.cabin ≠ none → b.state = .active ∨ (∃ cents, b.state = .owing cents) →
              exec (.pay p) s = .next (g.answered p r .inCabin [])) ∧
            (b.cabin = none →
              (b.state = .active →
                exec (.pay p) s = .next ((g.setBand slot (some credited)).answered p r .ok (bytesOf 2 paid))) ∧
              (∀ owed, b.state = .owing owed → owed ≤ amount →
                exec (.pay p) s =
                  .next ((g.setBand slot (some { credited with state := .cleared s.now })).answered p r .clear
                    (bytesOf 2 (amount - owed) ++ bytesOf 2 paid))) ∧
              (∀ owed, b.state = .owing owed → amount < owed →
                exec (.pay p) s =
                  .next ((g.setBand slot (some { credited with state := .owing (owed - amount) })).answered p r .owes
                    (bytesOf 2 (owed - amount) ++ bytesOf 2 paid))))) ∧
  (
    ∀ (p : PortId) (r : Request) (serial minutes slot : Nat) (b : Band) (s : State),
      s.granting p .addTime r → parseSerialAmount r.body = some (serial, minutes) → s.findSerial serial = .ok (slot, b) →
        (∀ a, b.kind = .visitor a → b.state ≠ .revoked →
          exec (.addTime p) s =
            .next (((s.granted (.port p)).setBand slot
                (some { b with state := .active,
                               kind := .visitor { a with paidMinutes := min 720 (a.paidMinutes + minutes) } })).answered
              p r .ok (bytesOf 2 (min 720 (a.paidMinutes + minutes))))) ∧
        (b.kind = .staff ∨ b.state = .revoked →
          exec (.addTime p) s = .next ((s.granted (.port p)).answered p r .wrongState [])))

/-- REISSUE_BAND copies the visit into the lowest EMPTY slot under the new serial, makes the old record REVOKED with its
holdings gone, and moves every reference to the old slot: the holder of its lockers, the occupant of its cabin, its
members' leader, and its place in its leader's list; it refuses at the first check of R18 that fails, in the rule's order
(R18, R19, R20). -/
def Obligations.ReissueMovesTheVisit : Prop :=
  (∀ (p : PortId) (r : Request) (oldSerial newSerial : Nat) (s : State),
    s.granting p .reissueBand r → parseTwoSerials r.body = some (oldSerial, newSerial) →
      let refusal (c : ResultCode) : Prop := exec (.reissueBand p) s = .next ((s.granted (.port p)).answered p r c [])
      (validSerial oldSerial = false ∨ validSerial newSerial = false → refusal .outOfRange) ∧
      (validSerial oldSerial = true → validSerial newSerial = true →
        (s.supply.supply = .hold → refusal .powerHold) ∧
        (s.supply.supply ≠ .hold →
          (s.findSerial oldSerial = .error .unknownBand → refusal .unknownBand) ∧
          ∀ old b, s.findSerial oldSerial = .ok (old, b) →
            (b.kind = .staff ∨ b.state = .revoked ∨ (∃ since, b.state = .cleared since) → refusal .wrongState) ∧
            (b.isVisitor = true → b.state = .active ∨ (∃ cents, b.state = .owing cents) →
              (s.slotOf newSerial ≠ none → refusal .alreadyIssued) ∧
              (s.slotOf newSerial = none →
                (4 ≤ s.chainLength b → refusal .chainFull) ∧
                (s.chainLength b < 4 → s.freeSlot = none → refusal .tableFull)))))) ∧
  ∀ (p : PortId) (r : Request) (oldSerial newSerial old new : Nat) (b : Band) (s : State),
    s.granting p .reissueBand r → parseTwoSerials r.body = some (oldSerial, newSerial) → validSerial newSerial = true →
      s.supply.supply ≠ .hold → s.findSerial oldSerial = .ok (old, b) → b.isVisitor = true →
        b.state = .active ∨ (∃ cents, b.state = .owing cents) → s.slotOf newSerial = none →
          s.chainLength b < 4 → s.freeSlot = some new →
            ∃ t : State,
              exec (.reissueBand p) s = .next (t.answered p r .ok (bytesOf 2 new)) ∧
              (old ∉ b.members → b.leaderSlot ≠ some old → new ∉ b.members → b.leaderSlot ≠ some new →
                t.band new = some { b with serial := newSerial, previous := some old, next := none, lastPlace := none } ∧
                t.band old = some { b with state := .revoked, next := some new, lockers := [], cabin := none,
                                           role := .none }) ∧
              (∀ m, t.slotOf m = if m = newSerial then some new else s.slotOf m) ∧
              (∀ n, 1 ≤ n → n ≤ 1024 →
                t.locker n = if n ∈ b.lockers then { s.locker n with holder := some new } else s.locker n) ∧
              (∀ c, 1 ≤ c → c ≤ 64 →
                t.cabin c = if b.cabin = some c then { s.cabin c with occupant := some new } else s.cabin c) ∧
              (∀ m mb l, m ∈ b.members → m ≠ old → s.band m = some mb → mb.role = .member l →
                t.band m = some { mb with role := .member new }) ∧
              (∀ l lb ms, b.leaderSlot = some l → l ≠ old → s.band l = some lb → lb.role = .leader ms →
                t.band l = some { lb with role := .leader (ms.map fun m => if m = old then new else m) }) ∧
              (∀ k, k ≠ old → k ≠ new → k ∉ b.members → b.leaderSlot ≠ some k → t.band k = s.band k) ∧
              t = { s with engine := { t.engine with zoneUsed := s.engine.zoneUsed, lastGranted := .port p } }

/-- REVOKE_BAND makes the record REVOKED and keeps everything else of it; a cabin it occupies is cleared and its UNLATCH
queued.  A serial that names no record is refused as R5 gives (R5, R23). -/
def Obligations.RevokeWithdrawsTheBand : Prop :=
  (∀ (p : PortId) (r : Request) (serial : Nat) (c : ResultCode) (s : State),
    s.granting p .revokeBand r → parseNumber 4 r.body = some serial → s.findSerial serial = .error c →
      exec (.revokeBand p) s = .next ((s.granted (.port p)).answered p r c [])) ∧
  ∀ (p : PortId) (r : Request) (serial slot : Nat) (b : Band) (s : State),
    s.granting p .revokeBand r → parseNumber 4 r.body = some serial → s.findSerial serial = .ok (slot, b) →
      (b.state = .revoked → exec (.revokeBand p) s = .next ((s.granted (.port p)).answered p r .wrongState [])) ∧
      (b.state ≠ .revoked →
        (b.cabin = none →
          exec (.revokeBand p) s =
            .next (((s.granted (.port p)).setBand slot (some { b with state := .revoked, next := none })).answered
              p r .ok [])) ∧
        (∀ c, b.cabin = some c →
          ((s.cabin c).state = .latching ∨ (s.cabin c).state = .unlatching →
            exec (.revokeBand p) s = .next ((s.granted (.port p)).answered p r .lockerBusy [])) ∧
          ((s.cabin c).state ≠ .latching → (s.cabin c).state ≠ .unlatching →
            (32 ≤ s.field.queue.length →
              exec (.revokeBand p) s = .next ((s.granted (.port p)).answered p r .fieldBusy [])) ∧
            (s.field.queue.length < 32 → (s.cabin c).occupant = some slot →
              exec (.revokeBand p) s =
                .next (((((s.granted (.port p)).setBand slot
                    (some { b with state := .revoked, next := none, cabin := none })).setCabin c
                    { s.cabin c with state := .unlatching, occupant := none, command := some .unlatch }).queueCommand
                    (cabinAt c).1 (cabinAt c).2 .unlatch).answered p r .ok [])))))

/-- COLLECT of a CLEARED visitor and DISCARD_BAND of a REVOKED newest record without holdings empty the record and every
REVOKED predecessor of its chain: their slots are EMPTY and their serials unmapped.  A slot emptied leaves the member list
of the record its leader field names, the members after it moving up; every other record is as it was.  Both refuse at the
first check that fails, that of the serial or slot before the others (R2, R5, R22, R25, R103). -/
def Obligations.CollectAndDiscardTearTheChainDown : Prop :=
  ∀ (p : PortId) (r : Request) (slot : Nat) (b : Band) (s : State),
    let chain := slot :: s.predecessors 2047 b.previous
    let leaderOf (j : Nat) : Option Nat := (s.band j).bind fun x => x.leaderSlot
    let torn (t : State) : Prop :=
      (∀ k ∈ chain, t.band k = none ∧ ∀ bk, s.band k = some bk → t.slotOf bk.serial = none) ∧
      (∀ k bk, k ∉ chain → s.band k = some bk → (∀ j ∈ chain, leaderOf j ≠ some k) → t.band k = some bk) ∧
      (∀ k bk, k ∉ chain → s.band k = some bk → chain.Nodup →
        t.band k = some ((chain.filter fun j => leaderOf j == some k).foldl (fun x j => x.dropMember j) bk)) ∧
      (∀ k, s.band k = none → t.band k = none) ∧
      (∀ m, (∀ k ∈ chain, ∀ bk, s.band k = some bk → bk.serial ≠ m) → t.slotOf m = s.slotOf m) ∧
      t = { s with engine := { s.engine with bands := t.engine.bands, serialMap := t.engine.serialMap,
                                             lastGranted := .port p } }
    let refuses (c : Instr) (code : ResultCode) : Prop := exec c s = .next ((s.granted (.port p)).answered p r code [])
    (∀ (bk : Band) (ms : List Nat) (j : Nat), bk.role = .leader ms →
      bk.dropMember j = { bk with role := .leader (ms.erase j) }) ∧
    (∀ serial c, s.granting p .collect r → parseNumber 4 r.body = some serial → s.findSerial serial = .error c →
      refuses (.collect p) c) ∧
    (∀ ref c, s.granting p .discardBand r → parseBandRef r.body = some ref → s.findRef ref = .error c →
      refuses (.discardBand p) c) ∧
    (∀ serial, s.granting p .collect r → parseNumber 4 r.body = some serial → s.findSerial serial = .ok (slot, b) →
      (b.isCleared = false → refuses (.collect p) .wrongState) ∧
      (b.isCleared = true → b.members ≠ [] → refuses (.collect p) .membersInside) ∧
      (b.isCleared = true → b.members = [] →
        ∃ t, exec (.collect p) s = .next (t.answered p r .ok (bytesOf 1 chain.length)) ∧ torn t)) ∧
    (∀ ref, s.granting p .discardBand r → parseBandRef r.body = some ref → s.findRef ref = .ok (slot, b) →
      (b.state ≠ .revoked ∨ b.next ≠ none → refuses (.discardBand p) .wrongState) ∧
      (b.state = .revoked → b.next = none →
        (b.lockers ≠ [] → refuses (.discardBand p) .holdsLocker) ∧
        (b.lockers = [] → b.members ≠ [] → refuses (.discardBand p) .membersInside) ∧
        (b.lockers = [] → b.members = [] →
          ∃ t, exec (.discardBand p) s = .next (t.answered p r .ok []) ∧ torn t)))

/-- CLOSE_DAY is refused LOCKER_BUSY while a locker or a cabin is LATCHING or UNLATCHING, and else WRONG_STATE while a cabin
is OCCUPIED.  With neither, every visitor record is emptied and unmapped, every staff record stays, and the lockers that
visitors held are freed or ORPHANED as Table 2-6 gives (R26). -/
def Obligations.CloseDayEmptiesTheVisitors : Prop :=
  ∀ (p : PortId) (r : Request) (s : State),
    s.granting p .closeDay r → r.body = [] →
      let refusal (c : ResultCode) : Prop := exec (.closeDay p) s = .next ((s.granted (.port p)).answered p r c [])
      let lockerMoves := ∃ n, 1 ≤ n ∧ n ≤ 1024 ∧ ((s.locker n).state = .latching ∨ (s.locker n).state = .unlatching)
      let cabinMoves := ∃ c, 1 ≤ c ∧ c ≤ 64 ∧ ((s.cabin c).state = .latching ∨ (s.cabin c).state = .unlatching)
      (lockerMoves ∨ cabinMoves → refusal .lockerBusy) ∧
      (¬lockerMoves → ¬cabinMoves → (∃ c, 1 ≤ c ∧ c ≤ 64 ∧ (s.cabin c).state = .occupied) → refusal .wrongState) ∧
      ((∀ n, 1 ≤ n → n ≤ 1024 → (s.locker n).state ≠ .latching ∧ (s.locker n).state ≠ .unlatching) →
      (∀ c, 1 ≤ c → c ≤ 64 → (s.cabin c).state ≠ .latching ∧ (s.cabin c).state ≠ .unlatching ∧
        (s.cabin c).state ≠ .occupied) →
        ∃ t : State,
          exec (.closeDay p) s = .next (t.answered p r .ok []) ∧
          (∀ k, t.band k = if s.holdsVisitor k then none else s.band k) ∧
          (∀ m k, t.slotOf m = some k → s.holdsVisitor k = false) ∧
          (∀ m k, s.slotOf m = some k → s.holdsVisitor k = false → t.slotOf m = some k) ∧
          (∀ n h, 1 ≤ n → n ≤ 1024 → (s.locker n).holder = some h → s.holdsVisitor h = true →
            (∀ st, (s.locker n).closeState = some st →
              t.locker n = { s.locker n with state := st, holder := none, since := s.now, fresh := false,
                                             master := false, release := false, origin := none }) ∧
            ((s.locker n).closeState =
              match (s.locker n).state with
              | .locked | .fault => some .orphaned
              | .forced => some (if (s.locker n).latch = .engaged then .orphaned else .free)
              | .reserved | .released | .opened | .closing => some .free
              | _ => none)) ∧
          (∀ n, ((s.locker n).holder.any s.holdsVisitor) = false → t.locker n = s.locker n) ∧
          t = { s with engine := { s.engine with bands := t.engine.bands, serialMap := t.engine.serialMap,
                                                 lockers := t.engine.lockers, lastGranted := .port p } })

/-! ### Settlement (chapter 5) -/

/-- SETTLE of an ACTIVE or OWING visitor without holdings: the elapsed time modulo a day; no charge up to the paid time and
the grace; beyond it the overrun from the end of the paid time in steps begun, times the rate, up to the cap; less what
was paid.  Nothing due makes the band CLEARED, anything due OWING.  Every step the part stores is 60 or more, and the count of
steps is stated for any that is not 0 (R90 to R93, R96 to R98). -/
def Obligations.SettleComputesTheCharge : Prop :=
  ∀ (p : PortId) (r : Request) (serial slot : Nat) (b : Band) (a : Account) (s : State),
    s.granting p .settle r → parseNumber 4 r.body = some serial → s.findSerial serial = .ok (slot, b) →
      b.kind = .visitor a → b.state = .active ∨ (∃ cents, b.state = .owing cents) →
        b.cabin = none → b.members = [] → b.lockers = [] →
          ∃ n : Nat,
            let e := (s.now + 86400 - b.entry) % 86400
            let paid := a.paidMinutes * 60
            let u := (s.tariffClass a.tariff).step
            let gross := min (n * (s.tariffClass a.tariff).rate) (s.tariffClass a.tariff).cap
            let due := gross - a.paidCents
            (e ≤ paid + s.settings.windows.grace → n = 0) ∧
            (paid + s.settings.windows.grace < e → 0 < u → 1 ≤ n ∧ (n - 1) * u < e - paid ∧ e - paid ≤ n * u) ∧
            exec (.settle p) s =
              .next (((s.granted (.port p)).setBand slot
                  (some { b with state := if due = 0 then .cleared s.now else .owing due })).answered p r
                (if due = 0 then .clear else .owes)
                (bytesOf 3 e ++ bytesOf 2 n ++ bytesOf 2 gross ++ bytesOf 2 a.paidCents ++ bytesOf 2 due))

/-- SETTLE of every other record: REVOKED refuses with REVOKED_PRESENTED raised, a staff band is CLEAR_STAFF, a CLEARED band is
CLEAR again with nothing changed, and an ACTIVE or OWING visitor with holdings is refused in the order cabin, members,
lockers; a serial that names no record is refused as R5 gives (R94, R95). -/
def Obligations.SettleDisposesByStateAndHoldings : Prop :=
  (∀ (p : PortId) (r : Request) (serial : Nat) (c : ResultCode) (s : State),
    s.granting p .settle r → parseNumber 4 r.body = some serial → s.findSerial serial = .error c →
      exec (.settle p) s = .next ((s.granted (.port p)).answered p r c [])) ∧
  ∀ (p : PortId) (r : Request) (serial slot : Nat) (b : Band) (s : State),
    s.granting p .settle r → parseNumber 4 r.body = some serial → s.findSerial serial = .ok (slot, b) →
      let refusal (c : ResultCode) : Prop := exec (.settle p) s = .next ((s.granted (.port p)).answered p r c [])
      (b.state = .revoked →
        exec (.settle p) s =
          .next (((s.granted (.port p)).notify .revokedPresented none (some serial)).answered p r .revoked [])) ∧
      (b.state ≠ .revoked → b.kind = .staff → refusal .clearStaff) ∧
      (∀ a since, b.kind = .visitor a → b.state = .cleared since →
        exec (.settle p) s =
          .next ((s.granted (.port p)).answered p r .clear
            (bytesOf 3 0 ++ bytesOf 2 0 ++ bytesOf 2 0 ++ bytesOf 2 a.paidCents ++ bytesOf 2 0))) ∧
      (∀ a, b.kind = .visitor a → b.state = .active ∨ (∃ cents, b.state = .owing cents) →
        (b.cabin ≠ none → refusal .inCabin) ∧
        (b.cabin = none → b.members ≠ [] → refusal .membersInside) ∧
        (b.cabin = none → b.members = [] → b.lockers ≠ [] → refusal .holdsLocker))

/-! ### Lockers (chapter 3) -/

/-- The binding tables agree at every step: lockers with the bands' lockers lists, cabins with the bands' cabin fields, the
serial map with the band table, members with leaders, and reissue chains with their links (State.BindingTablesAgree in
Safety; the invariant of the stop comes with it, as the tables are free values once retention is lost). Binding a locker
sets its holder and appends its number to the holder's list; unbinding removes both and clears master. A command for a
module that is ONLINE and configured joins the end of the field command queue; for a SILENT or unconfigured one its FAILED
outcome joins the hand-over list at once (R4, R14, R15, R17, R38, R39, R68, R125, R126). -/
def Obligations.BindingAndQueueingAreWhole : Prop :=
  (∀ s t : State, s.StandsStopped ∧ s.BindingTablesAgree → step s = .next t → t.BindingTablesAgree) ∧
  (
    ∀ (n h : Nat) (b : Band) (s : State), 1 ≤ n → n ≤ 1024 → s.band h = some b →
      s.bindLocker n h =
        (s.setLocker n { s.locker n with holder := some h }).setBand h (some { b with lockers := b.lockers ++ [n] }) ∧
      ((s.locker n).holder = some h →
        s.unbindLocker n =
          (s.setLocker n { s.locker n with holder := none, master := false }).setBand h
            (some { b with lockers := b.lockers.erase n })) ∧
      ((s.locker n).holder = none → s.unbindLocker n = s.setLocker n { s.locker n with master := false })) ∧
  (
    ∀ (addr pos : Nat) (action : Action) (s : State),
      let cmd : Command := { addr := addr, pos := pos, action := action, target := placeAt addr pos }
      (s.isSilent addr = false → s.configured addr = true →
        s.queueCommand addr pos action = { s with field.queue := s.field.queue ++ [cmd] }) ∧
      (s.isSilent addr = true ∨ s.configured addr = false →
        s.queueCommand addr pos action =
          { s with field.handover := s.field.handover ++ [.outcome cmd .failed],
                   field.waitingHeld := if s.field.handover = [] then false else s.field.waitingHeld }))

/-- ASSIGN_LOCKER that passes its checks makes the chosen locker RESERVED for the band that becomes holder, the leader for a
MEMBER, appends it to that band's list and marks its zone used.  It refuses at the first check of R59 that fails; checks 5
to 8 are those of State.assignment, in the rule's order.  What the holder-to-be holds is the length of its record's lockers
list, and the leader that must not be REVOKED is the record in a MEMBER's leader slot (R15, R43, R59, R60). -/
def Obligations.AssignmentReservesTheLocker : Prop :=
  (∀ (k : Nat) (b : Band) (s : State),
    (s.band k = none → s.heldBy k = 0) ∧ (s.band k = some b → s.heldBy k = b.lockers.length) ∧
    (s.leaderRevoked b = true ↔ ∃ l lb, b.role = .member l ∧ s.band l = some lb ∧ lb.state = .revoked) ∧
    b.holderSlot k = match b.role with
      | .member l => l
      | _ => k) ∧
  (∀ (p : PortId) (r : Request) (serial : Nat) (a : Assignment) (s : State),
    s.granting p .assignLocker r → parseAssign r.body = some (serial, a) →
      let refusal (c : ResultCode) : Prop := exec (.assignLocker p) s = .next ((s.granted (.port p)).answered p r c [])
      (a.inRange = false → refusal .outOfRange) ∧
      (a.inRange = true →
        (∀ c, s.findSerial serial = .error c → refusal c) ∧
        ∀ slot b, s.findSerial serial = .ok (slot, b) →
          (s.supply.supply = .hold → refusal .powerHold) ∧
          (s.supply.supply ≠ .hold →
            (b.state ≠ .active ∨ s.leaderRevoked b = true → refusal .wrongState) ∧
            (b.state = .active → s.leaderRevoked b = false →
              ∀ c, s.assignment a b.rank r.rank b.role (s.heldBy (b.holderSlot slot)) = .error c → refusal c)))) ∧
  (∀ (rank portRank held : Nat) (role : Role) (s : State),
    let room := if role = .none then 1 else 2
    let give (a : Assignment) := s.assignment a rank portRank role held
    let rights (z : Nat) (a : Assignment) : Prop :=
      ((s.zone z).rank < max rank portRank → give a = .error .rank) ∧
      (max rank portRank ≤ (s.zone z).rank → (s.zone z).groupOnly = true → role = .none → give a = .error .wrongState)
    let passes (z : Nat) : Prop :=
      max rank portRank ≤ (s.zone z).rank ∧ ((s.zone z).groupOnly = false ∨ role ≠ .none)
    (∀ a, room ≤ held → give a = .error .holdsLocker) ∧
    (held < room →
      (∀ z, ((s.zone z).present = false → give (.zone z) = .error .zoneAbsent) ∧
        ((s.zone z).present = true → rights z (.zone z) ∧
          (passes z →
            (s.pickFree (s.zone z) = none → give (.zone z) = .error .noFreeLocker) ∧
            ∀ n, s.pickFree (s.zone z) = some n → give (.zone z) = .ok n))) ∧
      ∀ n, (s.zoneOf n = none → give (.locker n) = .error .zoneAbsent) ∧
        ∀ z, s.zoneOf n = some z → rights z (.locker n) ∧
          (passes z →
            ((s.locker n).state = .latching ∨ (s.locker n).state = .unlatching → give (.locker n) = .error .lockerBusy) ∧
            ((s.locker n).state = .free → give (.locker n) = .ok n) ∧
            ((s.locker n).state ∉ [.latching, .unlatching, .free] → give (.locker n) = .error .wrongState)))) ∧
  ∀ (p : PortId) (r : Request) (serial slot h n : Nat) (a : Assignment) (b hb : Band) (s : State),
    s.granting p .assignLocker r → parseAssign r.body = some (serial, a) → a.inRange = true →
      s.findSerial serial = .ok (slot, b) → s.supply.supply ≠ .hold → b.state = .active → s.leaderRevoked b = false →
        s.assignment a b.rank r.rank b.role (s.heldBy (b.holderSlot slot)) = .ok n →
          h = (match b.role with
            | .member l => l
            | _ => slot) → s.band h = some hb →
            exec (.assignLocker p) s =
              .next (((((s.granted (.port p)).setLocker n
                  { s.locker n with state := .reserved, holder := some h, since := s.now, fresh := false,
                                    master := false, release := false, origin := none }).setBand h
                  (some { hb with lockers := hb.lockers ++ [n] })).useZone n).answered p r .ok (bytesOf 2 n))

/-- OPEN_LOCKER, RELEASE_LOCKER and REARM_LOCKER that must queue a command: the locker's state, flags and origin as the command
is queued, a release unbinding the locker first.  RELEASE_LOCKER of a locker whose latch is free already frees it at once,
and SET_LOCKER_SERVICE moves a FREE locker out of service and an OUT_OF_SERVICE one back, with no command.  Each refuses at
the first check of R61 that fails, in the rule's order (R39, R61, R62, R63). -/
def Obligations.LockerRequestsTakeEffect : Prop :=
  (∀ (p : PortId) (r : Request) (k : ReqKind) (n : Nat) (s : State),
    k ∈ [.openLocker, .releaseLocker, .rearmLocker] → s.granting p k r → parseNumber 2 r.body = some n →
      let l := s.locker n
      let refusal (c : ResultCode) : Prop := exec (rowOf p k) s = .next ((s.granted (.port p)).answered p r c [])
      let moves := l.state = .latching ∨ l.state = .unlatching
      let latched := l.state = .locked ∨ l.state = .fault ∨ l.state = .orphaned
      (n = 0 ∨ 1024 < n → refusal .outOfRange) ∧
      (1 ≤ n → n ≤ 1024 →
        (moves → refusal .lockerBusy) ∧
        (¬moves →
          (k = .openLocker → ¬latched → refusal .wrongState) ∧
          (k = .releaseLocker → l.state ∈ [.unfitted, .free, .outOfService] → refusal .wrongState) ∧
          (k = .rearmLocker → l.state ≠ .forced → refusal .wrongState) ∧
          (k = .rearmLocker → l.state = .forced → l.door = .opened → refusal .doorOpen) ∧
          ((k = .openLocker ∧ latched) ∨
              (k = .releaseLocker ∧ (latched ∨ (l.state = .forced ∧ l.latch = .engaged))) ∨
              (k = .rearmLocker ∧ l.state = .forced ∧ l.door ≠ .opened) →
            (s.isSilent (lockerAt n).1 = true → refusal .moduleSilent) ∧
            (s.isSilent (lockerAt n).1 = false → 32 ≤ s.field.queue.length → refusal .fieldBusy))))) ∧
  (∀ (p : PortId) (r : Request) (n : Nat) (back : Bool) (s : State),
    s.granting p .setLockerService r → parseLockerService r.body = some (n, back) →
      let l := s.locker n
      let refusal (c : ResultCode) : Prop :=
        exec (.setLockerService p) s = .next ((s.granted (.port p)).answered p r c [])
      (n = 0 ∨ 1024 < n → refusal .outOfRange) ∧
      (1 ≤ n → n ≤ 1024 →
        (l.state = .latching ∨ l.state = .unlatching → refusal .lockerBusy) ∧
        (l.state ≠ .latching → l.state ≠ .unlatching → l.state ≠ (if back then .outOfService else .free) →
          refusal .wrongState))) ∧
  (
    ∀ (p : PortId) (r : Request) (n : Nat) (s : State), parseNumber 2 r.body = some n → 1 ≤ n → n ≤ 1024 →
      s.isSilent (lockerAt n).1 = false → s.field.queue.length < 32 →
        let l := s.locker n
        let g := s.granted (.port p)
        (s.granting p .openLocker r → l.state ∈ [.locked, .fault, .orphaned] →
          exec (.openLocker p) s =
            .next (((g.setLocker n
                { l with state := .unlatching, origin := some l.state, master := true,
                         release := l.state == .orphaned || (l.state == .fault && l.holder.isNone) }).queueCommand
                ((n - 1) / 8 + 1) ((n - 1) % 8) .unlatch).answered p r .ok [])) ∧
        (s.granting p .releaseLocker r →
          l.state ∈ [.locked, .fault, .orphaned] ∨ (l.state = .forced ∧ l.latch = .engaged) →
            exec (.releaseLocker p) s =
              .next ((((g.unbindLocker n).setLocker n
                  { l with state := .unlatching, holder := none, origin := some l.state, master := false,
                           release := true }).queueCommand
                  ((n - 1) / 8 + 1) ((n - 1) % 8) .unlatch).answered p r .ok [])) ∧
        (s.granting p .rearmLocker r → l.state = .forced → l.door ≠ .opened →
          exec (.rearmLocker p) s =
            .next (((g.setLocker n
                { l with state := .latching, origin := some .forced, fresh := false, master := false }).queueCommand
                ((n - 1) / 8 + 1) ((n - 1) % 8) .latch).answered p r .ok []))) ∧
  (
    ∀ (p : PortId) (r : Request) (n : Nat) (s : State), 1 ≤ n → n ≤ 1024 →
      let l := s.locker n
      let g := s.granted (.port p)
      (s.granting p .releaseLocker r → parseNumber 2 r.body = some n →
        l.state ∈ [.reserved, .released, .opened, .closing] ∨ (l.state = .forced ∧ l.latch ≠ .engaged) →
          exec (.releaseLocker p) s =
            .next (((g.unbindLocker n).setLocker n
                { l with state := .free, holder := none, since := s.now, origin := none, fresh := false,
                         master := false, release := false }).answered p r .ok [])) ∧
      (s.granting p .setLockerService r → parseLockerService r.body = some (n, false) → l.state = .free →
        exec (.setLockerService p) s =
          .next ((g.setLocker n { l with state := .outOfService, since := s.now, origin := none, fresh := false,
                                         release := false }).answered p r .ok [])) ∧
      (s.granting p .setLockerService r → parseLockerService r.body = some (n, true) → l.state = .outOfService →
        exec (.setLockerService p) s =
          .next ((g.setLocker n { l with state := .free, since := s.now, origin := none, fresh := false, master := false,
                                         release := false }).answered p r .ok [])))

/-! ### Cabins (chapter 4) -/

/-- OPEN_CABIN queues an UNLATCH for an OCCUPIED cabin, its occupant kept, or for a VACANT one whose latch is not FREE, and
refuses LOCKER_BUSY a cabin with a command out; SET_CABIN_SERVICE moves a VACANT cabin out of service and back.  Each
refuses at the first check of R81 that fails, in the rule's order (R81, R82, R69). -/
def Obligations.CabinRequestsTakeEffect : Prop :=
  (∀ (p : PortId) (r : Request) (c : Nat) (s : State), s.granting p .openCabin r → parseNumber 1 r.body = some c →
    let k := s.cabin c
    let refusal (code : ResultCode) : Prop := exec (.openCabin p) s = .next ((s.granted (.port p)).answered p r code [])
    let busy := k.state = .latching ∨ k.state = .unlatching ∨ k.command ≠ none
    let accepts := k.state = .occupied ∨ (k.state = .vacant ∧ k.latch ≠ .free)
    (c = 0 ∨ 64 < c → refusal .outOfRange) ∧
    (1 ≤ c → c ≤ 64 →
      (busy → refusal .lockerBusy) ∧
      (¬busy →
        (¬accepts → refusal .wrongState) ∧
        (accepts →
          (s.isSilent (cabinAt c).1 = true → refusal .moduleSilent) ∧
          (s.isSilent (cabinAt c).1 = false → 32 ≤ s.field.queue.length → refusal .fieldBusy))))) ∧
  (∀ (p : PortId) (r : Request) (c : Nat) (back : Bool) (s : State),
    s.granting p .setCabinService r → parseCabinService r.body = some (c, back) →
      let k := s.cabin c
      let refusal (code : ResultCode) : Prop :=
        exec (.setCabinService p) s = .next ((s.granted (.port p)).answered p r code [])
      let busy := k.state = .latching ∨ k.state = .unlatching ∨ k.command ≠ none
      (c = 0 ∨ 64 < c → refusal .outOfRange) ∧
      (1 ≤ c → c ≤ 64 →
        (busy → refusal .lockerBusy) ∧
        (¬busy → k.state ≠ (if back then .outOfService else .vacant) → refusal .wrongState))) ∧
  ∀ (p : PortId) (r : Request) (c : Nat) (s : State), 1 ≤ c → c ≤ 64 →
    let k := s.cabin c
    let g := s.granted (.port p)
    (s.granting p .openCabin r → parseNumber 1 r.body = some c →
      k.state = .occupied ∨ (k.state = .vacant ∧ k.latch ≠ .free) → k.command = none →
        s.isSilent (cabinAt c).1 = false → s.field.queue.length < 32 →
          exec (.openCabin p) s =
            .next (((g.setCabin c { k with state := .unlatching, command := some .unlatch }).queueCommand
              (128 + (c - 1) / 4 + 1) ((c - 1) % 4) .unlatch).answered p r .ok [])) ∧
    (s.granting p .setCabinService r → parseCabinService r.body = some (c, false) → k.state = .vacant →
      k.command = none →
        exec (.setCabinService p) s =
          .next ((g.setCabin c { k with state := .outOfService, since := s.now, stage := 0 }).answered p r .ok [])) ∧
    (s.granting p .setCabinService r → parseCabinService r.body = some (c, true) → k.state = .outOfService →
      k.command = none →
        exec (.setCabinService p) s =
          .next ((g.setCabin c { k with state := .vacant, since := s.now, stage := 0 }).answered p r .ok []))

/-! ### Zones, tariffs and windows (sections 3.1, 5.2, 7.2, 11.4) -/

/-- SET_ZONE refuses OUT_OF_RANGE, OVERLAP and ZONE_IN_USE in that order; within its ranges, with no other present zone in its
new range and no bound locker in its old or new range, or where it changes present alone, it replaces the record and clears
its used flag (that a request which changes nothing is checked is assumption 12); SET_TARIFF stores and answers its values
clamped, a class above 7 being refused OUT_OF_RANGE; SELECT_BANK selects the bank; SET_WINDOWS stores and answers the nine values clamped and the nearest step rate,
each in two bytes in the order of Table 11-4 (R35, R88, R89, R141, R195, R196). -/
def Obligations.SettingsRequestsAreStored : Prop :=
  (
    ∀ (p : PortId) (r : Request) (q : ZoneRequest) (s : State),
      s.granting p .setZone r → parseZone r.body = some q →
        let old := s.zone q.zone
        let refusal (c : ResultCode) : Prop := exec (.setZone p) s = .next ((s.granted (.port p)).answered p r c [])
        let inRange := q.zone ≤ 15 ∧ 1 ≤ q.value.first ∧ q.value.first ≤ 1024 ∧ 1 ≤ q.value.count ∧
          q.value.first + q.value.count ≤ 1025 ∧ q.value.rank ≤ 3
        let other (i : Nat) : Prop := q.value.present = true ∧ i ≤ 15 ∧ i ≠ q.zone ∧ (s.zone i).present = true
        let apart (i : Nat) : Prop := (s.zone i).first + (s.zone i).count ≤ q.value.first ∨
          q.value.first + q.value.count ≤ (s.zone i).first
        let bound (n : Nat) : Prop := 1 ≤ n ∧ n ≤ 1024 ∧ (s.locker n).holder ≠ none ∧
          ((old.first ≤ n ∧ n < old.first + old.count) ∨ (q.value.first ≤ n ∧ n < q.value.first + q.value.count))
        let presentAlone := q.value = { old with present := !old.present }
        (¬inRange → refusal .outOfRange) ∧
        (inRange →
          (∀ i m, other i → q.value.first ≤ m → m < q.value.first + q.value.count → (s.zone i).first ≤ m →
            m < (s.zone i).first + (s.zone i).count → refusal .overlap) ∧
          ((∀ i, other i → apart i) →
            ((∃ n, bound n) → ¬presentAlone → refusal .zoneInUse) ∧
            ((∀ n, ¬bound n) ∨ presentAlone →
              exec (.setZone p) s =
                .next (({ (s.granted (.port p)) with
                    settings.zones := tableSet s.settings.zones q.zone q.value,
                    engine.zoneUsed := tableSet s.engine.zoneUsed q.zone false } : State).answered p r .ok []))))) ∧
  (∀ (p : PortId) (r : Request) (s : State), s.granting p .setZone r → parseZone r.body = none →
    exec (.setZone p) s = .next ((s.granted (.port p)).answered p r .outOfRange [])) ∧
  (
    ∀ (p : PortId) (r : Request) (s : State),
      let g := s.granted (.port p)
      (∀ q : TariffRequest, s.granting p .setTariff r → parseTariff r.body = some q → q.cls ≤ 7 →
        let v : TariffClass := { step := max 60 (min 3600 q.value.step), rate := min 10000 q.value.rate,
                                 cap := min 65535 q.value.cap }
        exec (.setTariff p) s =
          .next ((match q.bank with
              | .a => { g with settings.bankA := tableSet s.settings.bankA q.cls v }
              | .b => { g with settings.bankB := tableSet s.settings.bankB q.cls v } : State).answered p r .ok
            (bytesOf 2 v.step ++ bytesOf 2 v.rate ++ bytesOf 2 v.cap))) ∧
      (∀ q : TariffRequest, s.granting p .setTariff r → parseTariff r.body = some q → 7 < q.cls →
        exec (.setTariff p) s = .next (g.answered p r .outOfRange [])) ∧
      (∀ bank, s.granting p .selectBank r → parseBank r.body = some bank →
        exec (.selectBank p) s = .next (({ g with settings.selected := bank } : State).answered p r .ok [])) ∧
      (∀ q : WindowsRequest, s.granting p .setWindows r → parseWindows r.body = some q →
        let v : Windows :=
          { opening := max 3 (min 30 q.values.opening), relock := max 10 (min 300 q.values.relock),
            reservation := max 60 (min 3600 q.values.reservation), leave := max 60 (min 1800 q.values.leave),
            grace := min 1800 q.values.grace, limitSingle := max 300 (min 3600 q.values.limitSingle),
            limitFamily := max 300 (min 3600 q.values.limitFamily), limitStaff := max 300 (min 3600 q.values.limitStaff),
            escalation := max 30 (min 600 q.values.escalation) }
        let rate : StepRate :=
          if q.rate < 192 then .r128 else if q.rate < 384 then .r256 else if q.rate < 768 then .r512 else .r1024
        exec (.setWindows p) s =
          .next (({ g with settings.windows := v, settings.stepRate := rate } : State).answered p r .ok
            (windowsBytes v rate)))) ∧
  (
    ∀ (v : Windows) (rate : StepRate),
      (windowsBytes v rate).length = 20 ∧
        holdsRows (windowsBytes v rate)
          [(0, 2, v.opening), (2, 2, v.relock), (4, 2, v.reservation), (6, 2, v.leave), (8, 2, v.grace),
           (10, 2, v.limitSingle), (12, 2, v.limitFamily), (14, 2, v.limitStaff), (16, 2, v.escalation),
           (18, 2, match rate with
             | .r128 => 128
             | .r256 => 256
             | .r512 => 512
             | .r1024 => 1024)])

/-! ### Watches (chapter 8) -/

/-- SET_WATCH replaces one slot whole with hits 0 and no last hit, a BAND subject keeping only PRESENTED and REFUSED of its mask
and stop adding REFUSED; CLEAR_WATCH clears enabled and keeps the rest; outside the ranges of R155, and for a slot above 3, they
are refused OUT_OF_RANGE; what either wrote over is kept while its request is outstanding; at every step what is so kept
belongs to a request taken and outstanding, of the kind that writes there, one of a port.  An event is matched against the slots 0 to 3 in order;
one that a slot matches adds 1 to its hits, saturating at 255, sets its last hit and raises WATCH_HIT; another leaves it.
A presentation is stopped when an enabled watch with stop set and a BAND subject covers its serial
(R152, R153, R154, R155, R156, R158, R176, R185). -/
def Obligations.WatchesAreSetAndCount : Prop :=
  (
    ∀ q : WatchRequest,
      q.inRange = true ↔
        q.watch ≤ 3 ∧ q.priority ≤ 7 ∧
          match q.subject with
          | .band first count =>
            first ≠ 0 ∧ first ≠ 4294967295 ∧ count ≠ 0 ∧ count ≤ 256 ∧ first + count - 1 ≤ 4294967294
          | .places .locker first last => 1 ≤ first ∧ first ≤ last ∧ last ≤ 1024 ∧ q.stop = false
          | .places .cabin first last => 1 ≤ first ∧ first ≤ last ∧ last ≤ 64 ∧ q.stop = false) ∧
  (
    ∀ (p : PortId) (r : Request) (s : State),
      (∀ q : WatchRequest, s.taking p .setWatch r → parseWatch r.body = some q → q.inRange = false →
        exec (.setWatch p) s = .next (s.answered p r .outOfRange [])) ∧
      (∀ i, s.taking p .clearWatch r → parseNumber 1 r.body = some i → 3 < i →
        exec (.clearWatch p) s = .next (s.answered p r .outOfRange []))) ∧
  (
    ∀ (p : PortId) (r : Request) (s : State),
      (∀ q : WatchRequest, s.taking p .setWatch r → parseWatch r.body = some q → q.inRange = true →
        let band := q.subject.isBand
        let w : Watch :=
          { enabled := q.enabled, subject := q.subject,
            mask := if band then (if q.stop then (q.mask &&& 3#5) ||| 2#5 else q.mask &&& 3#5) else q.mask,
            priority := q.priority, stop := q.stop, hits := 0, lastHit := none }
        exec (.setWatch p) s =
          .next (({ s with
              watches := tableSet s.watches q.watch w,
              undo := { port := p, before := .watch q.watch (s.watch q.watch) } :: s.undo } : State).answered
            p r .ok (watchBytes w))) ∧
      (∀ i, s.taking p .clearWatch r → parseNumber 1 r.body = some i → i ≤ 3 →
        exec (.clearWatch p) s =
          .next (({ s with
              watches := tableSet s.watches i { s.watch i with enabled := false },
              undo := { port := p, before := .enabled i (s.watch i).enabled } :: s.undo } : State).answered p r .ok []))) ∧
  (∀ s t : State, s.UndoSound → step s = .next t → t.UndoSound) ∧
  (
    ∀ (place : Place) (event : WatchEvent) (serial : Option Nat) (s : State),
      let slot (i : Nat) (u : State) : State := State.matchSlot place event serial u i
      s.watchEvent place event serial = slot 3 (slot 2 (slot 1 (slot 0 s)))) ∧
  (
    ∀ (serial : Nat) (s : State),
      s.stopped serial = true ↔
        ∃ i first count, i ≤ 3 ∧ (s.watch i).enabled = true ∧ (s.watch i).stop = true ∧
          (s.watch i).subject = .band first count ∧ first ≤ serial ∧ serial < first + count) ∧
  (
    ∀ (place : Place) (event : WatchEvent) (serial : Option Nat) (i : Nat) (s : State), i ≤ 3 →
      let w := s.watch i
      let covered : Bool := match w.subject, place with
        | .band first count, _ => serial.any fun n => decide (first ≤ n) && decide (n < first + count)
        | .places .locker first last, .locker n => decide (first ≤ n) && decide (n ≤ last)
        | .places .cabin first last, .cabin c => decide (first ≤ c) && decide (c ≤ last)
        | .places .., _ => false
      State.matchSlot place event serial s i =
        if w.enabled = true ∧ w.mask.getLsbD (watchCode event) = true ∧ covered = true then
          { s with
            watches := tableSet s.watches i
              { w with hits := min 255 (w.hits + 1),
                       lastHit := some { place := place, event := event, serial := serial, time := s.now } },
            notices.raised := s.notices.raised ++
              [{ kind := .watchHit, place := some place, serial := serial, time := s.now,
                 hit := some { watch := i, event := event, priority := w.priority } }] }
        else s)

/-! ### Notices and alarms (chapter 9) -/

/-- READ_NOTICE answers and removes the head of its own port's queue with the count left, or NONE, the record laid out as Table
13-6 gives with its kind coded from 1 in the order of Table 9-2; a port's attention line is high exactly while its queue holds
a notice and the part is not stopped.  ACK_ALARM removes one listed alarm or all of them, and
clears the overflow flag with the last; it answers NONE to an alarm that is not listed and refuses OUT_OF_RANGE another kind
or a place outside the range of its kind.  SET_THRESHOLD sets the carrying port's threshold, refusing one above 8;
SET_NOTICE_PRIORITY a kind's held priority, refusing one above 7 and then WATCH_HIT and the alarms; each keeps what it wrote
over while it is outstanding (R159, R161, R165, R166, R170, R171, R185, R196). -/
def Obligations.NoticeRequestsTakeEffect : Prop :=
  [NoticeKind.unknownPresented, .leaveLapsed, .reservationLapsed, .moduleBack, .masterOpen, .longStay, .cabinOverhold,
    .powerRestored, .cabinReleasedByPower, .lockerFault, .moduleSilent, .orphanFound, .revokedPresented, .powerWarn,
    .settingsLost, .watchHit, .lockerForced, .cabinForced, .cabinOverholdLong].map noticeCode =
      (List.range 19).map (fun i => i + 1) ∧
  (∀ n : Notice,
    let d := noticeBytes n
    d.length = 15 ∧
      holdsRows d
        [(0, 1, noticeCode n.body.kind), (1, 1, n.priority),
         (2, 1, yesNo n.body.serial.isSome + 2 * yesNo n.body.hit.isSome), (3, 1, (placeCode n.body.place).1),
         (4, 2, (placeCode n.body.place).2), (6, 4, n.body.serial.getD 0), (10, 3, n.body.time),
         (13, 1, (n.body.hit.map fun h => h.watch).getD 0),
         (14, 1, (n.body.hit.map fun h => watchCode h.event).getD 0)]) ∧
  (∀ (p : PortId) (s : State), s.attention p = true ↔ s.running = true ∧ s.queue p ≠ []) ∧
  (∀ (k : NoticeKind) (n : Nat) (place : Place),
    alarmPlace k n = some place ↔
      (k = .lockerForced ∧ 1 ≤ n ∧ n ≤ 1024 ∧ place = .locker n) ∨
        ((k = .cabinForced ∨ k = .cabinOverholdLong) ∧ 1 ≤ n ∧ n ≤ 64 ∧ place = .cabin n)) ∧
  (∀ (p : PortId) (r : Request) (k : NoticeKind) (n : Nat) (s : State),
    (s.taking p .ackAlarm r → parseAck r.body = some (.one k n) →
      (alarmPlace k n = none → exec (.ackAlarm p) s = .next (s.answered p r .outOfRange [])) ∧
      ∀ place, alarmPlace k n = some place → (∀ a ∈ s.notices.alarms, ¬(a.kind = k ∧ a.place = some place)) →
        exec (.ackAlarm p) s = .next (s.answered p r .none [])) ∧
    (s.taking p .setThreshold r → parseNumber 1 r.body = some n → 8 < n →
      exec (.setThreshold p) s = .next (s.answered p r .outOfRange [])) ∧
    (s.taking p .setNoticePriority r → parsePriority r.body = some (k, n) → 7 < n →
      exec (.setNoticePriority p) s = .next (s.answered p r .outOfRange []))) ∧
  ∀ (p : PortId) (r : Request) (s : State),
    (s.taking p .readNotice r → r.body = [] →
      (s.queue p = [] → exec (.readNotice p) s = .next (s.answered p r .none [])) ∧
      ∀ n rest, s.queue p = n :: rest →
        exec (.readNotice p) s =
          .next ((s.setQueue p rest).answered p r .ok (noticeBytes n ++ bytesOf 1 rest.length))) ∧
    (s.taking p .ackAlarm r → parseAck r.body = some .all →
      exec (.ackAlarm p) s =
        .next (({ s with
            notices.alarms := [], notices.alarmOverflow := false,
            undo := { port := p, before := .alarms none s.notices.alarms s.notices.alarmOverflow } :: s.undo } :
          State).answered p r .ok [])) ∧
    (∀ k n place before a after, s.taking p .ackAlarm r → parseAck r.body = some (.one k n) →
      alarmPlace k n = some place → s.notices.alarms = before ++ a :: after → a.kind = k → a.place = some place →
        (∀ x ∈ before, ¬(x.kind = k ∧ x.place = some place)) →
          exec (.ackAlarm p) s =
            .next (({ s with
                notices.alarms := before ++ after,
                notices.alarmOverflow := s.notices.alarmOverflow && !(before ++ after).isEmpty,
                undo :=
                  { port := p, before := .alarms (some (k, place)) s.notices.alarms s.notices.alarmOverflow } :: s.undo } :
              State).answered p r .ok [])) ∧
    (∀ n, s.taking p .setThreshold r → parseNumber 1 r.body = some n → n ≤ 8 →
      exec (.setThreshold p) s =
        .next (({ s with
            settings.thresholds := s.settings.thresholds.set p n,
            undo := { port := p, before := .threshold p (s.settings.thresholds.get p) } :: s.undo } :
          State).answered p r .ok [])) ∧
    (∀ k n, s.taking p .setNoticePriority r → parsePriority r.body = some (k, n) → n ≤ 7 →
      (k ∈ [.watchHit, .lockerForced, .cabinForced, .cabinOverholdLong] →
        exec (.setNoticePriority p) s = .next (s.answered p r .wrongState [])) ∧
      (k ∉ [.watchHit, .lockerForced, .cabinForced, .cabinOverholdLong] →
          ∃ was, s.settings.priorities[noticeCode k - 1]? = some was ∧
            exec (.setNoticePriority p) s =
              .next (({ s with
                  settings.priorities := tableSet s.settings.priorities (noticeCode k - 1) n,
                  undo := { port := p, before := .priority k was } :: s.undo } : State).answered p r .ok [])))

/-- The notice unit takes the oldest notice raised (that it takes notices of different blocks in the order raised is the model's
choice, assumption 7): an alarm is listed unless its kind and place are listed already, or sets the
overflow flag on a full list, and likewise in the list that would stand without each ACK_ALARM still outstanding; each port is routed its copy, which joins the queue behind every notice of the same or
higher priority and ahead of every lower one; on a full queue the youngest of the lowest priority gives way to a higher one.
A port is routed a notice when its permission set holds READ_NOTICE and its threshold is no greater than the priority, the
notice is an alarm and the port is CP2, or the notice is POWER_WARN.  The priority is the watch's for a WATCH_HIT, 7 for an
alarm, and else the one held for the kind (R160, R162, R163, R164, R167, R185). -/
def Obligations.NoticeTakenIsListedRoutedAndQueued : Prop :=
  (
    ∀ (n : Raised) (rest : List Raised) (s : State), s.notices.raised = n :: rest → s.running = true →
      ∃ t : State, exec .noticeTaken s = .next t ∧ t.notices.raised = rest ∧
        (isAlarm n.kind = false →
          t.notices.alarms = s.notices.alarms ∧ t.notices.alarmOverflow = s.notices.alarmOverflow ∧ t.undo = s.undo) ∧
        (isAlarm n.kind = true →
          let entered (l : List Alarm) (full : Bool) (l' : List Alarm) (full' : Bool) : Prop :=
            ((∃ a ∈ l, a.kind = n.kind ∧ a.place = n.place) → l' = l ∧ full' = full) ∧
            ((∀ a ∈ l, ¬(a.kind = n.kind ∧ a.place = n.place)) →
              (l.length < 8 →
                full' = full ∧
                l' = l ++
                  [{ kind := n.kind, place := n.place, raised := n.time, countdown := s.settings.windows.escalation,
                     escalated := false }]) ∧
              (8 ≤ l.length → l' = l ∧ full' = true))
          entered s.notices.alarms s.notices.alarmOverflow t.notices.alarms t.notices.alarmOverflow ∧
            t.undo.length = s.undo.length ∧
            ∀ (i : Nat) (u v : Undo), s.undo[i]? = some u → t.undo[i]? = some v →
              match u.before with
              | .alarms which l full =>
                ∃ l' full', v = { port := u.port, before := .alarms which l' full' } ∧ entered l full l' full'
              | _ => v = u) ∧
        (∀ p, let record : Notice := { body := n, priority := s.priorityOf n }
          (s.routedTo p record = false →
            t.queue p = s.queue p ∧ t.notices.overflow.get p = s.notices.overflow.get p) ∧
          (s.routedTo p record = true →
            t.queue p = queueAfter record (s.queue p) ∧
            t.notices.overflow.get p = (s.notices.overflow.get p || decide (16 ≤ (s.queue p).length)))) ∧
        t = { s with notices := t.notices, undo := t.undo }) ∧
  (
    ∀ (n : Notice) (higher lower : List Notice),
      (∀ m ∈ higher, n.priority ≤ m.priority) → (∀ m ∈ lower, m.priority < n.priority) →
        ((higher ++ lower).length < 16 → queueAfter n (higher ++ lower) = higher ++ n :: lower) ∧
        ((higher ++ lower).length = 16 → lower ≠ [] → queueAfter n (higher ++ lower) = higher ++ n :: lower.dropLast) ∧
        ((higher ++ lower).length = 16 → lower = [] → queueAfter n (higher ++ lower) = higher)) ∧
  (∀ k : NoticeKind, isAlarm k = true ↔ k = .lockerForced ∨ k = .cabinForced ∨ k = .cabinOverholdLong) ∧
  (
    ∀ (p : PortId) (n : Notice) (s : State),
      s.routedTo p n = true ↔
        (s.portPermitted p).getLsbD 26 = true ∧
          (s.settings.thresholds.get p ≤ n.priority ∨ (isAlarm n.body.kind = true ∧ p = .cp2) ∨
            n.body.kind = .powerWarn)) ∧
  (
    ∀ (n : Raised) (s : State),
      (∀ h, n.hit = some h → s.priorityOf n = h.priority) ∧
      (n.hit = none →
        (isAlarm n.kind = true → s.priorityOf n = 7) ∧
        (isAlarm n.kind = false → n.kind ≠ .watchHit →
          s.settings.priorities[noticeCode n.kind - 1]? = some (s.priorityOf n))))

/-- An escalation tick takes 1 from the countdown of every record not escalated, and a record that reaches 0 becomes escalated,
which asserts ALARM, and so in the list that would stand without each ACK_ALARM still outstanding; ALARM_ESCALATED is that tick when some record reaches 0.  ALARM is asserted exactly while the part is not
stopped and a listed record is escalated or the overflow flag is set: an alarm taken on a full list asserts it at once, an
acknowledgement of ALL deasserts it, and of one leaves it by what stays.  While the part stands stopped no notice is taken
and no tick is made (R167, R168, R169, R170, R171, R185, assumption 3). -/
def Obligations.EscalationCountsDown : Prop :=
  (∀ s : State, s.running = true →
    let ticked (l : List Alarm) : List Alarm := l.map fun a =>
      if a.escalated then a else { a with countdown := a.countdown - 1, escalated := decide (a.countdown ≤ 1) }
    let t : State :=
      { s with
        notices.alarms := ticked s.notices.alarms,
        undo := s.undo.map fun u =>
          match u.before with
          | .alarms which l full => { port := u.port, before := .alarms which (ticked l) full }
          | _ => u }
    exec .escalationTick s = .next t ∧
      ((∃ a ∈ s.notices.alarms, a.escalated = false ∧ a.countdown ≤ 1) →
        exec .alarmEscalated s = .next t ∧ t.alarmLine = true)) ∧
  (∀ s : State,
    (s.alarmLine = true ↔
      s.running = true ∧ ((∃ a ∈ s.notices.alarms, a.escalated = true) ∨ s.notices.alarmOverflow = true)) ∧
    (s.running = false →
      s.alarmLine = false ∧ ∀ c ∈ [Instr.escalationTick, .alarmEscalated, .noticeTaken], exec c s = .next s)) ∧
  (∀ (n : Raised) (rest : List Raised) (s : State), s.notices.raised = n :: rest → s.running = true →
    isAlarm n.kind = true → (∀ a ∈ s.notices.alarms, ¬(a.kind = n.kind ∧ a.place = n.place)) →
      8 ≤ s.notices.alarms.length → ∃ t : State, exec .noticeTaken s = .next t ∧ t.alarmLine = true) ∧
  ∀ (p : PortId) (r : Request) (s : State), s.taking p .ackAlarm r →
    (parseAck r.body = some .all → ∃ t : State, exec (.ackAlarm p) s = .next t ∧ t.alarmLine = false) ∧
    ∀ k n place before a after, parseAck r.body = some (.one k n) → alarmPlace k n = some place →
      s.notices.alarms = before ++ a :: after → a.kind = k → a.place = some place →
        (∀ x ∈ before, ¬(x.kind = k ∧ x.place = some place)) →
          ∃ t : State, exec (.ackAlarm p) s = .next t ∧
            (t.alarmLine = true ↔ (∃ x ∈ before ++ after, x.escalated = true) ∨
              (s.notices.alarmOverflow = true ∧ before ++ after ≠ []))

/-! ### Modules, the day clock and the settings store (R112, R129, R187, R188, R194) -/

/-- SET_MODULES configures an unconfigured module: its settings and its cabins' kinds are stored, its positions become FREE or
VACANT with nothing bound and nothing known, and its record is that of a module not read yet.  Unconfiguring is refused
while a locker moves or anything is bound, and otherwise makes every position UNFITTED, clears held, resync pending, cold
read and every pending indication, and fails the module's queue entries; a module whose configuration stays takes the new
settings alone.  Nothing else changes, but that a HOLD_MODULE or RELEASE_MODULE still outstanding for a module configured or
unconfigured has nothing left to undo (R112, R185). -/
def Obligations.SetModulesFitsThePositions : Prop :=
  ∀ (p : PortId) (r : Request) (q : ModulesRequest) (s : State),
    s.granting p .setModules r → parseModules r.body = some q →
      let g := s.granted (.port p)
      let refusal (c : ResultCode) : Prop := exec (.setModules p) s = .next (g.answered p r c [])
      let done (t : State) : Prop := exec (.setModules p) s = .next (t.answered p r .ok [])
      let stored (t : State) : Prop :=
        t.moduleSetting q.addr = { configured := q.configured, holdOnForce := q.holdOnForce } ∧
        (∀ a, a ≠ q.addr → t.moduleSetting a = s.moduleSetting a) ∧
        (∀ i, i < 4 → 129 ≤ q.addr → some (t.cabinKind (4 * (q.addr - 129) + i + 1)) = q.kinds[i]?) ∧
        (∀ c, 1 ≤ c → c ∉ moduleCabins q.addr → t.cabinKind c = s.cabinKind c) ∧
        t.settings = { s.settings with modules := t.settings.modules, cabinKinds := t.settings.cabinKinds }
      let positions (t : State) (lockers : LockerState) (cabins : CabinState) : Prop :=
        (∀ n ∈ moduleLockers q.addr, t.locker n = Locker.blank lockers s.now) ∧
        (∀ c ∈ moduleCabins q.addr, t.cabin c = { Cabin.blank cabins s.now with command := (s.cabin c).command }) ∧
        (∀ n, n ∉ moduleLockers q.addr → t.locker n = s.locker n) ∧
        (∀ c, c ∉ moduleCabins q.addr → t.cabin c = s.cabin c) ∧
        (∀ a, a ≠ q.addr → t.module a = s.module a)
      let unheld := s.undo.filter fun u =>
        match u.before with
        | .held a _ => q.addr != a
        | _ => true
      (q.addr = 0 ∨ 144 < q.addr → refusal .outOfRange) ∧
      (1 ≤ q.addr → q.addr ≤ 144 →
        (s.configured q.addr = q.configured →
          ∃ t : State, done t ∧ stored t ∧ t = { g with settings := t.settings }) ∧
        (s.configured q.addr = false → q.configured = true →
          ∃ t : State, done t ∧ stored t ∧ positions t .free .vacant ∧ t.module q.addr = Module.blank true ∧
            t = { s with settings := t.settings,
                         engine := { s.engine with lockers := t.engine.lockers, cabins := t.engine.cabins,
                                                   lastGranted := .port p },
                         field := { s.field with modules := t.field.modules }, undo := unheld }) ∧
        (s.configured q.addr = true → q.configured = false →
          ((∃ n ∈ moduleLockers q.addr, (s.locker n).moving = true) → refusal .lockerBusy) ∧
          ((∀ n ∈ moduleLockers q.addr, (s.locker n).moving = false) →
            ((∃ n ∈ moduleLockers q.addr, (s.locker n).holder ≠ none) ∨
                (∃ c ∈ moduleCabins q.addr, (s.cabin c).occupant ≠ none) → refusal .holdsLocker) ∧
            ((∀ n ∈ moduleLockers q.addr, (s.locker n).holder = none) →
              (∀ c ∈ moduleCabins q.addr, (s.cabin c).occupant = none) →
                let mine := s.field.queue.filter fun c => c.addr == q.addr
                let was := s.module q.addr
                ∃ t : State, done t ∧ stored t ∧ positions t .unfitted .unfitted ∧
                  t.module q.addr =
                    { was with held := false, resync := false, coldRead := false,
                               positions := (t.module q.addr).positions } ∧
                  (∀ i, i < 8 →
                    tableGet (t.module q.addr).positions Position.blank i =
                      { tableGet was.positions Position.blank i with shown := none }) ∧
                  t = { s with settings := t.settings, undo := unheld,
                               engine := { s.engine with lockers := t.engine.lockers, cabins := t.engine.cabins,
                                                         lastGranted := .port p },
                               field := { s.field with
                                 modules := t.field.modules,
                                 queue := s.field.queue.filter fun c => c.addr != q.addr,
                                 handover := s.field.handover ++ mine.map fun c => .outcome c .failed,
                                 waitingHeld :=
                                   if s.field.handover = [] ∧ mine ≠ [] then false else s.field.waitingHeld } }))))

/-- HOLD_MODULE sets the held flag of a configured module and RELEASE_MODULE clears it, each keeping what it wrote over while it
is outstanding, an unconfigured module being refused WRONG_STATE and an address outside 1 to 144 OUT_OF_RANGE; a forced
locker or cabin holds its module, when hold_on_force is set, whatever becomes of those.  As an item becomes the waiting item, by joining an empty list or
by the leaving of the one before it, a PRESENT is marked exactly when its module is held then, a door event sets the door
and a handle event the latch in the module record, and nothing else changes; joining behind another item marks nothing.  A
PRESENT so marked is never granted: the field engine removes it and leaves RED pending at its position.  So a PRESENT that
follows a forcing DOOR_OPEN in one poll reply is refused at a module with hold_on_force (R119, R120, R129, R185). -/
def Obligations.ServiceHoldRefusesPresentations : Prop :=
  (
    ∀ (p : PortId) (r : Request) (a : Nat) (s : State), parseNumber 1 r.body = some a →
      (a = 0 ∨ 144 < a →
        (s.taking p .holdModule r → exec (.holdModule p) s = .next (s.answered p r .outOfRange [])) ∧
        (s.taking p .releaseModule r → exec (.releaseModule p) s = .next (s.answered p r .outOfRange []))) ∧
      (1 ≤ a → a ≤ 144 → s.taking p .holdModule r →
        (s.configured a = true →
          exec (.holdModule p) s =
            .next (({ s.setModule a { s.module a with held := true } with
                undo := { port := p, before := .held a (s.module a).held } :: s.undo } : State).answered p r .ok [])) ∧
        (s.configured a = false → exec (.holdModule p) s = .next (s.answered p r .wrongState []))) ∧
      (1 ≤ a → a ≤ 144 → s.taking p .releaseModule r →
        (s.configured a = true →
          exec (.releaseModule p) s =
            .next (({ s.setModule a { s.module a with held := false } with
                undo := { port := p, before := .held a (s.module a).held } :: s.undo } : State).answered p r .ok [])) ∧
        (s.configured a = false → exec (.releaseModule p) s = .next (s.answered p r .wrongState [])))) ∧
  (
    ∀ (a : Nat) (s : State),
      s.holdOnForce a =
        if (s.moduleSetting a).holdOnForce = true then
          { s.setModule a { s.module a with held := true } with
            undo := s.undo.filter fun u =>
              match u.before with
              | .held b _ => a != b
              | _ => true }
        else s) ∧
  (
    ∀ (addr pos serial : Nat) (rest : List HandItem) (s : State),
      s.field.handover = .event addr (.present pos serial) :: rest → s.field.waitingHeld = true →
        exec .present s = .next s ∧
        (s.running = true → exec .heldPresentRefused s = .next ((s.indicate addr pos .red).popHead))) ∧
  (
    let met (items : List HandItem) (s t : State) : Prop :=
      let at_ (addr pos : Nat) (f : Position → Position) : State :=
        s.setModule addr { s.module addr with
          positions := tableSet (s.module addr).positions pos
            (f (tableGet (s.module addr).positions Position.blank pos)) }
      match items with
      | .event addr (.present _ _) :: _ =>
        t = { s with field.handover := items, field.waitingHeld := (s.module addr).held }
      | .event addr (.doorOpen pos) :: _ =>
        t = { at_ addr pos fun q => { q with door := .opened } with
              field.handover := items, field.waitingHeld := false }
      | .event addr (.doorClosed pos) :: _ =>
        t = { at_ addr pos fun q => { q with door := .closed } with
              field.handover := items, field.waitingHeld := false }
      | .event addr (.handle pos) :: _ =>
        t = { at_ addr pos fun q => { q with latch := .free } with
              field.handover := items, field.waitingHeld := false }
      | _ => t = { s with field.handover := items, field.waitingHeld := false }
    ∀ (first : HandItem) (items : List HandItem) (s : State),
      (s.field.handover = [] → items ≠ [] → met items s (s.handOver items)) ∧
      (s.field.handover = first :: items → met items s s.popHead) ∧
      (s.field.handover ≠ [] → s.handOver items = { s with field.handover := s.field.handover ++ items })) ∧
  (
    ∀ (addr pos n pos' serial : Nat) (rest : List HandItem) (s : State), 1 ≤ addr → pos < 8 → placeAt addr pos = .locker n →
      n ≤ 1024 → s.field.handover = .event addr (.doorOpen pos) :: .event addr (.present pos' serial) :: rest →
        s.grantingItem (.event addr (.doorOpen pos)) → (s.locker n).state = .locked ∨ (s.locker n).state = .orphaned →
          (s.moduleSetting addr).holdOnForce = true →
            ∃ t : State, exec .doorOpen s = .next t ∧ t.field.handover = .event addr (.present pos' serial) :: rest ∧
              t.field.waitingHeld = true ∧ exec .present t = .next t ∧
              exec .heldPresentRefused t = .next ((t.indicate addr pos' .red).popHead))

/-- The day clock advances by one each second, wraps from 86,399 to 0 and stands still once retention is lost.  TRIM_CLOCK moves
it by at most 60 s either way, modulo a day, keeping the trim while it is outstanding, and nothing else.  SET_CLOCK with no visitor record sets it with clock_valid
and starts every running window and occupation afresh, a trim still outstanding having nothing left to undo; with one it is refused TABLE_NOT_EMPTY, and before that a value above
86,399 OUT_OF_RANGE (R148, R185, R186, R187, R188). -/
def Obligations.TheDayClockCountsAndIsSet : Prop :=
  (
    ∀ s : State, s.supply.clock < 86400 →
      (s.supply.retention = true →
        exec .dayClockTick s =
          .next { s with supply.clock := if s.supply.clock = 86399 then 0 else s.supply.clock + 1 }) ∧
      (s.supply.retention = false → exec .dayClockTick s = .next s)) ∧
  (
    ∀ (p : PortId) (r : Request) (d : Int) (s : State), s.taking p .trimClock r → parseTrim r.body = some d →
      ∃ m : Nat, m < 86400 ∧
        (∃ wraps : Int, (m : Int) = (s.supply.clock : Int) + (if d < -60 then -60 else if 60 < d then 60 else d) + wraps * 86400) ∧
        exec (.trimClock p) s =
          .next (({ s with supply.clock := m, undo := { port := p, before := .clock d } :: s.undo } : State).answered p r .ok
            (bytesOf 3 m))) ∧
  (∀ (p : PortId) (r : Request) (time : Nat) (s : State),
    s.granting p .setClock r → parseNumber 3 r.body = some time → 86399 < time →
      exec (.setClock p) s = .next ((s.granted (.port p)).answered p r .outOfRange [])) ∧
  (
    ∀ (p : PortId) (r : Request) (time : Nat) (s : State),
      s.granting p .setClock r → parseNumber 3 r.body = some time → time < 86400 →
        ((∃ k, s.holdsVisitor k = true) →
          exec (.setClock p) s = .next ((s.granted (.port p)).answered p r .tableNotEmpty [])) ∧
        ((∀ k, s.holdsVisitor k = false) →
          ∃ t : State, exec (.setClock p) s = .next (t.answered p r .ok (bytesOf 3 time)) ∧
            t.supply = { s.supply with clock := time, clockValid := true } ∧
            (∀ n, 1 ≤ n → n ≤ 1024 →
              t.locker n =
                if (s.locker n).state ∈ [.reserved, .released, .closing] then { s.locker n with since := time }
                else s.locker n) ∧
            (∀ c, 1 ≤ c → c ≤ 64 →
              t.cabin c =
                if (s.cabin c).state = .occupied then { s.cabin c with since := time, stage := 0 } else s.cabin c) ∧
            t = { s with supply := t.supply,
                         undo := s.undo.filter fun u =>
                           match u.before with
                           | .clock _ => false
                           | _ => true,
                         engine := { s.engine with lockers := t.engine.lockers, cabins := t.engine.cabins,
                                                   lastGranted := .port p } }))

/-- SAVE_SETTINGS takes a snapshot of the working settings and leaves the request without a reply while the write runs, or is
refused SAVE_BUSY; SAVE_COMPLETE leaves the store valid with the snapshot, or invalid, clears the save and answers OK or
STORE_FAULT.  That it does so while RESET is held too is the model's choice (assumption 26) (R194). -/
def Obligations.SaveWritesTheSnapshot : Prop :=
  ∀ (p : PortId) (r : Request) (s : State),
    (s.taking p .saveSettings r → r.body = [] →
      (s.supply.save ≠ none → exec (.saveSettings p) s = .next (s.answered p r .saveBusy [])) ∧
      (s.supply.save = none →
        exec (.saveSettings p) s =
          .next (({ s with supply.save := some { snapshot := s.settings, replyTo := some p } } : State).setPort p
            { s.port p with outstanding := some { r with taken := true } }))) ∧
    (∀ (v : Save) (ok : Bool), s.supply.save = some v →
      let ended : State := { s with supply.save := none, supply.store := if ok then some v.snapshot else none }
      (v.replyTo = none → exec (.saveComplete ok) s = .next ended) ∧
      (v.replyTo = some p → (s.port p).outstanding = some r →
        exec (.saveComplete ok) s =
          .next (ended.deliver p (replyTo r { code := if ok then .ok else .storeFault, data := [] }))))

/-! ### Presentations (R6, R42 to R47, R72, R73, R120, R153) -/

/-- A presentation of an unknown serial, of a REVOKED band, or of a serial that a stopping watch covers is answered RED with the
notice and the last_place its case gives, and no locker or cabin changes but for what the watches record.  An answer leaves
its indication pending at the position, in place of one still pending, and marks it renewed in an exchange with that
module; it is reported to the watches as PRESENTED and, when RED, as REFUSED after it (R6, R114, R122, R152, R153, R154). -/
def Obligations.LookupRefusesBeforeThePlaceRules : Prop :=
  (∀ (addr pos serial : Nat) (ind : Indication) (s : State),
    s.indicate addr pos ind =
      { s.setModule addr { s.module addr with
          positions := tableSet (s.module addr).positions pos
            { tableGet (s.module addr).positions Position.blank pos with shown := some ind } } with
        field.exchange := s.field.exchange.map fun x =>
          if x.addr = addr then { x with renewed := pos :: x.renewed } else x } ∧
    (1 ≤ addr → addr ≤ 144 → pos < 8 →
      (tableGet ((s.indicate addr pos ind).module addr).positions Position.blank pos).shown = some ind) ∧
    s.shown addr pos serial ind =
      (let told := (s.indicate addr pos ind).watchEvent (placeAt addr pos) .presented (some serial)
       State.popHead (match ind with
        | .red => told.watchEvent (placeAt addr pos) .refused (some serial)
        | _ => told))) ∧
  ∀ (addr pos serial : Nat) (s : State), s.grantingItem (.event addr (.present pos serial)) →
    let place := placeAt addr pos
    let g := s.granted .field
    (∀ c, s.findSerial serial = .error c →
      exec .present s = .next ((g.notify .unknownPresented (some place) (some serial)).shown addr pos serial .red)) ∧
    (∀ slot b, s.findSerial serial = .ok (slot, b) →
      (b.state = .revoked →
        exec .present s =
          .next (((g.seenAt slot b place).notify .revokedPresented (some place) (some serial)).shown
            addr pos serial .red)) ∧
      (b.state ≠ .revoked → s.stopped serial = true →
        exec .present s = .next ((g.seenAt slot b place).shown addr pos serial .red)))

/-- A presentation at a FREE locker is decided by the eight checks of R43 in their order; when all pass, the locker is bound to
the band or its leader and its LATCH is queued, and the reader shows GREEN. -/
def Obligations.FreeLockerPresentationIsCheckedInOrder : Prop :=
  ∀ (addr pos serial n slot : Nat) (b : Band) (s : State),
    s.grantingItem (.event addr (.present pos serial)) → placeAt addr pos = .locker n →
      s.findSerial serial = .ok (slot, b) → b.state ≠ .revoked → s.stopped serial = false →
        (s.locker n).state = .free →
          let seen := (s.granted .field).seenAt slot b (.locker n)
          let answers (ind : Indication) : Prop := exec .present s = .next (seen.shown addr pos serial ind)
          let holder := match b.role with
            | .member l => l
            | _ => slot
          let room := if b.role = .none then 1 else 2
          let fits := ∃ z, s.zoneOf n = some z ∧ b.rank ≤ (s.zone z).rank ∧
            ((s.zone z).groupOnly = false ∨ b.role ≠ .none)
          ((s.locker n).door = .opened → answers .amber) ∧
          ((s.locker n).door ≠ .opened →
            (s.supply.supply = .hold → answers .amber) ∧
            (s.supply.supply ≠ .hold →
              (b.state ≠ .active → answers .red) ∧
              (b.state = .active →
                (s.leaderRevoked b = true → answers .red) ∧
                (s.leaderRevoked b = false →
                  (room ≤ s.heldBy holder → answers (if b.role = .none then .amber else .red)) ∧
                  (s.heldBy holder < room →
                    (¬fits → answers .red) ∧
                    (fits →
                      (32 ≤ s.field.queue.length → answers .amber) ∧
                      (s.field.queue.length < 32 →
                        exec .present s =
                          .next (((((seen.bindLocker n holder).useZone n).setLocker n
                              { s.locker n with state := .latching, holder := some holder, origin := some .free,
                                                fresh := true, master := false }).queueCommand
                              ((n - 1) / 8 + 1) ((n - 1) % 8) .latch).shown addr pos serial .green))))))))

/-- A presentation at a locker in any other state, by the class of the band: the group latches, opens or relatches; a rank-0
staff band opens a LOCKED, FAULT or ORPHANED locker with MASTER_OPEN; every other answer is RED or AMBER without a change
(R44 to R47, Tables 3-4 and 3-5). -/
def Obligations.LockerPresentationByStateAndClass : Prop :=
  ∀ (addr pos serial n slot : Nat) (b : Band) (s : State),
    s.grantingItem (.event addr (.present pos serial)) → placeAt addr pos = .locker n →
      s.findSerial serial = .ok (slot, b) → b.state ≠ .revoked → s.stopped serial = false →
        let l := s.locker n
        let seen := (s.granted .field).seenAt slot b (.locker n)
        let answers (ind : Indication) : Prop := exec .present s = .next (seen.shown addr pos serial ind)
        let queued (m : Locker) (action : Action) : State :=
          (seen.setLocker n m).queueCommand ((n - 1) / 8 + 1) ((n - 1) % 8) action
        let room := s.field.queue.length < 32
        let group := ∃ h, l.holder = some h ∧
          (slot = h ∨ (b.role = .member h ∧ ∀ hb, s.band h = some hb → hb.state ≠ .revoked))
        let master := b.kind = .staff ∧ b.rank = 0
        (l.state = .latching ∨ l.state = .unlatching → answers .amber) ∧
        (l.state ∈ [.reserved, .released, .closing] →
          (group → l.state = .reserved → l.door = .opened → answers .amber) ∧
          (group → (l.state = .reserved → l.door ≠ .opened) → room →
            exec .present s =
              .next ((queued { l with state := .latching, origin := some l.state, fresh := false, master := false }
                .latch).shown addr pos serial .green)) ∧
          (group → (l.state = .reserved → l.door ≠ .opened) → ¬room → answers .amber) ∧
          (¬group → answers .red)) ∧
        (l.state = .locked →
          (group → room →
            exec .present s =
              .next ((queued { l with state := .unlatching, origin := some .locked, master := false,
                                      release := false } .unlatch).shown addr pos serial .green)) ∧
          (¬group → master → room →
            exec .present s =
              .next (((queued { l with state := .unlatching, origin := some .locked, master := true, release := false }
                .unlatch).notify .masterOpen (some (.locker n)) (some b.serial)).shown addr pos serial .green)) ∧
          (group ∨ master → ¬room → answers .amber) ∧
          (¬group → ¬master → answers .red)) ∧
        (l.state ∈ [.opened, .forced] → (group → answers .amber) ∧ (¬group → answers .red)) ∧
        (l.state = .fault ∨ (l.state = .orphaned ∧ l.holder = none) →
          (group → answers .amber) ∧
          (¬group → master → room →
            exec .present s =
              .next (((queued { l with state := .unlatching, origin := some l.state, master := true,
                                       release := l.holder.isNone } .unlatch).notify .masterOpen
                (some (.locker n)) (some b.serial)).shown addr pos serial .green)) ∧
          (¬group → master → ¬room → answers .amber) ∧
          (¬group → ¬master → answers .red)) ∧
        (l.state ∈ [.outOfService, .unfitted] → answers .red)

/-- A presentation at a cabin: at a VACANT one with no command out the checks of R72 in their order, the last of which occupies
it and queues its LATCH; at an OCCUPIED one the occupant's presentation queues the UNLATCH and any other is RED; AMBER while
a command is out; RED out of service (R72, R73, Table 4-4). -/
def Obligations.CabinPresentationIsDecided : Prop :=
  ∀ (addr pos serial c slot : Nat) (b : Band) (s : State),
    s.grantingItem (.event addr (.present pos serial)) → placeAt addr pos = .cabin c → 1 ≤ c → c ≤ 64 →
      s.findSerial serial = .ok (slot, b) → b.state ≠ .revoked → s.stopped serial = false →
        let k := s.cabin c
        let g := s.granted .field
        let answers (ind : Indication) : Prop :=
          exec .present s = .next ((g.seenAt slot b (.cabin c)).shown addr pos serial ind)
        let fits := match s.cabinKind c with
          | .single => True
          | .family => b.role ≠ .none
          | .staff => b.rank ≤ 1
        (k.state = .vacant → k.command = none →
          (k.door = .opened → answers .amber) ∧
          (k.door ≠ .opened →
            ((∃ since, b.state = .cleared since) → answers .red) ∧
            ((∀ since, b.state ≠ .cleared since) →
              (b.cabin ≠ none → answers .red) ∧
              (b.cabin = none →
                (¬fits → answers .red) ∧
                (fits →
                  (32 ≤ s.field.queue.length → answers .amber) ∧
                  (s.field.queue.length < 32 →
                    exec .present s =
                      .next (((((g.setBand slot
                          (some { b with lastPlace := some { place := .cabin c, time := s.now }, cabin := some c })).setCabin
                          c { k with state := .latching, occupant := some slot, command := some .latch }).queueCommand
                          (128 + (c - 1) / 4 + 1) ((c - 1) % 4) .latch)).shown addr pos serial .green))))))) ∧
        (k.state = .occupied →
          (k.occupant = some slot → s.field.queue.length < 32 →
            exec .present s =
              .next ((((g.seenAt slot b (.cabin c)).setCabin c
                  { k with state := .unlatching, command := some .unlatch }).queueCommand
                  (128 + (c - 1) / 4 + 1) ((c - 1) % 4) .unlatch).shown addr pos serial .green)) ∧
          (k.occupant = some slot → 32 ≤ s.field.queue.length → answers .amber) ∧
          (k.occupant ≠ some slot → answers .red)) ∧
        (k.state = .latching ∨ k.state = .unlatching ∨ (k.state = .vacant ∧ k.command ≠ none) → answers .amber) ∧
        (k.state = .outOfService ∨ k.state = .unfitted → answers .red)

/-! ### Door, handle and command outcomes (R48 to R54, R74 to R78) -/

/-- DOOR_OPEN at a locker opens a RELEASED or CLOSING one and forces a LOCKED or ORPHANED one with the alarm; DOOR_CLOSED starts
the relock window of an OPEN one; HANDLE empties an OCCUPIED, LATCHING or UNLATCHING cabin without a notice, its command
kept; DOOR_OPEN at an OCCUPIED cabin empties it with the alarm CABIN_FORCED; in every other state only the field changes
(R53, R54, R77, R78, R129). -/
def Obligations.DoorAndHandleEvents : Prop :=
  (
    ∀ (addr pos n : Nat) (s : State), placeAt addr pos = .locker n → 1 ≤ n → n ≤ 1024 →
      let l := s.locker n
      let g := s.granted .field
      let entered (st : LockerState) (d : Door) : Locker :=
        { l with state := st, since := s.now, door := d, origin := none, fresh := false, release := false }
      (s.grantingItem (.event addr (.doorOpen pos)) →
        let next (t : State) : Prop :=
          exec .doorOpen s = .next ((t.watchEvent (.locker n) .doorOpened none).popHead)
        (l.state = .released ∨ l.state = .closing → next (g.setLocker n (entered .opened .opened))) ∧
        (l.state = .locked ∨ l.state = .orphaned →
          next (((g.setLocker n (entered .forced .opened)).notify .lockerForced (some (.locker n))
            (s.holderSerial n)).holdOnForce ((n - 1) / 8 + 1))) ∧
        (l.state ∉ [.released, .closing, .locked, .orphaned] → next (g.setLocker n { l with door := .opened }))) ∧
      (s.grantingItem (.event addr (.doorClosed pos)) →
        (l.state = .opened → exec .doorClosed s = .next (g.setLocker n (entered .closing .closed)).popHead) ∧
        (l.state ≠ .opened → exec .doorClosed s = .next (g.setLocker n { l with door := .closed }).popHead))) ∧
  (
    ∀ (addr pos c : Nat) (s : State), placeAt addr pos = .cabin c → 1 ≤ c → c ≤ 64 →
      let k := s.cabin c
      let g := s.granted .field
      (s.grantingItem (.event addr (.handle pos)) →
        (k.state ∈ [.occupied, .latching, .unlatching] →
          exec .handle s =
            .next ((g.clearOccupant c).setCabin c
              { k with latch := .free, state := .vacant, occupant := none, since := s.now, stage := 0 }).popHead) ∧
        (k.state ∉ [.occupied, .latching, .unlatching] →
          exec .handle s = .next (g.setCabin c { k with latch := .free }).popHead)) ∧
      (s.grantingItem (.event addr (.doorOpen pos)) →
        let next (t : State) : Prop := exec .doorOpen s = .next ((t.watchEvent (.cabin c) .doorOpened none).popHead)
        (k.state = .occupied →
          next ((((g.clearOccupant c).setCabin c
              { k with door := .opened, state := .vacant, occupant := none, since := s.now, stage := 0 }).notify
              .cabinForced (some (.cabin c)) (s.occupantSerial c)).holdOnForce (128 + (c - 1) / 4 + 1))) ∧
        (k.state ≠ .occupied → next (g.setCabin c { k with door := .opened }))) ∧
      (s.grantingItem (.event addr (.doorClosed pos)) →
        exec .doorClosed s = .next (g.setCabin c { k with door := .closed }).popHead))

/-- The outcome of a LATCH at a LATCHING locker: LOCKED, or ORPHANED without a holder; a fresh binding freed, RESERVED with its
since, FORCED or OPEN where the door was open; FAULT with LOCKER_FAULT where it failed.  The outcome of an UNLATCH at an
UNLATCHING one: freed, or OUT_OF_SERVICE again, with release; OPEN or RELEASED by its door without; where it failed
LOCKER_FAULT and LOCKED, OUT_OF_SERVICE, ORPHANED, or FORCED with the alarm (R48 to R52). -/
def Obligations.CommandOutcomesAtALocker : Prop :=
  (
    ∀ (cmd : Command) (n : Nat) (s : State), cmd.action = .latch → cmd.target = .locker n → 1 ≤ n → n ≤ 1024 →
      (s.locker n).state = .latching →
        let l := s.locker n
        let g := s.granted .field
        let entered (st : LockerState) (d : Door) (latch : Latch) : Locker :=
          { l with state := st, since := s.now, door := d, latch := latch, origin := none, fresh := false, release := false }
        (s.grantingItem (.outcome cmd .done) →
          exec .latchDone s =
            .next (((g.setLocker n
              { entered (if l.holder = none then .orphaned else .locked) .closed .engaged with master := false }).watchEvent
              (.locker n) .latched none).popHead)) ∧
        (s.grantingItem (.outcome cmd .doorOpen) →
          (l.fresh = true →
            exec .latchDoorOpen s =
              .next ((g.unbindLocker n).setLocker n
                { entered .free .opened .free with holder := none, master := false }).popHead) ∧
          (l.fresh = false → l.origin = some .reserved →
            exec .latchDoorOpen s =
              .next (g.setLocker n { entered .reserved .opened .free with since := l.since }).popHead) ∧
          (l.fresh = false → l.origin ≠ some .reserved →
            exec .latchDoorOpen s =
              .next (g.setLocker n
                (entered (if l.origin = some .forced then .forced else .opened) .opened .free)).popHead)) ∧
        (s.grantingItem (.outcome cmd .jammed) →
          exec .latchJammed s =
            .next ((g.setLocker n (entered .fault l.door .unknown)).notify .lockerFault (some (.locker n))
              (s.holderSerial n)).popHead) ∧
        (s.grantingItem (.outcome cmd .failed) →
          exec .latchFailed s =
            .next ((g.setLocker n (entered .fault l.door .unknown)).notify .lockerFault (some (.locker n))
              (s.holderSerial n)).popHead)) ∧
  (
    ∀ (cmd : Command) (n : Nat) (s : State), cmd.action = .unlatch → cmd.target = .locker n → 1 ≤ n → n ≤ 1024 →
      (s.locker n).state = .unlatching →
        let l := s.locker n
        let g := s.granted .field
        let entered (st : LockerState) (latch : Latch) : Locker :=
          { l with state := st, since := s.now, latch := latch, origin := none, fresh := false, release := false }
        let returns := if l.holder ≠ none then LockerState.locked
          else if l.origin = some .outOfService then .outOfService else .orphaned
        let failed (latch : Latch) : State :=
          if l.door = .opened then
            (((g.setLocker n { entered .forced latch with master := false }).notify .lockerFault (some (.locker n))
              (s.holderSerial n)).notify .lockerForced (some (.locker n)) (s.holderSerial n)).holdOnForce ((n - 1) / 8 + 1)
          else
            (g.setLocker n { entered returns latch with master := false }).notify .lockerFault (some (.locker n))
              (s.holderSerial n)
        (s.grantingItem (.outcome cmd .done) →
          let next (t : State) : Prop := exec .unlatchDone s = .next ((t.watchEvent (.locker n) .unlatched none).popHead)
          (l.release = true →
            next ((g.unbindLocker n).setLocker n
              { entered (if l.origin = some .outOfService then .outOfService else .free) .free with
                holder := none, master := false })) ∧
          (l.release = false → next (g.setLocker n (entered (if l.door = .opened then .opened else .released) .free)))) ∧
        (s.grantingItem (.outcome cmd .jammed) → exec .unlatchJammed s = .next (failed .engaged).popHead) ∧
        (s.grantingItem (.outcome cmd .failed) → exec .unlatchFailed s = .next (failed l.latch).popHead))

/-- Command outcomes at a cabin: a LATCH completes the occupation or empties the cabin, with LOCKER_FAULT when it failed; an
UNLATCH empties it or, when it failed with the door not open, returns it to OCCUPIED with since and stage kept; an outcome
that finds the cabin VACANT clears its command and frees a latch that engaged; one that finds it UNFITTED clears its command
and sets the fields alone (assumption 11 for the LOCKER_FAULT left out there) (R74, R75, R76). -/
def Obligations.CommandOutcomesAtACabin : Prop :=
  ∀ (cmd : Command) (c : Nat) (s : State), cmd.target = .cabin c → 1 ≤ c → c ≤ 64 →
    let k := s.cabin c
    let g := s.granted .field
    let emptied (d : Door) (l : Latch) : State :=
      (g.clearOccupant c).setCabin c
        { k with state := .vacant, occupant := none, since := s.now, stage := 0, command := none, door := d, latch := l }
    let fault (t : State) (serial : Option Nat) : State := t.notify .lockerFault (some (.cabin c)) serial
    (cmd.action = .latch → k.state = .latching →
      (s.grantingItem (.outcome cmd .done) →
        exec .latchDone s =
          .next (((g.setCabin c { k with state := .occupied, since := s.now, stage := 0, command := none, door := .closed,
                                         latch := .engaged }).watchEvent (.cabin c) .latched none).popHead)) ∧
      (s.grantingItem (.outcome cmd .doorOpen) → exec .latchDoorOpen s = .next (emptied .opened .free).popHead) ∧
      (s.grantingItem (.outcome cmd .jammed) →
        exec .latchJammed s = .next (fault (emptied k.door .unknown) (s.occupantSerial c)).popHead) ∧
      (s.grantingItem (.outcome cmd .failed) →
        exec .latchFailed s = .next (fault (emptied k.door .unknown) (s.occupantSerial c)).popHead)) ∧
    (cmd.action = .latch → k.state = .vacant →
      (s.grantingItem (.outcome cmd .done) →
        let late : Cabin := { k with command := none, door := .closed, latch := .engaged }
        exec .latchDone s =
          .next (((if 32 ≤ s.field.queue.length then fault (g.setCabin c late) none
            else (g.setCabin c { late with state := .unlatching, command := some .unlatch }).queueCommand
              (128 + (c - 1) / 4 + 1) ((c - 1) % 4) .unlatch).watchEvent (.cabin c) .latched none).popHead)) ∧
      (s.grantingItem (.outcome cmd .doorOpen) →
        exec .latchDoorOpen s =
          .next (g.setCabin c { k with command := none, door := .opened, latch := .free }).popHead) ∧
      (s.grantingItem (.outcome cmd .jammed) →
        exec .latchJammed s = .next (fault (g.setCabin c { k with command := none, latch := .unknown }) none).popHead) ∧
      (s.grantingItem (.outcome cmd .failed) →
        exec .latchFailed s =
          .next (fault (g.setCabin c { k with command := none, latch := .unknown }) none).popHead)) ∧
    (cmd.action = .unlatch → k.state = .unlatching →
      let failed (l : Latch) : State :=
        if k.door ≠ .opened ∧ k.occupant ≠ none then
          fault (g.setCabin c { k with state := .occupied, command := none, latch := l }) (s.occupantSerial c)
        else fault (emptied k.door l) (s.occupantSerial c)
      (s.grantingItem (.outcome cmd .done) →
        exec .unlatchDone s = .next (((emptied k.door .free).watchEvent (.cabin c) .unlatched none).popHead)) ∧
      (s.grantingItem (.outcome cmd .jammed) → exec .unlatchJammed s = .next (failed .engaged).popHead) ∧
      (s.grantingItem (.outcome cmd .failed) → exec .unlatchFailed s = .next (failed k.latch).popHead)) ∧
    (cmd.action = .unlatch → k.state = .vacant ∨ k.state = .unfitted →
      let late (l : Latch) : State := g.setCabin c { k with command := none, latch := l }
      (s.grantingItem (.outcome cmd .done) →
        exec .unlatchDone s = .next (((late .free).watchEvent (.cabin c) .unlatched none).popHead)) ∧
      (s.grantingItem (.outcome cmd .jammed) → exec .unlatchJammed s = .next (late .engaged).popHead) ∧
      (s.grantingItem (.outcome cmd .failed) → exec .unlatchFailed s = .next (late k.latch).popHead)) ∧
    (cmd.action = .latch → k.state = .unfitted →
      let late (d : Door) (l : Latch) : State := g.setCabin c { k with command := none, door := d, latch := l }
      (s.grantingItem (.outcome cmd .done) →
        exec .latchDone s = .next (((late .closed .engaged).watchEvent (.cabin c) .latched none).popHead)) ∧
      (s.grantingItem (.outcome cmd .doorOpen) → exec .latchDoorOpen s = .next (late .opened .free).popHead) ∧
      (s.grantingItem (.outcome cmd .jammed) → exec .latchJammed s = .next (late k.door .unknown).popHead) ∧
      (s.grantingItem (.outcome cmd .failed) → exec .latchFailed s = .next (late k.door .unknown).popHead))

/-! ### Reconciliation after a READ_STATE (R131 to R134, R83) -/

/-- A READ_STATE report granted: the positions are brought into agreement in order, each locker by State.reconcileLocker with
the module's cold read flag and the mark whether a command for it waits as the list and the queue stand at the grant, each
cabin by State.reconcileCabin; then the module's resync pending and cold read are cleared and the report leaves the
hand-over list. Every position's door and latch fields are the reported ones, no locker or cabin of another module changes,
and the serial map, the zones' used flags, the watches, the settings, the supply, the sweep and the ports are as they were
(R131). -/
def Obligations.ReportBringsAModuleIntoAgreement : Prop :=
  (
    ∀ (addr : Nat) (readings : List Reading) (cold : Bool) (s : State), s.grantingItem (.report addr readings cold) →
      let one (u : State) (e : Reading × Nat) : State :=
        match placeAt addr e.2 with
        | .locker n => u.reconcileLocker n e.1 cold (s.commandWaits addr e.2)
        | .cabin c => u.reconcileCabin c e.1
        | .station _ => u
      let agreed := readings.zipIdx.foldl one (s.granted .field)
      (∀ pos, s.commandWaits addr pos = true ↔
        (∃ cmd ∈ s.field.queue, cmd.addr = addr ∧ cmd.pos = pos) ∨
          ∃ cmd result, HandItem.outcome cmd result ∈ s.field.handover ∧ cmd.addr = addr ∧ cmd.pos = pos) ∧
      exec .readStateReport s =
        .next (agreed.setModule addr { agreed.module addr with resync := false, coldRead := false }).popHead) ∧
  (
    ∀ (addr : Nat) (readings : List Reading) (cold : Bool) (s : State),
      s.grantingItem (.report addr readings cold) → 1 ≤ addr → addr ≤ 144 → readings.length = positionCount addr →
        ∃ t : State, exec .readStateReport s = .next t ∧
          (t.module addr).resync = false ∧ (t.module addr).coldRead = false ∧
          (∃ failed, t.field.handover = s.field.handover.drop 1 ++ failed) ∧
          (∀ pos r n, readings[pos]? = some r → placeAt addr pos = .locker n →
            (t.locker n).door = r.door ∧ (t.locker n).latch = r.latch) ∧
          (∀ pos r c, readings[pos]? = some r → placeAt addr pos = .cabin c →
            (t.cabin c).door = r.door ∧ (t.cabin c).latch = r.latch) ∧
          (∀ n, (∀ pos, pos < readings.length → placeAt addr pos ≠ .locker n) → t.locker n = s.locker n) ∧
          (∀ c, (∀ pos, pos < readings.length → placeAt addr pos ≠ .cabin c) → t.cabin c = s.cabin c) ∧
          t.engine.serialMap = s.engine.serialMap ∧ t.engine.zoneUsed = s.engine.zoneUsed ∧ t.watches = s.watches ∧
          t.settings = s.settings ∧ t.supply = s.supply ∧ t.sweep = s.sweep ∧ t.ports = s.ports)

/-- A locker that is neither LATCHING nor UNLATCHING is brought into agreement with its reading as the rows of Table 6-3 give;
one that is takes its fields alone while its command is on its way, and with its command lost is settled by the reported
latch as the rows of Table 6-4 give; a correction that meets a full queue leaves LOCKER_FAULT (R131 to R134). -/
def Obligations.LockersAgreeWithTheirReading : Prop :=
  (
    ∀ (n : Nat) (r : Reading) (cold marked : Bool) (s : State), 1 ≤ n → n ≤ 1024 →
      let l := s.locker n
      let result := s.reconcileLocker n r cold marked
      let read : Locker := { l with door := r.door, latch := r.latch }
      let entered (st : LockerState) : Locker :=
        { read with state := st, since := s.now, origin := none, fresh := false, release := false,
                    master := l.master && !(st == .locked || st == .free || st == .orphaned) }
      let fault : State := (s.setLocker n (entered .fault)).notify .lockerFault (some (.locker n)) (s.holderSerial n)
      let forced : State :=
        ((s.setLocker n (entered .forced)).notify .lockerForced (some (.locker n)) (s.holderSerial n)).holdOnForce
          ((n - 1) / 8 + 1)
      let freeing : State :=
        (s.setLocker n { read with state := .unlatching, origin := some l.state, master := false,
                                   release := true }).queueCommand ((n - 1) / 8 + 1) ((n - 1) % 8) .unlatch
      (l.state = .locked →
        (r.engaged = true → r.doorOpen = false → result = s.setLocker n read) ∧
        (r.engaged = true → r.doorOpen = true → result = forced) ∧ (r.engaged = false → result = fault)) ∧
      (l.state = .orphaned →
        (r.engaged = true → r.doorOpen = false → result = s.setLocker n read) ∧
        (r.engaged = true → r.doorOpen = true → result = forced) ∧
        (r.engaged = false → result = s.setLocker n (entered .free))) ∧
      (l.state = .free →
        (r.engaged = true → cold = true →
          result = (s.setLocker n (entered .orphaned)).notify .orphanFound (some (.locker n)) none) ∧
        (r.engaged = true → cold = false → s.field.queue.length < 32 → result = freeing) ∧
        (r.engaged = true → cold = false → 32 ≤ s.field.queue.length →
          result = (s.setLocker n (entered .orphaned)).notify .lockerFault (some (.locker n)) none) ∧
        (r.engaged = false → result = s.setLocker n read)) ∧
      (l.state = .outOfService →
        (r.engaged = true → s.field.queue.length < 32 → result = freeing) ∧
        (r.engaged = true → 32 ≤ s.field.queue.length →
          result = (s.setLocker n read).notify .lockerFault (some (.locker n)) none) ∧
        (r.engaged = false → result = s.setLocker n read)) ∧
      (l.state ∈ [.reserved, .released, .opened, .closing] →
        (r.engaged = true → r.doorOpen = false → result = s.setLocker n (entered .locked)) ∧
        (r.engaged = true → r.doorOpen = true → result = fault) ∧
        (r.engaged = false →
          result = s.setLocker n
            (match l.state, r.doorOpen with
              | .released, true | .closing, true => entered .opened
              | .opened, false => entered .closing
              | _, _ => read))) ∧
      (l.state ∈ [.fault, .forced, .unfitted] → result = s.setLocker n read)) ∧
  (
    ∀ (n : Nat) (r : Reading) (cold : Bool) (s : State), 1 ≤ n → n ≤ 1024 →
      let l := s.locker n
      let result (marked : Bool) := s.reconcileLocker n r cold marked
      let read : Locker := { l with door := r.door, latch := r.latch }
      let entered (st : LockerState) (master : Bool) : Locker :=
        { read with state := st, since := s.now, origin := none, fresh := false, release := false, master := master }
      let stands := if r.doorOpen then LockerState.opened else .released
      (l.state = .latching ∨ l.state = .unlatching → result true = s.setLocker n read) ∧
      (l.state = .latching → l.master = false →
        (r.engaged = true → l.holder ≠ none → result false = s.setLocker n (entered .locked false)) ∧
        (r.engaged = true → l.holder = none → result false = s.setLocker n (entered .orphaned false)) ∧
        (r.engaged = false → l.origin = some .reserved →
          result false = s.setLocker n { entered .reserved false with since := l.since }) ∧
        (r.engaged = false → l.origin ≠ some .reserved → l.holder = none →
          result false = s.setLocker n (entered .free false)) ∧
        (r.engaged = false → l.origin ≠ some .reserved → l.holder ≠ none →
          result false = s.setLocker n (entered stands false))) ∧
      (l.state = .unlatching →
        (l.release = false → r.engaged = true → l.holder ≠ none →
          result false = s.setLocker n (entered .locked false)) ∧
        (l.release = false → r.engaged = true → l.holder = none →
          result false = s.setLocker n (entered .orphaned false)) ∧
        (l.release = false → r.engaged = false → l.holder ≠ none →
          result false = s.setLocker n (entered stands l.master)) ∧
        (l.release = true → r.engaged = true → s.field.queue.length < 32 →
          result false = (s.setLocker n read).queueCommand ((n - 1) / 8 + 1) ((n - 1) % 8) .unlatch) ∧
        (l.release = true → r.engaged = true → 32 ≤ s.field.queue.length → l.origin ≠ some .outOfService →
          result false = (s.setLocker n (entered .orphaned false)).notify .lockerFault (some (.locker n)) none) ∧
        (l.release = true → r.engaged = true → 32 ≤ s.field.queue.length → l.origin = some .outOfService →
          result false =
            (s.setLocker n (entered .outOfService l.master)).notify .lockerFault (some (.locker n)) none) ∧
        (l.release = true → r.engaged = false → l.holder = none →
          result false = s.setLocker n (entered (if l.origin = some .outOfService then .outOfService else .free) false))))

/-- A cabin is brought into agreement with its reading as the rows of Table 4-5 give (R83). -/
def Obligations.CabinAgreesByTheTable : Prop :=
  ∀ (c : Nat) (r : Reading) (s : State), 1 ≤ c → c ≤ 64 →
    let k := s.cabin c
    let result := s.reconcileCabin c r
    let read : Cabin := { k with door := r.door, latch := r.latch }
    let emptied : State :=
      (s.clearOccupant c).setCabin c { read with state := .vacant, occupant := none, since := s.now, stage := 0 }
    let freeing : State :=
      (s.setCabin c { read with state := .unlatching, command := some .unlatch }).queueCommand
        (128 + (c - 1) / 4 + 1) ((c - 1) % 4) .unlatch
    (k.state = .occupied →
      (r.engaged = false →
        result = emptied.notify .cabinReleasedByPower (some (.cabin c)) (s.occupantSerial c)) ∧
      (r.engaged = true → r.doorOpen = true →
        result = (emptied.notify .cabinForced (some (.cabin c)) (s.occupantSerial c)).holdOnForce
          (128 + (c - 1) / 4 + 1)) ∧
      (r.engaged = true → r.doorOpen = false → result = s.setCabin c read)) ∧
    (k.state = .latching → k.command = none →
      (r.engaged = true → result = s.setCabin c { read with state := .occupied, since := s.now, stage := 0 }) ∧
      (r.engaged = false → result = emptied)) ∧
    (k.state = .unlatching → k.command = none →
      (r.engaged = true → k.occupant ≠ none → result = s.setCabin c { read with state := .occupied }) ∧
      (r.engaged = true → k.occupant = none → s.field.queue.length < 32 → result = freeing) ∧
      (r.engaged = true → k.occupant = none → 32 ≤ s.field.queue.length →
        result = emptied.notify .lockerFault (some (.cabin c)) none) ∧
      (r.engaged = false → result = emptied)) ∧
    (k.state = .vacant → k.command = none →
      (r.engaged = true → s.field.queue.length < 32 → result = freeing) ∧
      (r.engaged = true → 32 ≤ s.field.queue.length →
        result = (s.setCabin c read).notify .lockerFault (some (.cabin c)) none) ∧
      (r.engaged = false → result = s.setCabin c read)) ∧
    (k.state ∈ [.latching, .unlatching, .vacant] → k.command ≠ none → result = s.setCabin c read) ∧
    (k.state ∈ [.outOfService, .unfitted] → result = s.setCabin c read)

/-! ### The sweep (chapter 7) -/

/-- A step of the sweep acts on the record at its index, then the index advances and the remaining count falls by one; at the
end of a round both are reloaded.  A step that finds a RELEASED locker past its open window, or a CLOSING one with master
past its relock window, queues a LATCH unless the queue is full; one that finds a CLOSING locker without master frees it;
one that finds a RESERVED locker past its reservation window frees it with RESERVATION_LAPSED; a window that has not
expired leaves the locker.  A step that the arbiter may not grant yet waits, and changes nothing else.  That the row of a
case is the whole step, index and count included, is assumption 3 (R55 to R58, R138 to R140). -/
def Obligations.SweepStepsAndExpiresLockerWindows : Prop :=
  (
    ∀ s : State,
      (s.mayGrant .sweep = true →
        let acted := (s.granted .sweep).sweepAct
        exec .sweepStep s =
            .next { acted with sweep :=
              if 1 < s.sweep.remaining then
                { index := s.sweep.index + 1, remaining := s.sweep.remaining - 1, waiting := false }
              else { index := 1, remaining := 3135, waiting := false } } ∧
          (s.sweep.remaining = 1 → exec .sweepRoundComplete s = exec .sweepStep s)) ∧
      (s.running = true → s.mayGrant .sweep = false →
        exec .sweepStep s = .next { s with sweep := { s.sweep with waiting := true } }) ∧
      (s.running = false → exec .sweepStep s = .next s)) ∧
  (
    ∀ (n : Nat) (s : State), s.mayGrant .sweep = true → s.sweep.index = n → 1 ≤ n → n ≤ 1024 →
      let l := s.locker n
      let g := s.granted .sweep
      let age := (s.now + 86400 - l.since) % 86400
      let freed : Locker := { l with state := .free, holder := none, since := s.now, origin := none, fresh := false,
                                     master := false, release := false }
      let step (c : Instr) (t : State) : Prop := exec c s = .next { t with sweep := State.advance s.sweep }
      let relatched : State :=
        if 32 ≤ s.field.queue.length then g
        else (g.setLocker n { l with state := .latching, origin := some l.state, fresh := false, master := false }).queueCommand
          ((n - 1) / 8 + 1) ((n - 1) % 8) .latch
      (l.state = .released → s.settings.windows.opening ≤ age →
        step .openWindowExpiry relatched ∧ step .sweepStep relatched) ∧
      (l.state = .closing → s.settings.windows.relock ≤ age →
        (l.master = true → step .relockWindowExpiry relatched ∧ step .sweepStep relatched) ∧
        (l.master = false →
          step .relockWindowExpiry ((g.unbindLocker n).setLocker n freed) ∧
          step .sweepStep ((g.unbindLocker n).setLocker n freed))) ∧
      (l.state = .reserved → s.settings.windows.reservation ≤ age →
        let lapsed := ((g.unbindLocker n).setLocker n freed).notify .reservationLapsed (some (.locker n)) (s.holderSerial n)
        step .reservationLapsed lapsed ∧ step .sweepStep lapsed) ∧
      ((l.state = .released → age < s.settings.windows.opening) → (l.state = .closing → age < s.settings.windows.relock) →
        (l.state = .reserved → age < s.settings.windows.reservation) → step .sweepStep g))

/-- A step at an OCCUPIED cabin raises CABIN_OVERHOLD at the limit of its kind and CABIN_OVERHOLD_LONG at twice the limit, both
in one step when both are due.  A step at a CLEARED visitor past the leave window returns it to ACTIVE with LEAVE_LAPSED; a
visit of 43,200 s is marked once with LONG_STAY at its last_place.  That the row of a case is the whole step is assumption 3
(R79, R105, R143, R144, R145). -/
def Obligations.SweepReportsOverholdLeaveAndLongStay : Prop :=
  (
    ∀ (c : Nat) (s : State), s.mayGrant .sweep = true → s.sweep.index = 1024 + c → 1 ≤ c → c ≤ 64 →
      (s.cabin c).state = .occupied →
        let k := s.cabin c
        let g := s.granted .sweep
        let age := (s.now + 86400 - k.since) % 86400
        let limit := match s.cabinKind c with
          | .single => s.settings.windows.limitSingle
          | .family => s.settings.windows.limitFamily
          | .staff => s.settings.windows.limitStaff
        let serial := s.occupantSerial c
        let step (c : Instr) (t : State) : Prop := exec c s = .next { t with sweep := State.advance s.sweep }
        (k.stage = 0 → limit ≤ age → age < 2 * limit →
          let t := (g.setCabin c { k with stage := 1 }).notify .cabinOverhold (some (.cabin c)) serial
          step .cabinOverhold t ∧ step .sweepStep t) ∧
        (k.stage = 0 → limit ≤ age → 2 * limit ≤ age →
          let t := ((g.setCabin c { k with stage := 2 }).notify .cabinOverhold (some (.cabin c)) serial).notify
            .cabinOverholdLong (some (.cabin c)) serial
          step .cabinOverhold t ∧ step .sweepStep t) ∧
        (k.stage = 1 → 2 * limit ≤ age →
          let t := (g.setCabin c { k with stage := 2 }).notify .cabinOverholdLong (some (.cabin c)) serial
          step .cabinOverhold t ∧ step .sweepStep t) ∧
        ((k.stage = 0 → age < limit) → (k.stage = 1 → age < 2 * limit) → step .sweepStep g)) ∧
  (
    ∀ (slot : Nat) (b : Band) (a : Account) (s : State), s.mayGrant .sweep = true → s.sweep.index = 1088 + slot →
      s.band slot = some b → b.kind = .visitor a →
        let g := s.granted .sweep
        let stay := (s.now + 86400 - b.entry) % 86400
        let long := a.longStay = false ∧ 43200 ≤ stay
        let marked : BandKind := .visitor { a with longStay := true }
        let place := b.lastPlace.map fun l => l.place
        let step (c : Instr) (t : State) : Prop := exec c s = .next { t with sweep := State.advance s.sweep }
        (b.state = .active ∨ (∃ cents, b.state = .owing cents) →
          (long →
            let t := (g.setBand slot (some { b with kind := marked })).notify .longStay place (some b.serial)
            step .longStay t ∧ step .sweepStep t) ∧
          (¬long → step .sweepStep g)) ∧
        (∀ since, b.state = .cleared since →
          (s.settings.windows.leave ≤ (s.now + 86400 - since) % 86400 →
            (¬long →
              let t := (g.setBand slot (some { b with state := .active })).notify .leaveLapsed none (some b.serial)
              step .leaveLapsed t ∧ step .sweepStep t) ∧
            (long →
              let t := ((g.setBand slot (some { b with state := .active, kind := marked })).notify .leaveLapsed none
                (some b.serial)).notify .longStay place (some b.serial)
              step .leaveLapsed t ∧ step .longStay t ∧ step .sweepStep t)) ∧
          ((s.now + 86400 - since) % 86400 < s.settings.windows.leave → step .sweepStep g)) ∧
        (b.state = .revoked → step .sweepStep g))

/-! ### The field loop (chapter 6) -/

/-- An exchange may begin exactly when the part runs, none is in progress, the hand-over list is empty and the start delay has
passed; no turn begins otherwise, and the six rows that begin one then leave the state as it stood, as they do without a turn
(assumption 2).  A pending broadcast is sent ahead of any turn; else a poll turn and a command turn alternate where both could be taken.  The
poll walk goes to the first due address from the poll position in this cycle; past address 144 to the first due in the next,
whose count is one more modulo 16; and where that one has none due, every configured module being SILENT, to the first in
the next with count 0.  A configured ONLINE module is due in every cycle, a SILENT one only in a cycle with count 0, and the
walk finds an address whenever a module is configured (R117, R119, R123, R124, R136). -/
def Obligations.TurnsAlternateAlongTheWalk : Prop :=
  (
    ∀ s : State,
      (s.mayBegin = true ↔
        s.running = true ∧ s.field.exchange = none ∧ s.field.handover = [] ∧ s.field.startDelay = false) ∧
      (s.mayBegin = false → s.turn = none) ∧
      (s.turn = none →
        ∀ c ∈ [Instr.poll, .readState, .latch, .unlatch, .holdShow, .clearShow], exec c s = .next s)) ∧
  (
    ∀ s : State, s.mayBegin = true →
      (∀ b, s.field.broadcast = some b → s.turn = some (.broadcast b)) ∧
      (s.field.broadcast = none →
        (∀ cmd rest, s.field.lastTurn = .poll → s.field.queue = cmd :: rest → s.turn = some (.command cmd)) ∧
        (∀ a c, s.field.lastTurn = .command → s.nextDue = some (a, c) → s.turn = some (.poll a c)) ∧
        (∀ a c, s.field.lastTurn = .poll → s.field.queue = [] → s.nextDue = some (a, c) → s.turn = some (.poll a c)) ∧
        (∀ cmd rest, s.field.lastTurn = .command → s.field.queue = cmd :: rest → s.nextDue = none →
          s.turn = some (.command cmd)) ∧
        (s.field.queue = [] → s.nextDue = none → s.turn = none))) ∧
  (
    ∀ s : State,
      let due (cycle x : Nat) : Prop := s.configured x = true ∧ (s.isSilent x = false ∨ cycle = 0)
      let after := (s.field.cycle + 1) % 16
      (s.nextDue = none ↔ ∀ x, 1 ≤ x → x ≤ 144 → s.configured x = false) ∧
      ∀ a c, s.nextDue = some (a, c) →
        1 ≤ a ∧ a ≤ 144 ∧ due c a ∧
          ((c = s.field.cycle ∧ s.field.pollPosition ≤ a ∧ ∀ x, s.field.pollPosition ≤ x → 1 ≤ x → x < a → ¬due c x) ∨
            ((∀ x, s.field.pollPosition ≤ x → 1 ≤ x → x ≤ 144 → ¬due s.field.cycle x) ∧
              (∀ x, 1 ≤ x → x < a → ¬due c x) ∧
              (c = after ∨ (c = 0 ∧ ∀ x, 1 ≤ x → x ≤ 144 → ¬due after x)))))

/-- The exchanges that begin: a POLL or, with resync pending, a READ_STATE at the due address, which moves the walk on; a LATCH or
UNLATCH for the head of the command queue, which leaves it; a broadcast to address 0, after which none is pending and the
alternation stands.  A POLL carries the show flag, set in supply state HOLD, and the pending indication of each position the
module has.  A loop frame is address, function, data length, data and the CRC-8 of all before it (R113, R114, R116, R117, R123, R126,
R197, Table 13-8). -/
def Obligations.ExchangesBeginWithTheirFrame : Prop :=
  (∀ (addr function : Nat) (data : List Byte),
    let f := loopFrame addr function data
    f.length = data.length + 4 ∧ (f.drop 3).take data.length = data ∧
      holdsRows f
        [(0, 1, addr), (1, 1, function), (2, 1, data.length),
         (3 + data.length, 1, (crc8 (f.take (3 + data.length))).toNat)]) ∧
  ∀ s : State,
    (∀ a, 1 ≤ a → a ≤ 144 →
      ∃ codes : List Byte,
        s.pollFrame a = loopFrame a 1 ((if s.supply.supply = .hold then 1#8 else 0#8) :: codes) ∧
        codes.length = (if 129 ≤ a then 4 else 8) ∧
        ∀ i, i < codes.length →
          codes[i]? = some
            (match (tableGet (s.module a).positions Position.blank i).shown with
              | none => 0#8
              | some .green => 1#8
              | some .red => 2#8
              | some .amber => 3#8)) ∧
    (∀ a c, s.turn = some (.poll a c) →
      let begun (kind : ExchangeKind) (frame : List Byte) : State :=
        { s with field.exchange := some { kind := kind, addr := a, attempt := 1, frame := frame, renewed := [] },
                 field.pollPosition := if a = 144 then 1 else a + 1,
                 field.cycle := if a = 144 then (c + 1) % 16 else c,
                 field.lastTurn := .poll, field.lineFrame := frame }
      ((s.module a).resync = false → exec .poll s = .next (begun .poll (s.pollFrame a))) ∧
      ((s.module a).resync = true → exec .readState s = .next (begun .readState (loopFrame a 4 [])))) ∧
    (∀ cmd, s.turn = some (.command cmd) →
      let begun (frame : List Byte) : State :=
        { s with field.exchange := some { kind := .command cmd, addr := cmd.addr, attempt := 1, frame := frame,
                                          renewed := [] },
                 field.queue := s.field.queue.drop 1, field.lastTurn := .command, field.lineFrame := frame }
      (cmd.action = .latch → exec .latch s = .next (begun (loopFrame cmd.addr 2 (bytesOf 1 cmd.pos)))) ∧
      (cmd.action = .unlatch → exec .unlatch s = .next (begun (loopFrame cmd.addr 3 (bytesOf 1 cmd.pos))))) ∧
    (s.turn = some (.broadcast .hold) →
      exec .holdShow s = .next { s with field.broadcast := none, field.lineFrame := loopFrame 0 5 [] }) ∧
    (s.turn = some (.broadcast .clear) →
      exec .clearShow s = .next { s with field.broadcast := none, field.lineFrame := loopFrame 0 6 [] }) ∧
    (s.running = true → exec .fieldStartDelay s = .next { s with field.startDelay := false })

/-- A valid reply ends the exchange with failure count 0: a POLL's events join the end of the hand-over list in their order and its
indications are cleared but for those renewed meanwhile, a command's outcome and a READ_STATE's report join likewise and set
the module's fields.  The first
one from a SILENT module brings it ONLINE with resync pending and MODULE_BACK, the events of a POLL discarded
(R114, R115, R116, R119, R121, R128). -/
def Obligations.ValidReplyEndsTheExchangeWhole : Prop :=
  (
    ∀ (bytes : List Byte) (x : Exchange) (s : State), s.running = true → s.field.exchange = some x → 1 ≤ x.addr →
      x.addr ≤ 144 → (s.module x.addr).silent = false →
        (∀ lost events, checkReply x bytes = some (.poll lost events) →
          ∃ t : State, exec (.moduleReply bytes) s = .next t ∧ t.field.exchange = none ∧
            t.field.handover = s.field.handover ++ events.map (HandItem.event x.addr) ∧ (t.module x.addr).failures = 0 ∧
            (t.module x.addr).resync = ((s.module x.addr).resync || lost) ∧
            (∀ i, i < 8 → i ∉ x.renewed →
              (tableGet (t.module x.addr).positions Position.blank i).shown = none) ∧
            (∀ i ∈ x.renewed, (tableGet (t.module x.addr).positions Position.blank i).shown =
              (tableGet (s.module x.addr).positions Position.blank i).shown) ∧
            t.engine = s.engine ∧ t.settings = s.settings ∧ t.notices = s.notices) ∧
        (∀ cmd result, checkReply x bytes = some (.outcome cmd result) → cmd.addr = x.addr → cmd.pos < 8 →
          ∃ t : State, exec (.moduleReply bytes) s = .next t ∧ t.field.exchange = none ∧
            t.field.handover = s.field.handover ++ [.outcome cmd result] ∧ (t.module x.addr).failures = 0 ∧
            (let was := tableGet (s.module x.addr).positions Position.blank cmd.pos
             tableGet (t.module x.addr).positions Position.blank cmd.pos =
              { was with latch := outcomeLatch cmd.action result was.latch,
                         door := outcomeDoor cmd.action result was.door }) ∧
            t.engine = s.engine ∧ t.settings = s.settings ∧ t.notices = s.notices) ∧
        (∀ cells, checkReply x bytes = some (.readings cells) → cells.length ≤ 8 →
          ∃ t : State, exec (.moduleReply bytes) s = .next t ∧ t.field.exchange = none ∧
            t.field.handover = s.field.handover ++ [.report x.addr cells (s.module x.addr).coldRead] ∧
            (t.module x.addr).failures = 0 ∧
            (∀ i r, cells[i]? = some r →
              (tableGet (t.module x.addr).positions Position.blank i).latch = r.latch ∧
              (tableGet (t.module x.addr).positions Position.blank i).door = r.door) ∧
            t.engine = s.engine ∧ t.settings = s.settings ∧ t.notices = s.notices)) ∧
  (
    ∀ (bytes : List Byte) (x : Exchange) (content : ReplyContent) (s : State),
      s.running = true → s.field.exchange = some x → 1 ≤ x.addr → x.addr ≤ 144 → (s.module x.addr).silent = true →
        checkReply x bytes = some content →
          ∃ t : State, exec (.moduleReply bytes) s = .next t ∧
            (t.module x.addr).silent = false ∧ (t.module x.addr).failures = 0 ∧ (t.module x.addr).resync = true ∧
            t.notices = (s.notify .moduleBack (some (.station x.addr)) none).notices ∧
            (∀ lost events, content = .poll lost events → t.field.handover = s.field.handover))

/-- An attempt without a valid reply is sent again up to the third; then the exchange ends FAILED and adds 1 to the failure
count; a third FAILED exchange of an ONLINE module makes it SILENT with MODULE_SILENT, its pending indications cleared, and its
queue entries fail after the outcome of the exchange; before that the indications stay pending. That an invalid reply fails the attempt as it arrives, and not at the end of the 10 ms, is
assumption 9 (R113, R114, R115, R119, R127). -/
def Obligations.FailedAttemptsSilenceTheModule : Prop :=
  ∀ (x : Exchange) (s : State), s.running = true → s.field.exchange = some x → 1 ≤ x.addr → x.addr ≤ 144 →
    (x.attempt < 3 →
      exec .attemptTimeout s =
        .next { s with field.exchange := some { x with attempt := x.attempt + 1 }, field.lineFrame := x.frame }) ∧
    (∀ bytes, checkReply x bytes = none → exec (.moduleReply bytes) s = exec .attemptTimeout s) ∧
    (3 ≤ x.attempt →
      ∃ t : State, exec .attemptTimeout s = .next t ∧ t.field.exchange = none ∧
        (t.module x.addr).failures = min 3 ((s.module x.addr).failures + 1) ∧
        t.engine = s.engine ∧ t.settings = s.settings ∧
        (let outcome : List HandItem := match x.kind with
          | .command cmd => [.outcome cmd .failed]
          | _ => []
         (s.module x.addr).failures + 1 < 3 ∨ (s.module x.addr).silent = true →
          t.field.handover = s.field.handover ++ outcome ∧ t.field.queue = s.field.queue ∧ t.notices = s.notices ∧
            (t.module x.addr).silent = (s.module x.addr).silent ∧
            ∀ i, i < 8 → (tableGet (t.module x.addr).positions Position.blank i).shown =
              (tableGet (s.module x.addr).positions Position.blank i).shown) ∧
        (let outcome : List HandItem := match x.kind with
          | .command cmd => [.outcome cmd .failed]
          | _ => []
         3 ≤ (s.module x.addr).failures + 1 → (s.module x.addr).silent = false →
          (t.module x.addr).silent = true ∧
          (∀ i, i < 8 → (tableGet (t.module x.addr).positions Position.blank i).shown = none) ∧
          t.field.queue = s.field.queue.filter (fun c => c.addr != x.addr) ∧
          t.field.handover = s.field.handover ++ outcome ++
            (s.field.queue.filter fun c => c.addr == x.addr).map (fun c => .outcome c .failed) ∧
          t.notices = (s.notify .moduleSilent (some (.station x.addr)) none).notices))

/-! ### Supply, retention and the starts (chapter 11) -/

/-- VSUP below 20.5 V enters HOLD with POWER_WARN and HOLD_SHOW pending; the restore timer starts above 21.5 V, is stopped by a
dip (assumption 14), and in HOLD its end returns to NORMAL with CLEAR_SHOW pending; VSUP below 18.0 V stops the part: LPEN
goes, every port stands STOPPED, the field engine drops its exchange and list, a waiting sweep step is dropped, a save is
abandoned with the store invalid, and the tables stay as they stood (R135, R149, R184, R189, R190, R191, R194). -/
def Obligations.SupplyMovesThroughItsStates : Prop :=
  (
    ∀ s : State,
      (s.supply.supply = .normal →
        exec .supplyHold s =
          .next (({ s with supply.supply := .hold, supply.restoring := false, field.broadcast := some .hold } :
            State).notify .powerWarn none none)) ∧
      (s.supply.supply ≠ .normal →
        exec .restoreTimerStart s = .next { s with supply.restoring := true } ∧
        exec .restoreTimerRestarted s = .next { s with supply.restoring := false }) ∧
      (s.supply.supply = .hold → s.supply.restoring = true →
        exec .supplyNormal s =
          .next { s with supply.supply := .normal, supply.restoring := false, field.broadcast := some .clear })) ∧
  (
    ∀ s : State, s.supply.supply ≠ .down →
      ∃ t : State, exec .supplyDown s = .next t ∧
        t.supply = { s.supply with supply := .down, restoring := false, resetHeld := false, lpen := false,
                                   store := if s.supply.save = none then s.supply.store else none, save := none } ∧
        (∀ p, t.port p = { s.port p with link := .stopped, ready := [] }) ∧
        t.field = { s.field with exchange := none, handover := [], waitingHeld := false, broadcast := none } ∧
        t.notices =
          (if s.supply.supply = .normal then (s.notify .powerWarn none none).notices else s.notices) ∧
        t = { s with supply := t.supply, ports := t.ports, field := t.field, notices := t.notices,
                     sweep := { s.sweep with waiting := false } })

/-- RETENTION_LOST in DOWN clears the retention flag and touches nothing outside the backup cell's tables, which hold free values
from then on (assumption 5).  Whatever they hold, the return from DOWN with retention lost and an invalid store is the state
after reset, but for the queue of commands, the strapped rates and the numbering of free values: every table emptied, the
factory defaults, the clock at 0 and not valid, SETTINGS_LOST raised.  With a valid store it is that state but for the
stored settings, with lockers, cabins and modules fitted as they configure them, and no notice raised.  The part as power
is first applied stands in DOWN with retention clear, and its first start so ends in the state after reset (that
State.reset is that state is assumption 1) (R32, R36, R67, R85, R137, R172, R185, R189, R192, R193). -/
def Obligations.LostRetentionEndsInTheResetState : Prop :=
  (
    let on := State.powerOn
    on.supply.supply = .down ∧ on.supply.retention = false ∧ on.supply.lpen = false ∧ on.running = false ∧
      (∀ p, on.port p = { link := .stopped, outstanding := none, ready := [] }) ∧ on.notices.raised = [] ∧
      ∀ straps : Straps,
        on.runAll [.restoreTimerStart, .returnFromDown straps] =
          .next { State.reset with portRate := straps.portRate, field.loopRate := straps.loopRate, freeSeq := 1 }) ∧
  (
    ∀ s : State, s.supply.supply = .down →
      ∃ t : State, exec .retentionLost s = .next t ∧
        t.supply = { s.supply with retention := false, clock := t.supply.clock } ∧ t.supply.clock < 86400 ∧
        t.ports = s.ports ∧ t.pending = s.pending ∧ t.portRate = s.portRate ∧ t.sweep = s.sweep ∧
        t.undo = s.undo ∧
        t.field = { s.field with modules := t.field.modules } ∧ t.notices = { s.notices with alarms := t.notices.alarms }) ∧
  (
    ∀ (straps : Straps) (s : State), s.supply.supply = .down → s.supply.restoring = true →
      s.supply.retention = false → s.supply.store = none →
        exec (.returnFromDown straps) s =
          .next { State.reset with pending := s.pending, portRate := straps.portRate,
                                   field.loopRate := straps.loopRate, freeSeq := s.freeSeq }) ∧
  (
    ∀ (straps : Straps) (v : Settings) (s : State), s.supply.supply = .down → s.supply.restoring = true →
      s.supply.retention = false → s.supply.store = some v →
        ∃ t : State, exec (.returnFromDown straps) s = .next t ∧
          (∀ n, 1 ≤ n → n ≤ 1024 →
            t.locker n = Locker.blank (if t.configured ((n - 1) / 8 + 1) then .free else .unfitted) 0) ∧
          (∀ c, 1 ≤ c → c ≤ 64 →
            t.cabin c = Cabin.blank (if t.configured (128 + (c - 1) / 4 + 1) then .vacant else .unfitted) 0) ∧
          (∀ a, 1 ≤ a → a ≤ 144 → t.module a = Module.blank (t.configured a)) ∧
          t = { State.reset with
            pending := s.pending, portRate := straps.portRate, freeSeq := s.freeSeq, settings := v,
            engine := { Engine.reset with lockers := t.engine.lockers, cabins := t.engine.cabins },
            field := { FieldEngine.reset with modules := t.field.modules, loopRate := straps.loopRate },
            notices := { State.reset.notices with raised := [] },
            supply := { State.reset.supply with store := some v } })

/-- A request taken without a grant whose reply has not left its port is dropped at a start and has no effect: what it wrote
over stands again, the newest taken back first, and a trim of the clock is taken back; nothing else is touched.  What such
requests did while they stood is the model's choice (assumption 24).  With them taken back, a warm start keeps every band,
zone, locker and watch record, the settings, the alarm list, the held flags and the clock; cabins keep all but their
command; ports stand IDLE with nothing outstanding, the notice queues and the loop's lists are empty, every configured
module is ONLINE with resync pending, no module has an indication pending, and the sweep is at the first step of a round.  A
return from DOWN raises POWER_RESTORED, a RESET pulse with the CLEAR strap open nothing
(R28, R31, R66, R84, R122, R136, R150, R158, R171, R176, R185, R192). -/
def Obligations.WarmStartKeepsTheTables : Prop :=
  (∀ s : State,
    let d := s.undoTaken
    (s.undo = [] → d = s) ∧
    d = { s with
      undo := [], settings := d.settings, watches := d.watches, supply := { s.supply with clock := d.supply.clock },
      notices := { s.notices with alarms := d.notices.alarms, alarmOverflow := d.notices.alarmOverflow },
      field := { s.field with modules := d.field.modules } } ∧
    d.settings = { s.settings with cp0 := d.settings.cp0, cp1 := d.settings.cp1, thresholds := d.settings.thresholds,
                                   priorities := d.settings.priorities } ∧
    (∀ a, d.module a = { s.module a with held := (d.module a).held }) ∧
    (s.supply.clock < 86400 → d.supply.clock < 86400 ∧
      ∃ days : Int, (d.supply.clock : Int) = days * 86400 + (s.supply.clock : Int) -
        (s.undo.map fun u =>
          match u.before with
          | .clock trim => max (-60) (min 60 trim)
          | _ => 0).sum) ∧
    (∀ i, (∀ u ∈ s.undo, ∀ w e, u.before ≠ .watch i w ∧ u.before ≠ .enabled i e) → d.watch i = s.watch i) ∧
    ((∀ u ∈ s.undo, ∀ v, u.before ≠ .port .cp0 v) → d.settings.cp0 = s.settings.cp0) ∧
    ((∀ u ∈ s.undo, ∀ v, u.before ≠ .port .cp1 v) → d.settings.cp1 = s.settings.cp1) ∧
    (∀ p, (∀ u ∈ s.undo, ∀ n, u.before ≠ .threshold p n) → d.settings.thresholds.get p = s.settings.thresholds.get p) ∧
    (∀ k : NoticeKind, (∀ u ∈ s.undo, ∀ n, u.before ≠ .priority k n) →
      d.settings.priorities[noticeCode k - 1]? = s.settings.priorities[noticeCode k - 1]?) ∧
    ((∀ u ∈ s.undo, ∀ which l full, u.before ≠ .alarms which l full) →
      d.notices.alarms = s.notices.alarms ∧ d.notices.alarmOverflow = s.notices.alarmOverflow) ∧
    (∀ a, (∀ u ∈ s.undo, ∀ h, u.before ≠ .held a h) → d.module a = s.module a) ∧
    ∀ newer u older, s.undo = newer ++ u :: older → (∀ v ∈ older, u.before.samePlace v.before = false) →
      match u.before with
      | .watch i was => i ≤ 3 → d.watch i = was
      | .enabled i was => i ≤ 3 → (d.watch i).enabled = was
      | .port p was =>
        match p with
        | .cp0 => d.settings.cp0 = was
        | .cp1 => d.settings.cp1 = was
        | .cp2 => True
      | .threshold p was => d.settings.thresholds.get p = was
      | .priority k was =>
        isAlarm k = false → k ≠ .watchHit → d.settings.priorities[noticeCode k - 1]? = some was
      | .alarms _ l full => d.notices.alarms = l ∧ d.notices.alarmOverflow = full
      | .held a was => 1 ≤ a → a ≤ 144 → (d.module a).held = was
      | .clock _ => True) ∧
  ∀ (straps : Straps) (s : State),
    let d := s.undoTaken
    let kept (t : State) : Prop :=
      t.undo = [] ∧ t.settings = d.settings ∧ t.watches = d.watches ∧
      t.engine = { s.engine with cabins := t.engine.cabins, lastGranted := .sweep } ∧
      (∀ c, 1 ≤ c → c ≤ 64 → t.cabin c = { s.cabin c with command := none }) ∧
      t.notices.alarms = d.notices.alarms ∧ t.notices.alarmOverflow = d.notices.alarmOverflow ∧
      (∀ p, t.port p = Port.idle ∧ t.queue p = [] ∧ t.notices.overflow.get p = false) ∧
      t.portRate = straps.portRate ∧ t.field.loopRate = straps.loopRate ∧
      t.field.queue = [] ∧ t.field.exchange = none ∧ t.field.handover = [] ∧ t.field.pollPosition = 1 ∧
      t.field.cycle = 0 ∧ t.field.lastTurn = .command ∧ t.field.startDelay = true ∧
      t.field.broadcast = some (if t.supply.supply = .hold then .hold else .clear) ∧
      (∀ a, 1 ≤ a → a ≤ 144 → s.configured a = true →
        (t.module a).silent = false ∧ (t.module a).failures = 0 ∧ (t.module a).resync = true ∧
        (t.module a).held = (d.module a).held ∧ (t.module a).coldRead = (s.module a).coldRead) ∧
      (∀ a i, 1 ≤ a → a ≤ 144 → i < 8 → (tableGet (t.module a).positions Position.blank i).shown = none) ∧
      t.sweep = { index := 1, remaining := 3135, waiting := false } ∧ t.supply.clock = d.supply.clock ∧
      t.supply.clockValid = s.supply.clockValid ∧ t.supply.retention = true ∧ t.supply.store = s.supply.store
    (s.supply.supply = .down → s.supply.restoring = true → s.supply.retention = true →
      ∃ t : State, exec (.returnFromDown straps) s = .next t ∧ kept t ∧ t.supply.supply = .normal ∧
        t.supply.lpen = true ∧
        t.notices.raised = [{ kind := .powerRestored, place := none, serial := none, time := d.supply.clock,
                              hit := none }]) ∧
    (s.supply.resetHeld = true → s.supply.supply ≠ .down → straps.clearClosed = false →
      ∃ t : State, exec (.resetReleased straps) s = .next t ∧ kept t ∧ t.supply.supply = s.supply.supply ∧
        t.supply.lpen = s.supply.lpen ∧ t.notices.raised = [] ∧
        (∀ v, s.supply.save = some v → ∃ w, t.supply.save = some w ∧ w.snapshot = v.snapshot ∧ w.replyTo = none))

/-- A RESET pulse stops the blocks while it is held, and with the CLEAR strap closed ends in a cold start: the settings of a
valid store, or the factory defaults with SETTINGS_LOST; a save in progress is abandoned first and leaves the store invalid;
the clock is kept, but for a TRIM_CLOCK still outstanding, which has no effect, and clock_valid cleared; lockers and cabins stand FREE, VACANT or UNFITTED by the loaded configuration.
The ports stand IDLE with nothing outstanding and empty queues, the loop with empty lists, poll position 1, cycle count 0,
the broadcast of the supply state and the start delay, the sweep at the first step of a round, the rates as strapped, and
CP0 comes first at the arbiter.  In DOWN the pulse is not acted on.  That a save is abandoned only if it still runs as the
pulse ends is the model's choice (assumption 26)
(R32, R67, R85, R137, R150, R172, R185, R186, R191, R192, R193, R194). -/
def Obligations.ResetPulseStopsAndColdStarts : Prop :=
  ∀ (straps : Straps) (s : State),
    (s.running = true →
      ∃ t : State, exec .resetAsserted s = .next t ∧ t.supply = { s.supply with resetHeld := true } ∧
        (∀ p, t.port p = { s.port p with link := .stopped, ready := [] }) ∧
        t.field = { s.field with exchange := none, handover := [], waitingHeld := false, broadcast := none } ∧
        t = { s with supply := t.supply, ports := t.ports, field := t.field,
                     sweep := { s.sweep with waiting := false } }) ∧
    (s.supply.supply = .down → exec .resetAsserted s = .next s ∧ exec (.resetReleased straps) s = .next s) ∧
    (s.supply.resetHeld = true → s.supply.supply ≠ .down → straps.clearClosed = true →
      let loaded := if s.supply.save = none then s.supply.store else none
      let settings := loaded.getD Settings.factory
      let clock := s.undoTaken.supply.clock
      ∃ t : State, exec (.resetReleased straps) s = .next t ∧ t.settings = settings ∧
        (∀ k, t.band k = none) ∧ t.engine.serialMap = [] ∧ (∀ z, t.zoneUsed z = false) ∧
        (∀ n, 1 ≤ n → n ≤ 1024 →
          t.locker n = Locker.blank (if t.configured ((n - 1) / 8 + 1) then .free else .unfitted) clock) ∧
        (∀ c, 1 ≤ c → c ≤ 64 →
          t.cabin c = Cabin.blank (if t.configured (128 + (c - 1) / 4 + 1) then .vacant else .unfitted) clock) ∧
        (∀ a, 1 ≤ a → a ≤ 144 → t.module a = Module.blank (t.configured a)) ∧
        (∀ i, t.watch i = Watch.blank) ∧ t.notices.alarms = [] ∧ t.notices.alarmOverflow = false ∧
        t.supply = { s.supply with clock := clock, clockValid := false, retention := true, resetHeld := false, store := loaded,
                                   save := none } ∧
        t.notices.raised =
          (if loaded = none then
            [{ kind := .settingsLost, place := none, serial := none, time := clock, hit := none }]
          else []) ∧
        (∀ p, t.port p = { link := .idle, outstanding := none, ready := [] } ∧ t.queue p = [] ∧
          t.notices.overflow.get p = false) ∧
        t.portRate = straps.portRate ∧
        t.field = { modules := t.field.modules, queue := [], pollPosition := 1, cycle := 0, lastTurn := .command,
                    exchange := none, handover := [], waitingHeld := false,
                    broadcast := some (if s.supply.supply = .hold then .hold else .clear),
                    loopRate := straps.loopRate, startDelay := true, lineFrame := [] } ∧
        t.sweep = { index := 1, remaining := 3135, waiting := false } ∧ t.engine.lastGranted = .sweep ∧
        t.undo = [] ∧ t.pending = s.pending ∧ t.freeSeq = s.freeSeq)
end

