-- ==== Sys2Proof/Laws/Bytes.lean ====
section
/-! SUPPORT. Numbers written as bytes and read back, and fields of a body written in parts. -/

namespace Sys2Proof.Machine

@[simp] theorem bytesOf_length (w n : Nat) : (bytesOf w n).length = w := by
  induction w with
  | zero => rfl
  | succ w ih => simp [bytesOf, ih]

/-- What a fold of `natOf` does from a number already read. -/
theorem foldl_natOf (bytes : List Byte) (acc : Nat) :
    bytes.foldl (fun acc b => acc * 256 + b.toNat) acc = acc * 256 ^ bytes.length + natOf bytes := by
  induction bytes generalizing acc with
  | nil => simp [natOf]
  | cons b rest ih =>
    simp only [natOf, List.foldl_cons, List.length_cons]
    rw [ih, ih (0 * 256 + b.toNat)]
    ring

@[simp] theorem natOf_nil : natOf [] = 0 := rfl

theorem natOf_cons (b : Byte) (rest : List Byte) : natOf (b :: rest) = b.toNat * 256 ^ rest.length + natOf rest := by
  have h := foldl_natOf rest (0 * 256 + b.toNat)
  simpa [natOf] using h

theorem natOf_append (front back : List Byte) :
    natOf (front ++ back) = natOf front * 256 ^ back.length + natOf back := by
  rw [natOf, List.foldl_append, foldl_natOf]
  rfl

/-- A number written in `w` bytes reads as its value modulo what `w` bytes can hold. -/
theorem natOf_bytesOf (w n : Nat) : natOf (bytesOf w n) = n % 256 ^ w := by
  induction w with
  | zero => simp [bytesOf, Nat.mod_one]
  | succ w ih =>
    have split : n % 256 ^ (w + 1) = n % 256 ^ w + 256 ^ w * (n / 256 ^ w % 256) := by rw [pow_succ, Nat.mod_mul]
    rw [bytesOf, natOf_cons, ih, bytesOf_length, BitVec.toNat_ofNat, split, Nat.add_comm, Nat.mul_comm]

/-- A field that lies in the first part of a body. -/
theorem fieldAt_append_left (front back : List Byte) (off len : Nat) (h : off + len ≤ front.length) :
    fieldAt (front ++ back) off len = fieldAt front off len := by
  simp only [fieldAt]
  rw [List.drop_append_of_le_length (by omega), List.take_append_of_le_length (by simp; omega)]

/-- A field that lies behind the first part of a body. -/
theorem fieldAt_append_right (front back : List Byte) (off len : Nat) (h : front.length ≤ off) :
    fieldAt (front ++ back) off len = fieldAt back (off - front.length) len := by
  simp [fieldAt, List.drop_append, List.drop_eq_nil_of_le h]

/-- A field that is the whole of a part written by `bytesOf`. -/
theorem fieldAt_bytesOf (w n : Nat) : fieldAt (bytesOf w n) 0 w = n % 256 ^ w := by
  have h : (bytesOf w n).take w = bytesOf w n := List.take_of_length_le (by simp)
  rw [fieldAt, List.drop_zero, h, natOf_bytesOf]

end Sys2Proof.Machine
end

