-- ==== Sys2Proof/Laws/State.lean ====
section
/-! SUPPORT. The small lemmas of the state's updates: what each setter leaves alone, one lemma per field. -/

namespace Sys2Proof.Machine


/-! ### setBand -/

@[simp] theorem State.setBand_pending (s : State) (k : Nat) (b : Option Band) : (s.setBand k b).pending = s.pending := by unfold State.setBand; split <;> rfl
@[simp] theorem State.setBand_settings (s : State) (k : Nat) (b : Option Band) : (s.setBand k b).settings = s.settings := by unfold State.setBand; split <;> rfl
@[simp] theorem State.setBand_engine_serialMap (s : State) (k : Nat) (b : Option Band) : (s.setBand k b).engine.serialMap = s.engine.serialMap := by unfold State.setBand; split <;> rfl
@[simp] theorem State.setBand_engine_zoneUsed (s : State) (k : Nat) (b : Option Band) : (s.setBand k b).engine.zoneUsed = s.engine.zoneUsed := by unfold State.setBand; split <;> rfl
@[simp] theorem State.setBand_engine_lockers (s : State) (k : Nat) (b : Option Band) : (s.setBand k b).engine.lockers = s.engine.lockers := by unfold State.setBand; split <;> rfl
@[simp] theorem State.setBand_engine_cabins (s : State) (k : Nat) (b : Option Band) : (s.setBand k b).engine.cabins = s.engine.cabins := by unfold State.setBand; split <;> rfl
@[simp] theorem State.setBand_engine_lastGranted (s : State) (k : Nat) (b : Option Band) : (s.setBand k b).engine.lastGranted = s.engine.lastGranted := by unfold State.setBand; split <;> rfl
@[simp] theorem State.setBand_watches (s : State) (k : Nat) (b : Option Band) : (s.setBand k b).watches = s.watches := by unfold State.setBand; split <;> rfl
@[simp] theorem State.setBand_undo (s : State) (k : Nat) (b : Option Band) : (s.setBand k b).undo = s.undo := by unfold State.setBand; split <;> rfl
@[simp] theorem State.setBand_ports (s : State) (k : Nat) (b : Option Band) : (s.setBand k b).ports = s.ports := by unfold State.setBand; split <;> rfl
@[simp] theorem State.setBand_portRate (s : State) (k : Nat) (b : Option Band) : (s.setBand k b).portRate = s.portRate := by unfold State.setBand; split <;> rfl
@[simp] theorem State.setBand_notices (s : State) (k : Nat) (b : Option Band) : (s.setBand k b).notices = s.notices := by unfold State.setBand; split <;> rfl
@[simp] theorem State.setBand_field (s : State) (k : Nat) (b : Option Band) : (s.setBand k b).field = s.field := by unfold State.setBand; split <;> rfl
@[simp] theorem State.setBand_sweep (s : State) (k : Nat) (b : Option Band) : (s.setBand k b).sweep = s.sweep := by unfold State.setBand; split <;> rfl
@[simp] theorem State.setBand_supply (s : State) (k : Nat) (b : Option Band) : (s.setBand k b).supply = s.supply := by unfold State.setBand; split <;> rfl
@[simp] theorem State.setBand_freeSeq (s : State) (k : Nat) (b : Option Band) : (s.setBand k b).freeSeq = s.freeSeq := by unfold State.setBand; split <;> rfl

/-! ### mapSerial -/

@[simp] theorem State.mapSerial_pending (s : State) (n k : Nat) : (s.mapSerial n k).pending = s.pending := rfl
@[simp] theorem State.mapSerial_settings (s : State) (n k : Nat) : (s.mapSerial n k).settings = s.settings := rfl
@[simp] theorem State.mapSerial_engine_bands (s : State) (n k : Nat) : (s.mapSerial n k).engine.bands = s.engine.bands := rfl
@[simp] theorem State.mapSerial_engine_zoneUsed (s : State) (n k : Nat) : (s.mapSerial n k).engine.zoneUsed = s.engine.zoneUsed := rfl
@[simp] theorem State.mapSerial_engine_lockers (s : State) (n k : Nat) : (s.mapSerial n k).engine.lockers = s.engine.lockers := rfl
@[simp] theorem State.mapSerial_engine_cabins (s : State) (n k : Nat) : (s.mapSerial n k).engine.cabins = s.engine.cabins := rfl
@[simp] theorem State.mapSerial_engine_lastGranted (s : State) (n k : Nat) : (s.mapSerial n k).engine.lastGranted = s.engine.lastGranted := rfl
@[simp] theorem State.mapSerial_watches (s : State) (n k : Nat) : (s.mapSerial n k).watches = s.watches := rfl
@[simp] theorem State.mapSerial_undo (s : State) (n k : Nat) : (s.mapSerial n k).undo = s.undo := rfl
@[simp] theorem State.mapSerial_ports (s : State) (n k : Nat) : (s.mapSerial n k).ports = s.ports := rfl
@[simp] theorem State.mapSerial_portRate (s : State) (n k : Nat) : (s.mapSerial n k).portRate = s.portRate := rfl
@[simp] theorem State.mapSerial_notices (s : State) (n k : Nat) : (s.mapSerial n k).notices = s.notices := rfl
@[simp] theorem State.mapSerial_field (s : State) (n k : Nat) : (s.mapSerial n k).field = s.field := rfl
@[simp] theorem State.mapSerial_sweep (s : State) (n k : Nat) : (s.mapSerial n k).sweep = s.sweep := rfl
@[simp] theorem State.mapSerial_supply (s : State) (n k : Nat) : (s.mapSerial n k).supply = s.supply := rfl
@[simp] theorem State.mapSerial_freeSeq (s : State) (n k : Nat) : (s.mapSerial n k).freeSeq = s.freeSeq := rfl

/-! ### unmapSerial -/

@[simp] theorem State.unmapSerial_pending (s : State) (n : Nat) : (s.unmapSerial n).pending = s.pending := rfl
@[simp] theorem State.unmapSerial_settings (s : State) (n : Nat) : (s.unmapSerial n).settings = s.settings := rfl
@[simp] theorem State.unmapSerial_engine_bands (s : State) (n : Nat) : (s.unmapSerial n).engine.bands = s.engine.bands := rfl
@[simp] theorem State.unmapSerial_engine_zoneUsed (s : State) (n : Nat) : (s.unmapSerial n).engine.zoneUsed = s.engine.zoneUsed := rfl
@[simp] theorem State.unmapSerial_engine_lockers (s : State) (n : Nat) : (s.unmapSerial n).engine.lockers = s.engine.lockers := rfl
@[simp] theorem State.unmapSerial_engine_cabins (s : State) (n : Nat) : (s.unmapSerial n).engine.cabins = s.engine.cabins := rfl
@[simp] theorem State.unmapSerial_engine_lastGranted (s : State) (n : Nat) : (s.unmapSerial n).engine.lastGranted = s.engine.lastGranted := rfl
@[simp] theorem State.unmapSerial_watches (s : State) (n : Nat) : (s.unmapSerial n).watches = s.watches := rfl
@[simp] theorem State.unmapSerial_undo (s : State) (n : Nat) : (s.unmapSerial n).undo = s.undo := rfl
@[simp] theorem State.unmapSerial_ports (s : State) (n : Nat) : (s.unmapSerial n).ports = s.ports := rfl
@[simp] theorem State.unmapSerial_portRate (s : State) (n : Nat) : (s.unmapSerial n).portRate = s.portRate := rfl
@[simp] theorem State.unmapSerial_notices (s : State) (n : Nat) : (s.unmapSerial n).notices = s.notices := rfl
@[simp] theorem State.unmapSerial_field (s : State) (n : Nat) : (s.unmapSerial n).field = s.field := rfl
@[simp] theorem State.unmapSerial_sweep (s : State) (n : Nat) : (s.unmapSerial n).sweep = s.sweep := rfl
@[simp] theorem State.unmapSerial_supply (s : State) (n : Nat) : (s.unmapSerial n).supply = s.supply := rfl
@[simp] theorem State.unmapSerial_freeSeq (s : State) (n : Nat) : (s.unmapSerial n).freeSeq = s.freeSeq := rfl

/-! ### setLocker -/

@[simp] theorem State.setLocker_pending (s : State) (n : Nat) (l : Locker) : (s.setLocker n l).pending = s.pending := by unfold State.setLocker; split <;> rfl
@[simp] theorem State.setLocker_settings (s : State) (n : Nat) (l : Locker) : (s.setLocker n l).settings = s.settings := by unfold State.setLocker; split <;> rfl
@[simp] theorem State.setLocker_engine_bands (s : State) (n : Nat) (l : Locker) : (s.setLocker n l).engine.bands = s.engine.bands := by unfold State.setLocker; split <;> rfl
@[simp] theorem State.setLocker_engine_serialMap (s : State) (n : Nat) (l : Locker) : (s.setLocker n l).engine.serialMap = s.engine.serialMap := by unfold State.setLocker; split <;> rfl
@[simp] theorem State.setLocker_engine_zoneUsed (s : State) (n : Nat) (l : Locker) : (s.setLocker n l).engine.zoneUsed = s.engine.zoneUsed := by unfold State.setLocker; split <;> rfl
@[simp] theorem State.setLocker_engine_cabins (s : State) (n : Nat) (l : Locker) : (s.setLocker n l).engine.cabins = s.engine.cabins := by unfold State.setLocker; split <;> rfl
@[simp] theorem State.setLocker_engine_lastGranted (s : State) (n : Nat) (l : Locker) : (s.setLocker n l).engine.lastGranted = s.engine.lastGranted := by unfold State.setLocker; split <;> rfl
@[simp] theorem State.setLocker_watches (s : State) (n : Nat) (l : Locker) : (s.setLocker n l).watches = s.watches := by unfold State.setLocker; split <;> rfl
@[simp] theorem State.setLocker_undo (s : State) (n : Nat) (l : Locker) : (s.setLocker n l).undo = s.undo := by unfold State.setLocker; split <;> rfl
@[simp] theorem State.setLocker_ports (s : State) (n : Nat) (l : Locker) : (s.setLocker n l).ports = s.ports := by unfold State.setLocker; split <;> rfl
@[simp] theorem State.setLocker_portRate (s : State) (n : Nat) (l : Locker) : (s.setLocker n l).portRate = s.portRate := by unfold State.setLocker; split <;> rfl
@[simp] theorem State.setLocker_notices (s : State) (n : Nat) (l : Locker) : (s.setLocker n l).notices = s.notices := by unfold State.setLocker; split <;> rfl
@[simp] theorem State.setLocker_field (s : State) (n : Nat) (l : Locker) : (s.setLocker n l).field = s.field := by unfold State.setLocker; split <;> rfl
@[simp] theorem State.setLocker_sweep (s : State) (n : Nat) (l : Locker) : (s.setLocker n l).sweep = s.sweep := by unfold State.setLocker; split <;> rfl
@[simp] theorem State.setLocker_supply (s : State) (n : Nat) (l : Locker) : (s.setLocker n l).supply = s.supply := by unfold State.setLocker; split <;> rfl
@[simp] theorem State.setLocker_freeSeq (s : State) (n : Nat) (l : Locker) : (s.setLocker n l).freeSeq = s.freeSeq := by unfold State.setLocker; split <;> rfl

/-! ### setCabin -/

@[simp] theorem State.setCabin_pending (s : State) (c : Nat) (r : Cabin) : (s.setCabin c r).pending = s.pending := by unfold State.setCabin; split <;> rfl
@[simp] theorem State.setCabin_settings (s : State) (c : Nat) (r : Cabin) : (s.setCabin c r).settings = s.settings := by unfold State.setCabin; split <;> rfl
@[simp] theorem State.setCabin_engine_bands (s : State) (c : Nat) (r : Cabin) : (s.setCabin c r).engine.bands = s.engine.bands := by unfold State.setCabin; split <;> rfl
@[simp] theorem State.setCabin_engine_serialMap (s : State) (c : Nat) (r : Cabin) : (s.setCabin c r).engine.serialMap = s.engine.serialMap := by unfold State.setCabin; split <;> rfl
@[simp] theorem State.setCabin_engine_zoneUsed (s : State) (c : Nat) (r : Cabin) : (s.setCabin c r).engine.zoneUsed = s.engine.zoneUsed := by unfold State.setCabin; split <;> rfl
@[simp] theorem State.setCabin_engine_lockers (s : State) (c : Nat) (r : Cabin) : (s.setCabin c r).engine.lockers = s.engine.lockers := by unfold State.setCabin; split <;> rfl
@[simp] theorem State.setCabin_engine_lastGranted (s : State) (c : Nat) (r : Cabin) : (s.setCabin c r).engine.lastGranted = s.engine.lastGranted := by unfold State.setCabin; split <;> rfl
@[simp] theorem State.setCabin_watches (s : State) (c : Nat) (r : Cabin) : (s.setCabin c r).watches = s.watches := by unfold State.setCabin; split <;> rfl
@[simp] theorem State.setCabin_undo (s : State) (c : Nat) (r : Cabin) : (s.setCabin c r).undo = s.undo := by unfold State.setCabin; split <;> rfl
@[simp] theorem State.setCabin_ports (s : State) (c : Nat) (r : Cabin) : (s.setCabin c r).ports = s.ports := by unfold State.setCabin; split <;> rfl
@[simp] theorem State.setCabin_portRate (s : State) (c : Nat) (r : Cabin) : (s.setCabin c r).portRate = s.portRate := by unfold State.setCabin; split <;> rfl
@[simp] theorem State.setCabin_notices (s : State) (c : Nat) (r : Cabin) : (s.setCabin c r).notices = s.notices := by unfold State.setCabin; split <;> rfl
@[simp] theorem State.setCabin_field (s : State) (c : Nat) (r : Cabin) : (s.setCabin c r).field = s.field := by unfold State.setCabin; split <;> rfl
@[simp] theorem State.setCabin_sweep (s : State) (c : Nat) (r : Cabin) : (s.setCabin c r).sweep = s.sweep := by unfold State.setCabin; split <;> rfl
@[simp] theorem State.setCabin_supply (s : State) (c : Nat) (r : Cabin) : (s.setCabin c r).supply = s.supply := by unfold State.setCabin; split <;> rfl
@[simp] theorem State.setCabin_freeSeq (s : State) (c : Nat) (r : Cabin) : (s.setCabin c r).freeSeq = s.freeSeq := by unfold State.setCabin; split <;> rfl

/-! ### setZoneUsed -/

@[simp] theorem State.setZoneUsed_pending (s : State) (z : Nat) (u : Bool) : (s.setZoneUsed z u).pending = s.pending := rfl
@[simp] theorem State.setZoneUsed_settings (s : State) (z : Nat) (u : Bool) : (s.setZoneUsed z u).settings = s.settings := rfl
@[simp] theorem State.setZoneUsed_engine_bands (s : State) (z : Nat) (u : Bool) : (s.setZoneUsed z u).engine.bands = s.engine.bands := rfl
@[simp] theorem State.setZoneUsed_engine_serialMap (s : State) (z : Nat) (u : Bool) : (s.setZoneUsed z u).engine.serialMap = s.engine.serialMap := rfl
@[simp] theorem State.setZoneUsed_engine_lockers (s : State) (z : Nat) (u : Bool) : (s.setZoneUsed z u).engine.lockers = s.engine.lockers := rfl
@[simp] theorem State.setZoneUsed_engine_cabins (s : State) (z : Nat) (u : Bool) : (s.setZoneUsed z u).engine.cabins = s.engine.cabins := rfl
@[simp] theorem State.setZoneUsed_engine_lastGranted (s : State) (z : Nat) (u : Bool) : (s.setZoneUsed z u).engine.lastGranted = s.engine.lastGranted := rfl
@[simp] theorem State.setZoneUsed_watches (s : State) (z : Nat) (u : Bool) : (s.setZoneUsed z u).watches = s.watches := rfl
@[simp] theorem State.setZoneUsed_undo (s : State) (z : Nat) (u : Bool) : (s.setZoneUsed z u).undo = s.undo := rfl
@[simp] theorem State.setZoneUsed_ports (s : State) (z : Nat) (u : Bool) : (s.setZoneUsed z u).ports = s.ports := rfl
@[simp] theorem State.setZoneUsed_portRate (s : State) (z : Nat) (u : Bool) : (s.setZoneUsed z u).portRate = s.portRate := rfl
@[simp] theorem State.setZoneUsed_notices (s : State) (z : Nat) (u : Bool) : (s.setZoneUsed z u).notices = s.notices := rfl
@[simp] theorem State.setZoneUsed_field (s : State) (z : Nat) (u : Bool) : (s.setZoneUsed z u).field = s.field := rfl
@[simp] theorem State.setZoneUsed_sweep (s : State) (z : Nat) (u : Bool) : (s.setZoneUsed z u).sweep = s.sweep := rfl
@[simp] theorem State.setZoneUsed_supply (s : State) (z : Nat) (u : Bool) : (s.setZoneUsed z u).supply = s.supply := rfl
@[simp] theorem State.setZoneUsed_freeSeq (s : State) (z : Nat) (u : Bool) : (s.setZoneUsed z u).freeSeq = s.freeSeq := rfl

/-! ### setModule -/

@[simp] theorem State.setModule_pending (s : State) (a : Nat) (m : Module) : (s.setModule a m).pending = s.pending := by unfold State.setModule; split <;> rfl
@[simp] theorem State.setModule_settings (s : State) (a : Nat) (m : Module) : (s.setModule a m).settings = s.settings := by unfold State.setModule; split <;> rfl
@[simp] theorem State.setModule_engine (s : State) (a : Nat) (m : Module) : (s.setModule a m).engine = s.engine := by unfold State.setModule; split <;> rfl
@[simp] theorem State.setModule_watches (s : State) (a : Nat) (m : Module) : (s.setModule a m).watches = s.watches := by unfold State.setModule; split <;> rfl
@[simp] theorem State.setModule_undo (s : State) (a : Nat) (m : Module) : (s.setModule a m).undo = s.undo := by unfold State.setModule; split <;> rfl
@[simp] theorem State.setModule_ports (s : State) (a : Nat) (m : Module) : (s.setModule a m).ports = s.ports := by unfold State.setModule; split <;> rfl
@[simp] theorem State.setModule_portRate (s : State) (a : Nat) (m : Module) : (s.setModule a m).portRate = s.portRate := by unfold State.setModule; split <;> rfl
@[simp] theorem State.setModule_notices (s : State) (a : Nat) (m : Module) : (s.setModule a m).notices = s.notices := by unfold State.setModule; split <;> rfl
@[simp] theorem State.setModule_field_queue (s : State) (a : Nat) (m : Module) : (s.setModule a m).field.queue = s.field.queue := by unfold State.setModule; split <;> rfl
@[simp] theorem State.setModule_field_pollPosition (s : State) (a : Nat) (m : Module) : (s.setModule a m).field.pollPosition = s.field.pollPosition := by unfold State.setModule; split <;> rfl
@[simp] theorem State.setModule_field_cycle (s : State) (a : Nat) (m : Module) : (s.setModule a m).field.cycle = s.field.cycle := by unfold State.setModule; split <;> rfl
@[simp] theorem State.setModule_field_lastTurn (s : State) (a : Nat) (m : Module) : (s.setModule a m).field.lastTurn = s.field.lastTurn := by unfold State.setModule; split <;> rfl
@[simp] theorem State.setModule_field_exchange (s : State) (a : Nat) (m : Module) : (s.setModule a m).field.exchange = s.field.exchange := by unfold State.setModule; split <;> rfl
@[simp] theorem State.setModule_field_handover (s : State) (a : Nat) (m : Module) : (s.setModule a m).field.handover = s.field.handover := by unfold State.setModule; split <;> rfl
@[simp] theorem State.setModule_field_waitingHeld (s : State) (a : Nat) (m : Module) : (s.setModule a m).field.waitingHeld = s.field.waitingHeld := by unfold State.setModule; split <;> rfl
@[simp] theorem State.setModule_field_broadcast (s : State) (a : Nat) (m : Module) : (s.setModule a m).field.broadcast = s.field.broadcast := by unfold State.setModule; split <;> rfl
@[simp] theorem State.setModule_field_loopRate (s : State) (a : Nat) (m : Module) : (s.setModule a m).field.loopRate = s.field.loopRate := by unfold State.setModule; split <;> rfl
@[simp] theorem State.setModule_field_startDelay (s : State) (a : Nat) (m : Module) : (s.setModule a m).field.startDelay = s.field.startDelay := by unfold State.setModule; split <;> rfl
@[simp] theorem State.setModule_field_lineFrame (s : State) (a : Nat) (m : Module) : (s.setModule a m).field.lineFrame = s.field.lineFrame := by unfold State.setModule; split <;> rfl
@[simp] theorem State.setModule_sweep (s : State) (a : Nat) (m : Module) : (s.setModule a m).sweep = s.sweep := by unfold State.setModule; split <;> rfl
@[simp] theorem State.setModule_supply (s : State) (a : Nat) (m : Module) : (s.setModule a m).supply = s.supply := by unfold State.setModule; split <;> rfl
@[simp] theorem State.setModule_freeSeq (s : State) (a : Nat) (m : Module) : (s.setModule a m).freeSeq = s.freeSeq := by unfold State.setModule; split <;> rfl

/-! ### setWatch -/

@[simp] theorem State.setWatch_pending (s : State) (i : Nat) (w : Watch) : (s.setWatch i w).pending = s.pending := rfl
@[simp] theorem State.setWatch_settings (s : State) (i : Nat) (w : Watch) : (s.setWatch i w).settings = s.settings := rfl
@[simp] theorem State.setWatch_engine (s : State) (i : Nat) (w : Watch) : (s.setWatch i w).engine = s.engine := rfl
@[simp] theorem State.setWatch_undo (s : State) (i : Nat) (w : Watch) : (s.setWatch i w).undo = s.undo := rfl
@[simp] theorem State.setWatch_ports (s : State) (i : Nat) (w : Watch) : (s.setWatch i w).ports = s.ports := rfl
@[simp] theorem State.setWatch_portRate (s : State) (i : Nat) (w : Watch) : (s.setWatch i w).portRate = s.portRate := rfl
@[simp] theorem State.setWatch_notices (s : State) (i : Nat) (w : Watch) : (s.setWatch i w).notices = s.notices := rfl
@[simp] theorem State.setWatch_field (s : State) (i : Nat) (w : Watch) : (s.setWatch i w).field = s.field := rfl
@[simp] theorem State.setWatch_sweep (s : State) (i : Nat) (w : Watch) : (s.setWatch i w).sweep = s.sweep := rfl
@[simp] theorem State.setWatch_supply (s : State) (i : Nat) (w : Watch) : (s.setWatch i w).supply = s.supply := rfl
@[simp] theorem State.setWatch_freeSeq (s : State) (i : Nat) (w : Watch) : (s.setWatch i w).freeSeq = s.freeSeq := rfl

/-! ### remember -/

@[simp] theorem State.remember_pending (s : State) (p : PortId) (b : Before) : (s.remember p b).pending = s.pending := rfl
@[simp] theorem State.remember_settings (s : State) (p : PortId) (b : Before) : (s.remember p b).settings = s.settings := rfl
@[simp] theorem State.remember_engine (s : State) (p : PortId) (b : Before) : (s.remember p b).engine = s.engine := rfl
@[simp] theorem State.remember_watches (s : State) (p : PortId) (b : Before) : (s.remember p b).watches = s.watches := rfl
@[simp] theorem State.remember_ports (s : State) (p : PortId) (b : Before) : (s.remember p b).ports = s.ports := rfl
@[simp] theorem State.remember_portRate (s : State) (p : PortId) (b : Before) : (s.remember p b).portRate = s.portRate := rfl
@[simp] theorem State.remember_notices (s : State) (p : PortId) (b : Before) : (s.remember p b).notices = s.notices := rfl
@[simp] theorem State.remember_field (s : State) (p : PortId) (b : Before) : (s.remember p b).field = s.field := rfl
@[simp] theorem State.remember_sweep (s : State) (p : PortId) (b : Before) : (s.remember p b).sweep = s.sweep := rfl
@[simp] theorem State.remember_supply (s : State) (p : PortId) (b : Before) : (s.remember p b).supply = s.supply := rfl
@[simp] theorem State.remember_freeSeq (s : State) (p : PortId) (b : Before) : (s.remember p b).freeSeq = s.freeSeq := rfl

/-! ### closeUndo -/

@[simp] theorem State.closeUndo_pending (s : State) (p : PortId) : (s.closeUndo p).pending = s.pending := rfl
@[simp] theorem State.closeUndo_settings (s : State) (p : PortId) : (s.closeUndo p).settings = s.settings := rfl
@[simp] theorem State.closeUndo_engine (s : State) (p : PortId) : (s.closeUndo p).engine = s.engine := rfl
@[simp] theorem State.closeUndo_watches (s : State) (p : PortId) : (s.closeUndo p).watches = s.watches := rfl
@[simp] theorem State.closeUndo_ports (s : State) (p : PortId) : (s.closeUndo p).ports = s.ports := rfl
@[simp] theorem State.closeUndo_portRate (s : State) (p : PortId) : (s.closeUndo p).portRate = s.portRate := rfl
@[simp] theorem State.closeUndo_notices (s : State) (p : PortId) : (s.closeUndo p).notices = s.notices := rfl
@[simp] theorem State.closeUndo_field (s : State) (p : PortId) : (s.closeUndo p).field = s.field := rfl
@[simp] theorem State.closeUndo_sweep (s : State) (p : PortId) : (s.closeUndo p).sweep = s.sweep := rfl
@[simp] theorem State.closeUndo_supply (s : State) (p : PortId) : (s.closeUndo p).supply = s.supply := rfl
@[simp] theorem State.closeUndo_freeSeq (s : State) (p : PortId) : (s.closeUndo p).freeSeq = s.freeSeq := rfl

/-! ### supersede -/

@[simp] theorem State.supersede_pending (s : State) (b : Before) : (s.supersede b).pending = s.pending := rfl
@[simp] theorem State.supersede_settings (s : State) (b : Before) : (s.supersede b).settings = s.settings := rfl
@[simp] theorem State.supersede_engine (s : State) (b : Before) : (s.supersede b).engine = s.engine := rfl
@[simp] theorem State.supersede_watches (s : State) (b : Before) : (s.supersede b).watches = s.watches := rfl
@[simp] theorem State.supersede_ports (s : State) (b : Before) : (s.supersede b).ports = s.ports := rfl
@[simp] theorem State.supersede_portRate (s : State) (b : Before) : (s.supersede b).portRate = s.portRate := rfl
@[simp] theorem State.supersede_notices (s : State) (b : Before) : (s.supersede b).notices = s.notices := rfl
@[simp] theorem State.supersede_field (s : State) (b : Before) : (s.supersede b).field = s.field := rfl
@[simp] theorem State.supersede_sweep (s : State) (b : Before) : (s.supersede b).sweep = s.sweep := rfl
@[simp] theorem State.supersede_supply (s : State) (b : Before) : (s.supersede b).supply = s.supply := rfl
@[simp] theorem State.supersede_freeSeq (s : State) (b : Before) : (s.supersede b).freeSeq = s.freeSeq := rfl

/-! ### setPort -/

@[simp] theorem State.setPort_pending (s : State) (p : PortId) (q : Port) : (s.setPort p q).pending = s.pending := rfl
@[simp] theorem State.setPort_settings (s : State) (p : PortId) (q : Port) : (s.setPort p q).settings = s.settings := rfl
@[simp] theorem State.setPort_engine (s : State) (p : PortId) (q : Port) : (s.setPort p q).engine = s.engine := rfl
@[simp] theorem State.setPort_watches (s : State) (p : PortId) (q : Port) : (s.setPort p q).watches = s.watches := rfl
@[simp] theorem State.setPort_undo (s : State) (p : PortId) (q : Port) : (s.setPort p q).undo = s.undo := rfl
@[simp] theorem State.setPort_portRate (s : State) (p : PortId) (q : Port) : (s.setPort p q).portRate = s.portRate := rfl
@[simp] theorem State.setPort_notices (s : State) (p : PortId) (q : Port) : (s.setPort p q).notices = s.notices := rfl
@[simp] theorem State.setPort_field (s : State) (p : PortId) (q : Port) : (s.setPort p q).field = s.field := rfl
@[simp] theorem State.setPort_sweep (s : State) (p : PortId) (q : Port) : (s.setPort p q).sweep = s.sweep := rfl
@[simp] theorem State.setPort_supply (s : State) (p : PortId) (q : Port) : (s.setPort p q).supply = s.supply := rfl
@[simp] theorem State.setPort_freeSeq (s : State) (p : PortId) (q : Port) : (s.setPort p q).freeSeq = s.freeSeq := rfl

/-! ### setQueue -/

@[simp] theorem State.setQueue_pending (s : State) (p : PortId) (q : List Notice) : (s.setQueue p q).pending = s.pending := rfl
@[simp] theorem State.setQueue_settings (s : State) (p : PortId) (q : List Notice) : (s.setQueue p q).settings = s.settings := rfl
@[simp] theorem State.setQueue_engine (s : State) (p : PortId) (q : List Notice) : (s.setQueue p q).engine = s.engine := rfl
@[simp] theorem State.setQueue_watches (s : State) (p : PortId) (q : List Notice) : (s.setQueue p q).watches = s.watches := rfl
@[simp] theorem State.setQueue_undo (s : State) (p : PortId) (q : List Notice) : (s.setQueue p q).undo = s.undo := rfl
@[simp] theorem State.setQueue_ports (s : State) (p : PortId) (q : List Notice) : (s.setQueue p q).ports = s.ports := rfl
@[simp] theorem State.setQueue_portRate (s : State) (p : PortId) (q : List Notice) : (s.setQueue p q).portRate = s.portRate := rfl
@[simp] theorem State.setQueue_notices_raised (s : State) (p : PortId) (q : List Notice) : (s.setQueue p q).notices.raised = s.notices.raised := rfl
@[simp] theorem State.setQueue_notices_overflow (s : State) (p : PortId) (q : List Notice) : (s.setQueue p q).notices.overflow = s.notices.overflow := rfl
@[simp] theorem State.setQueue_notices_alarms (s : State) (p : PortId) (q : List Notice) : (s.setQueue p q).notices.alarms = s.notices.alarms := rfl
@[simp] theorem State.setQueue_notices_alarmOverflow (s : State) (p : PortId) (q : List Notice) : (s.setQueue p q).notices.alarmOverflow = s.notices.alarmOverflow := rfl
@[simp] theorem State.setQueue_field (s : State) (p : PortId) (q : List Notice) : (s.setQueue p q).field = s.field := rfl
@[simp] theorem State.setQueue_sweep (s : State) (p : PortId) (q : List Notice) : (s.setQueue p q).sweep = s.sweep := rfl
@[simp] theorem State.setQueue_supply (s : State) (p : PortId) (q : List Notice) : (s.setQueue p q).supply = s.supply := rfl
@[simp] theorem State.setQueue_freeSeq (s : State) (p : PortId) (q : List Notice) : (s.setQueue p q).freeSeq = s.freeSeq := rfl

/-! ### setOverflow -/

@[simp] theorem State.setOverflow_pending (s : State) (p : PortId) (f : Bool) : (s.setOverflow p f).pending = s.pending := rfl
@[simp] theorem State.setOverflow_settings (s : State) (p : PortId) (f : Bool) : (s.setOverflow p f).settings = s.settings := rfl
@[simp] theorem State.setOverflow_engine (s : State) (p : PortId) (f : Bool) : (s.setOverflow p f).engine = s.engine := rfl
@[simp] theorem State.setOverflow_watches (s : State) (p : PortId) (f : Bool) : (s.setOverflow p f).watches = s.watches := rfl
@[simp] theorem State.setOverflow_undo (s : State) (p : PortId) (f : Bool) : (s.setOverflow p f).undo = s.undo := rfl
@[simp] theorem State.setOverflow_ports (s : State) (p : PortId) (f : Bool) : (s.setOverflow p f).ports = s.ports := rfl
@[simp] theorem State.setOverflow_portRate (s : State) (p : PortId) (f : Bool) : (s.setOverflow p f).portRate = s.portRate := rfl
@[simp] theorem State.setOverflow_notices_raised (s : State) (p : PortId) (f : Bool) : (s.setOverflow p f).notices.raised = s.notices.raised := rfl
@[simp] theorem State.setOverflow_notices_queues (s : State) (p : PortId) (f : Bool) : (s.setOverflow p f).notices.queues = s.notices.queues := rfl
@[simp] theorem State.setOverflow_notices_alarms (s : State) (p : PortId) (f : Bool) : (s.setOverflow p f).notices.alarms = s.notices.alarms := rfl
@[simp] theorem State.setOverflow_notices_alarmOverflow (s : State) (p : PortId) (f : Bool) : (s.setOverflow p f).notices.alarmOverflow = s.notices.alarmOverflow := rfl
@[simp] theorem State.setOverflow_field (s : State) (p : PortId) (f : Bool) : (s.setOverflow p f).field = s.field := rfl
@[simp] theorem State.setOverflow_sweep (s : State) (p : PortId) (f : Bool) : (s.setOverflow p f).sweep = s.sweep := rfl
@[simp] theorem State.setOverflow_supply (s : State) (p : PortId) (f : Bool) : (s.setOverflow p f).supply = s.supply := rfl
@[simp] theorem State.setOverflow_freeSeq (s : State) (p : PortId) (f : Bool) : (s.setOverflow p f).freeSeq = s.freeSeq := rfl

/-! ### notify -/

@[simp] theorem State.notify_pending (s : State) (k : NoticeKind) (x : Option Place) (n : Option Nat) : (s.notify k x n).pending = s.pending := rfl
@[simp] theorem State.notify_settings (s : State) (k : NoticeKind) (x : Option Place) (n : Option Nat) : (s.notify k x n).settings = s.settings := rfl
@[simp] theorem State.notify_engine (s : State) (k : NoticeKind) (x : Option Place) (n : Option Nat) : (s.notify k x n).engine = s.engine := rfl
@[simp] theorem State.notify_watches (s : State) (k : NoticeKind) (x : Option Place) (n : Option Nat) : (s.notify k x n).watches = s.watches := rfl
@[simp] theorem State.notify_undo (s : State) (k : NoticeKind) (x : Option Place) (n : Option Nat) : (s.notify k x n).undo = s.undo := rfl
@[simp] theorem State.notify_ports (s : State) (k : NoticeKind) (x : Option Place) (n : Option Nat) : (s.notify k x n).ports = s.ports := rfl
@[simp] theorem State.notify_portRate (s : State) (k : NoticeKind) (x : Option Place) (n : Option Nat) : (s.notify k x n).portRate = s.portRate := rfl
@[simp] theorem State.notify_notices_queues (s : State) (k : NoticeKind) (x : Option Place) (n : Option Nat) : (s.notify k x n).notices.queues = s.notices.queues := rfl
@[simp] theorem State.notify_notices_overflow (s : State) (k : NoticeKind) (x : Option Place) (n : Option Nat) : (s.notify k x n).notices.overflow = s.notices.overflow := rfl
@[simp] theorem State.notify_notices_alarms (s : State) (k : NoticeKind) (x : Option Place) (n : Option Nat) : (s.notify k x n).notices.alarms = s.notices.alarms := rfl
@[simp] theorem State.notify_notices_alarmOverflow (s : State) (k : NoticeKind) (x : Option Place) (n : Option Nat) : (s.notify k x n).notices.alarmOverflow = s.notices.alarmOverflow := rfl
@[simp] theorem State.notify_field (s : State) (k : NoticeKind) (x : Option Place) (n : Option Nat) : (s.notify k x n).field = s.field := rfl
@[simp] theorem State.notify_sweep (s : State) (k : NoticeKind) (x : Option Place) (n : Option Nat) : (s.notify k x n).sweep = s.sweep := rfl
@[simp] theorem State.notify_supply (s : State) (k : NoticeKind) (x : Option Place) (n : Option Nat) : (s.notify k x n).supply = s.supply := rfl
@[simp] theorem State.notify_freeSeq (s : State) (k : NoticeKind) (x : Option Place) (n : Option Nat) : (s.notify k x n).freeSeq = s.freeSeq := rfl

/-! ### granted -/

@[simp] theorem State.granted_pending (s : State) (r : Requester) : (s.granted r).pending = s.pending := rfl
@[simp] theorem State.granted_settings (s : State) (r : Requester) : (s.granted r).settings = s.settings := rfl
@[simp] theorem State.granted_engine_bands (s : State) (r : Requester) : (s.granted r).engine.bands = s.engine.bands := rfl
@[simp] theorem State.granted_engine_serialMap (s : State) (r : Requester) : (s.granted r).engine.serialMap = s.engine.serialMap := rfl
@[simp] theorem State.granted_engine_zoneUsed (s : State) (r : Requester) : (s.granted r).engine.zoneUsed = s.engine.zoneUsed := rfl
@[simp] theorem State.granted_engine_lockers (s : State) (r : Requester) : (s.granted r).engine.lockers = s.engine.lockers := rfl
@[simp] theorem State.granted_engine_cabins (s : State) (r : Requester) : (s.granted r).engine.cabins = s.engine.cabins := rfl
@[simp] theorem State.granted_watches (s : State) (r : Requester) : (s.granted r).watches = s.watches := rfl
@[simp] theorem State.granted_undo (s : State) (r : Requester) : (s.granted r).undo = s.undo := rfl
@[simp] theorem State.granted_ports (s : State) (r : Requester) : (s.granted r).ports = s.ports := rfl
@[simp] theorem State.granted_portRate (s : State) (r : Requester) : (s.granted r).portRate = s.portRate := rfl
@[simp] theorem State.granted_notices (s : State) (r : Requester) : (s.granted r).notices = s.notices := rfl
@[simp] theorem State.granted_field (s : State) (r : Requester) : (s.granted r).field = s.field := rfl
@[simp] theorem State.granted_sweep (s : State) (r : Requester) : (s.granted r).sweep = s.sweep := rfl
@[simp] theorem State.granted_supply (s : State) (r : Requester) : (s.granted r).supply = s.supply := rfl
@[simp] theorem State.granted_freeSeq (s : State) (r : Requester) : (s.granted r).freeSeq = s.freeSeq := rfl

/-! ### withPending -/

@[simp] theorem State.withPending_settings (s : State) (q : List Instr) : (s.withPending q).settings = s.settings := rfl
@[simp] theorem State.withPending_engine (s : State) (q : List Instr) : (s.withPending q).engine = s.engine := rfl
@[simp] theorem State.withPending_watches (s : State) (q : List Instr) : (s.withPending q).watches = s.watches := rfl
@[simp] theorem State.withPending_undo (s : State) (q : List Instr) : (s.withPending q).undo = s.undo := rfl
@[simp] theorem State.withPending_ports (s : State) (q : List Instr) : (s.withPending q).ports = s.ports := rfl
@[simp] theorem State.withPending_portRate (s : State) (q : List Instr) : (s.withPending q).portRate = s.portRate := rfl
@[simp] theorem State.withPending_notices (s : State) (q : List Instr) : (s.withPending q).notices = s.notices := rfl
@[simp] theorem State.withPending_field (s : State) (q : List Instr) : (s.withPending q).field = s.field := rfl
@[simp] theorem State.withPending_sweep (s : State) (q : List Instr) : (s.withPending q).sweep = s.sweep := rfl
@[simp] theorem State.withPending_supply (s : State) (q : List Instr) : (s.withPending q).supply = s.supply := rfl
@[simp] theorem State.withPending_freeSeq (s : State) (q : List Instr) : (s.withPending q).freeSeq = s.freeSeq := rfl

end Sys2Proof.Machine
end

