-- ==== Sys2Proof/Laws/Reads.lean ====
section
/-! SUPPORT. What each reading of the state gives after an update of something else. -/

namespace Sys2Proof.Machine


/-! ### setBand -/

@[simp] theorem State.setBand_now (s : State) (k : Nat) (b : Option Band) : (s.setBand k b).now = s.now := by unfold State.setBand; split <;> rfl
@[simp] theorem State.setBand_running (s : State) (k : Nat) (b : Option Band) : (s.setBand k b).running = s.running := by unfold State.setBand; split <;> rfl
@[simp] theorem State.setBand_slotOf (s : State) (k : Nat) (b : Option Band) (j : Nat) : (s.setBand k b).slotOf j = s.slotOf j := by unfold State.setBand; split <;> rfl
@[simp] theorem State.setBand_locker (s : State) (k : Nat) (b : Option Band) (j : Nat) : (s.setBand k b).locker j = s.locker j := by unfold State.setBand; split <;> rfl
@[simp] theorem State.setBand_cabin (s : State) (k : Nat) (b : Option Band) (j : Nat) : (s.setBand k b).cabin j = s.cabin j := by unfold State.setBand; split <;> rfl
@[simp] theorem State.setBand_cabinKind (s : State) (k : Nat) (b : Option Band) (j : Nat) : (s.setBand k b).cabinKind j = s.cabinKind j := by unfold State.setBand; split <;> rfl
@[simp] theorem State.setBand_zone (s : State) (k : Nat) (b : Option Band) (j : Nat) : (s.setBand k b).zone j = s.zone j := by unfold State.setBand; split <;> rfl
@[simp] theorem State.setBand_zoneOf (s : State) (k : Nat) (b : Option Band) (j : Nat) : (s.setBand k b).zoneOf j = s.zoneOf j := by unfold State.setBand; split <;> rfl
@[simp] theorem State.setBand_zoneUsed (s : State) (k : Nat) (b : Option Band) (j : Nat) : (s.setBand k b).zoneUsed j = s.zoneUsed j := by unfold State.setBand; split <;> rfl
@[simp] theorem State.setBand_module (s : State) (k : Nat) (b : Option Band) (j : Nat) : (s.setBand k b).module j = s.module j := by unfold State.setBand; split <;> rfl
@[simp] theorem State.setBand_moduleSetting (s : State) (k : Nat) (b : Option Band) (j : Nat) : (s.setBand k b).moduleSetting j = s.moduleSetting j := by unfold State.setBand; split <;> rfl
@[simp] theorem State.setBand_configured (s : State) (k : Nat) (b : Option Band) (j : Nat) : (s.setBand k b).configured j = s.configured j := by unfold State.setBand; split <;> rfl
@[simp] theorem State.setBand_watch (s : State) (k : Nat) (b : Option Band) (j : Nat) : (s.setBand k b).watch j = s.watch j := by unfold State.setBand; split <;> rfl
@[simp] theorem State.setBand_port (s : State) (k : Nat) (b : Option Band) (j : PortId) : (s.setBand k b).port j = s.port j := by unfold State.setBand; split <;> rfl
@[simp] theorem State.setBand_queue (s : State) (k : Nat) (b : Option Band) (j : PortId) : (s.setBand k b).queue j = s.queue j := by unfold State.setBand; split <;> rfl
@[simp] theorem State.setBand_queueFull (s : State) (k : Nat) (b : Option Band) : (s.setBand k b).queueFull = s.queueFull := by unfold State.setBand; split <;> rfl
@[simp] theorem State.setBand_isSilent (s : State) (k : Nat) (b : Option Band) (j : Nat) : (s.setBand k b).isSilent j = s.isSilent j := by unfold State.setBand; split <;> rfl
@[simp] theorem State.setBand_stopped (s : State) (k : Nat) (b : Option Band) (j : Nat) : (s.setBand k b).stopped j = s.stopped j := by unfold State.setBand; split <;> rfl
@[simp] theorem State.setBand_waitingItem (s : State) (k : Nat) (b : Option Band) : (s.setBand k b).waitingItem = s.waitingItem := by unfold State.setBand; split <;> rfl

/-! ### mapSerial -/

@[simp] theorem State.mapSerial_now (s : State) (n k : Nat) : (s.mapSerial n k).now = s.now := rfl
@[simp] theorem State.mapSerial_running (s : State) (n k : Nat) : (s.mapSerial n k).running = s.running := rfl
@[simp] theorem State.mapSerial_band (s : State) (n k : Nat) (j : Nat) : (s.mapSerial n k).band j = s.band j := rfl
@[simp] theorem State.mapSerial_locker (s : State) (n k : Nat) (j : Nat) : (s.mapSerial n k).locker j = s.locker j := rfl
@[simp] theorem State.mapSerial_cabin (s : State) (n k : Nat) (j : Nat) : (s.mapSerial n k).cabin j = s.cabin j := rfl
@[simp] theorem State.mapSerial_cabinKind (s : State) (n k : Nat) (j : Nat) : (s.mapSerial n k).cabinKind j = s.cabinKind j := rfl
@[simp] theorem State.mapSerial_zone (s : State) (n k : Nat) (j : Nat) : (s.mapSerial n k).zone j = s.zone j := rfl
@[simp] theorem State.mapSerial_zoneOf (s : State) (n k : Nat) (j : Nat) : (s.mapSerial n k).zoneOf j = s.zoneOf j := rfl
@[simp] theorem State.mapSerial_zoneUsed (s : State) (n k : Nat) (j : Nat) : (s.mapSerial n k).zoneUsed j = s.zoneUsed j := rfl
@[simp] theorem State.mapSerial_module (s : State) (n k : Nat) (j : Nat) : (s.mapSerial n k).module j = s.module j := rfl
@[simp] theorem State.mapSerial_moduleSetting (s : State) (n k : Nat) (j : Nat) : (s.mapSerial n k).moduleSetting j = s.moduleSetting j := rfl
@[simp] theorem State.mapSerial_configured (s : State) (n k : Nat) (j : Nat) : (s.mapSerial n k).configured j = s.configured j := rfl
@[simp] theorem State.mapSerial_watch (s : State) (n k : Nat) (j : Nat) : (s.mapSerial n k).watch j = s.watch j := rfl
@[simp] theorem State.mapSerial_port (s : State) (n k : Nat) (j : PortId) : (s.mapSerial n k).port j = s.port j := rfl
@[simp] theorem State.mapSerial_queue (s : State) (n k : Nat) (j : PortId) : (s.mapSerial n k).queue j = s.queue j := rfl
@[simp] theorem State.mapSerial_queueFull (s : State) (n k : Nat) : (s.mapSerial n k).queueFull = s.queueFull := rfl
@[simp] theorem State.mapSerial_isSilent (s : State) (n k : Nat) (j : Nat) : (s.mapSerial n k).isSilent j = s.isSilent j := rfl
@[simp] theorem State.mapSerial_stopped (s : State) (n k : Nat) (j : Nat) : (s.mapSerial n k).stopped j = s.stopped j := rfl
@[simp] theorem State.mapSerial_serialOf (s : State) (n k : Nat) (j : Nat) : (s.mapSerial n k).serialOf j = s.serialOf j := rfl
@[simp] theorem State.mapSerial_heldBy (s : State) (n k : Nat) (j : Nat) : (s.mapSerial n k).heldBy j = s.heldBy j := rfl
@[simp] theorem State.mapSerial_waitingItem (s : State) (n k : Nat) : (s.mapSerial n k).waitingItem = s.waitingItem := rfl

/-! ### unmapSerial -/

@[simp] theorem State.unmapSerial_now (s : State) (n : Nat) : (s.unmapSerial n).now = s.now := rfl
@[simp] theorem State.unmapSerial_running (s : State) (n : Nat) : (s.unmapSerial n).running = s.running := rfl
@[simp] theorem State.unmapSerial_band (s : State) (n : Nat) (j : Nat) : (s.unmapSerial n).band j = s.band j := rfl
@[simp] theorem State.unmapSerial_locker (s : State) (n : Nat) (j : Nat) : (s.unmapSerial n).locker j = s.locker j := rfl
@[simp] theorem State.unmapSerial_cabin (s : State) (n : Nat) (j : Nat) : (s.unmapSerial n).cabin j = s.cabin j := rfl
@[simp] theorem State.unmapSerial_cabinKind (s : State) (n : Nat) (j : Nat) : (s.unmapSerial n).cabinKind j = s.cabinKind j := rfl
@[simp] theorem State.unmapSerial_zone (s : State) (n : Nat) (j : Nat) : (s.unmapSerial n).zone j = s.zone j := rfl
@[simp] theorem State.unmapSerial_zoneOf (s : State) (n : Nat) (j : Nat) : (s.unmapSerial n).zoneOf j = s.zoneOf j := rfl
@[simp] theorem State.unmapSerial_zoneUsed (s : State) (n : Nat) (j : Nat) : (s.unmapSerial n).zoneUsed j = s.zoneUsed j := rfl
@[simp] theorem State.unmapSerial_module (s : State) (n : Nat) (j : Nat) : (s.unmapSerial n).module j = s.module j := rfl
@[simp] theorem State.unmapSerial_moduleSetting (s : State) (n : Nat) (j : Nat) : (s.unmapSerial n).moduleSetting j = s.moduleSetting j := rfl
@[simp] theorem State.unmapSerial_configured (s : State) (n : Nat) (j : Nat) : (s.unmapSerial n).configured j = s.configured j := rfl
@[simp] theorem State.unmapSerial_watch (s : State) (n : Nat) (j : Nat) : (s.unmapSerial n).watch j = s.watch j := rfl
@[simp] theorem State.unmapSerial_port (s : State) (n : Nat) (j : PortId) : (s.unmapSerial n).port j = s.port j := rfl
@[simp] theorem State.unmapSerial_queue (s : State) (n : Nat) (j : PortId) : (s.unmapSerial n).queue j = s.queue j := rfl
@[simp] theorem State.unmapSerial_queueFull (s : State) (n : Nat) : (s.unmapSerial n).queueFull = s.queueFull := rfl
@[simp] theorem State.unmapSerial_isSilent (s : State) (n : Nat) (j : Nat) : (s.unmapSerial n).isSilent j = s.isSilent j := rfl
@[simp] theorem State.unmapSerial_stopped (s : State) (n : Nat) (j : Nat) : (s.unmapSerial n).stopped j = s.stopped j := rfl
@[simp] theorem State.unmapSerial_serialOf (s : State) (n : Nat) (j : Nat) : (s.unmapSerial n).serialOf j = s.serialOf j := rfl
@[simp] theorem State.unmapSerial_heldBy (s : State) (n : Nat) (j : Nat) : (s.unmapSerial n).heldBy j = s.heldBy j := rfl
@[simp] theorem State.unmapSerial_waitingItem (s : State) (n : Nat) : (s.unmapSerial n).waitingItem = s.waitingItem := rfl

/-! ### setLocker -/

@[simp] theorem State.setLocker_now (s : State) (n : Nat) (l : Locker) : (s.setLocker n l).now = s.now := by unfold State.setLocker; split <;> rfl
@[simp] theorem State.setLocker_running (s : State) (n : Nat) (l : Locker) : (s.setLocker n l).running = s.running := by unfold State.setLocker; split <;> rfl
@[simp] theorem State.setLocker_band (s : State) (n : Nat) (l : Locker) (j : Nat) : (s.setLocker n l).band j = s.band j := by unfold State.setLocker; split <;> rfl
@[simp] theorem State.setLocker_slotOf (s : State) (n : Nat) (l : Locker) (j : Nat) : (s.setLocker n l).slotOf j = s.slotOf j := by unfold State.setLocker; split <;> rfl
@[simp] theorem State.setLocker_cabin (s : State) (n : Nat) (l : Locker) (j : Nat) : (s.setLocker n l).cabin j = s.cabin j := by unfold State.setLocker; split <;> rfl
@[simp] theorem State.setLocker_cabinKind (s : State) (n : Nat) (l : Locker) (j : Nat) : (s.setLocker n l).cabinKind j = s.cabinKind j := by unfold State.setLocker; split <;> rfl
@[simp] theorem State.setLocker_zone (s : State) (n : Nat) (l : Locker) (j : Nat) : (s.setLocker n l).zone j = s.zone j := by unfold State.setLocker; split <;> rfl
@[simp] theorem State.setLocker_zoneOf (s : State) (n : Nat) (l : Locker) (j : Nat) : (s.setLocker n l).zoneOf j = s.zoneOf j := by unfold State.setLocker; split <;> rfl
@[simp] theorem State.setLocker_zoneUsed (s : State) (n : Nat) (l : Locker) (j : Nat) : (s.setLocker n l).zoneUsed j = s.zoneUsed j := by unfold State.setLocker; split <;> rfl
@[simp] theorem State.setLocker_module (s : State) (n : Nat) (l : Locker) (j : Nat) : (s.setLocker n l).module j = s.module j := by unfold State.setLocker; split <;> rfl
@[simp] theorem State.setLocker_moduleSetting (s : State) (n : Nat) (l : Locker) (j : Nat) : (s.setLocker n l).moduleSetting j = s.moduleSetting j := by unfold State.setLocker; split <;> rfl
@[simp] theorem State.setLocker_configured (s : State) (n : Nat) (l : Locker) (j : Nat) : (s.setLocker n l).configured j = s.configured j := by unfold State.setLocker; split <;> rfl
@[simp] theorem State.setLocker_watch (s : State) (n : Nat) (l : Locker) (j : Nat) : (s.setLocker n l).watch j = s.watch j := by unfold State.setLocker; split <;> rfl
@[simp] theorem State.setLocker_port (s : State) (n : Nat) (l : Locker) (j : PortId) : (s.setLocker n l).port j = s.port j := by unfold State.setLocker; split <;> rfl
@[simp] theorem State.setLocker_queue (s : State) (n : Nat) (l : Locker) (j : PortId) : (s.setLocker n l).queue j = s.queue j := by unfold State.setLocker; split <;> rfl
@[simp] theorem State.setLocker_queueFull (s : State) (n : Nat) (l : Locker) : (s.setLocker n l).queueFull = s.queueFull := by unfold State.setLocker; split <;> rfl
@[simp] theorem State.setLocker_isSilent (s : State) (n : Nat) (l : Locker) (j : Nat) : (s.setLocker n l).isSilent j = s.isSilent j := by unfold State.setLocker; split <;> rfl
@[simp] theorem State.setLocker_stopped (s : State) (n : Nat) (l : Locker) (j : Nat) : (s.setLocker n l).stopped j = s.stopped j := by unfold State.setLocker; split <;> rfl
@[simp] theorem State.setLocker_serialOf (s : State) (n : Nat) (l : Locker) (j : Nat) : (s.setLocker n l).serialOf j = s.serialOf j := by unfold State.setLocker; split <;> rfl
@[simp] theorem State.setLocker_heldBy (s : State) (n : Nat) (l : Locker) (j : Nat) : (s.setLocker n l).heldBy j = s.heldBy j := by unfold State.setLocker; split <;> rfl
@[simp] theorem State.setLocker_waitingItem (s : State) (n : Nat) (l : Locker) : (s.setLocker n l).waitingItem = s.waitingItem := by unfold State.setLocker; split <;> rfl

/-! ### setCabin -/

@[simp] theorem State.setCabin_now (s : State) (c : Nat) (r : Cabin) : (s.setCabin c r).now = s.now := by unfold State.setCabin; split <;> rfl
@[simp] theorem State.setCabin_running (s : State) (c : Nat) (r : Cabin) : (s.setCabin c r).running = s.running := by unfold State.setCabin; split <;> rfl
@[simp] theorem State.setCabin_band (s : State) (c : Nat) (r : Cabin) (j : Nat) : (s.setCabin c r).band j = s.band j := by unfold State.setCabin; split <;> rfl
@[simp] theorem State.setCabin_slotOf (s : State) (c : Nat) (r : Cabin) (j : Nat) : (s.setCabin c r).slotOf j = s.slotOf j := by unfold State.setCabin; split <;> rfl
@[simp] theorem State.setCabin_locker (s : State) (c : Nat) (r : Cabin) (j : Nat) : (s.setCabin c r).locker j = s.locker j := by unfold State.setCabin; split <;> rfl
@[simp] theorem State.setCabin_cabinKind (s : State) (c : Nat) (r : Cabin) (j : Nat) : (s.setCabin c r).cabinKind j = s.cabinKind j := by unfold State.setCabin; split <;> rfl
@[simp] theorem State.setCabin_zone (s : State) (c : Nat) (r : Cabin) (j : Nat) : (s.setCabin c r).zone j = s.zone j := by unfold State.setCabin; split <;> rfl
@[simp] theorem State.setCabin_zoneOf (s : State) (c : Nat) (r : Cabin) (j : Nat) : (s.setCabin c r).zoneOf j = s.zoneOf j := by unfold State.setCabin; split <;> rfl
@[simp] theorem State.setCabin_zoneUsed (s : State) (c : Nat) (r : Cabin) (j : Nat) : (s.setCabin c r).zoneUsed j = s.zoneUsed j := by unfold State.setCabin; split <;> rfl
@[simp] theorem State.setCabin_module (s : State) (c : Nat) (r : Cabin) (j : Nat) : (s.setCabin c r).module j = s.module j := by unfold State.setCabin; split <;> rfl
@[simp] theorem State.setCabin_moduleSetting (s : State) (c : Nat) (r : Cabin) (j : Nat) : (s.setCabin c r).moduleSetting j = s.moduleSetting j := by unfold State.setCabin; split <;> rfl
@[simp] theorem State.setCabin_configured (s : State) (c : Nat) (r : Cabin) (j : Nat) : (s.setCabin c r).configured j = s.configured j := by unfold State.setCabin; split <;> rfl
@[simp] theorem State.setCabin_watch (s : State) (c : Nat) (r : Cabin) (j : Nat) : (s.setCabin c r).watch j = s.watch j := by unfold State.setCabin; split <;> rfl
@[simp] theorem State.setCabin_port (s : State) (c : Nat) (r : Cabin) (j : PortId) : (s.setCabin c r).port j = s.port j := by unfold State.setCabin; split <;> rfl
@[simp] theorem State.setCabin_queue (s : State) (c : Nat) (r : Cabin) (j : PortId) : (s.setCabin c r).queue j = s.queue j := by unfold State.setCabin; split <;> rfl
@[simp] theorem State.setCabin_queueFull (s : State) (c : Nat) (r : Cabin) : (s.setCabin c r).queueFull = s.queueFull := by unfold State.setCabin; split <;> rfl
@[simp] theorem State.setCabin_isSilent (s : State) (c : Nat) (r : Cabin) (j : Nat) : (s.setCabin c r).isSilent j = s.isSilent j := by unfold State.setCabin; split <;> rfl
@[simp] theorem State.setCabin_stopped (s : State) (c : Nat) (r : Cabin) (j : Nat) : (s.setCabin c r).stopped j = s.stopped j := by unfold State.setCabin; split <;> rfl
@[simp] theorem State.setCabin_serialOf (s : State) (c : Nat) (r : Cabin) (j : Nat) : (s.setCabin c r).serialOf j = s.serialOf j := by unfold State.setCabin; split <;> rfl
@[simp] theorem State.setCabin_heldBy (s : State) (c : Nat) (r : Cabin) (j : Nat) : (s.setCabin c r).heldBy j = s.heldBy j := by unfold State.setCabin; split <;> rfl
@[simp] theorem State.setCabin_waitingItem (s : State) (c : Nat) (r : Cabin) : (s.setCabin c r).waitingItem = s.waitingItem := by unfold State.setCabin; split <;> rfl

/-! ### setZoneUsed -/

@[simp] theorem State.setZoneUsed_now (s : State) (z : Nat) (u : Bool) : (s.setZoneUsed z u).now = s.now := rfl
@[simp] theorem State.setZoneUsed_running (s : State) (z : Nat) (u : Bool) : (s.setZoneUsed z u).running = s.running := rfl
@[simp] theorem State.setZoneUsed_band (s : State) (z : Nat) (u : Bool) (j : Nat) : (s.setZoneUsed z u).band j = s.band j := rfl
@[simp] theorem State.setZoneUsed_slotOf (s : State) (z : Nat) (u : Bool) (j : Nat) : (s.setZoneUsed z u).slotOf j = s.slotOf j := rfl
@[simp] theorem State.setZoneUsed_locker (s : State) (z : Nat) (u : Bool) (j : Nat) : (s.setZoneUsed z u).locker j = s.locker j := rfl
@[simp] theorem State.setZoneUsed_cabin (s : State) (z : Nat) (u : Bool) (j : Nat) : (s.setZoneUsed z u).cabin j = s.cabin j := rfl
@[simp] theorem State.setZoneUsed_cabinKind (s : State) (z : Nat) (u : Bool) (j : Nat) : (s.setZoneUsed z u).cabinKind j = s.cabinKind j := rfl
@[simp] theorem State.setZoneUsed_zone (s : State) (z : Nat) (u : Bool) (j : Nat) : (s.setZoneUsed z u).zone j = s.zone j := rfl
@[simp] theorem State.setZoneUsed_zoneOf (s : State) (z : Nat) (u : Bool) (j : Nat) : (s.setZoneUsed z u).zoneOf j = s.zoneOf j := rfl
@[simp] theorem State.setZoneUsed_module (s : State) (z : Nat) (u : Bool) (j : Nat) : (s.setZoneUsed z u).module j = s.module j := rfl
@[simp] theorem State.setZoneUsed_moduleSetting (s : State) (z : Nat) (u : Bool) (j : Nat) : (s.setZoneUsed z u).moduleSetting j = s.moduleSetting j := rfl
@[simp] theorem State.setZoneUsed_configured (s : State) (z : Nat) (u : Bool) (j : Nat) : (s.setZoneUsed z u).configured j = s.configured j := rfl
@[simp] theorem State.setZoneUsed_watch (s : State) (z : Nat) (u : Bool) (j : Nat) : (s.setZoneUsed z u).watch j = s.watch j := rfl
@[simp] theorem State.setZoneUsed_port (s : State) (z : Nat) (u : Bool) (j : PortId) : (s.setZoneUsed z u).port j = s.port j := rfl
@[simp] theorem State.setZoneUsed_queue (s : State) (z : Nat) (u : Bool) (j : PortId) : (s.setZoneUsed z u).queue j = s.queue j := rfl
@[simp] theorem State.setZoneUsed_queueFull (s : State) (z : Nat) (u : Bool) : (s.setZoneUsed z u).queueFull = s.queueFull := rfl
@[simp] theorem State.setZoneUsed_isSilent (s : State) (z : Nat) (u : Bool) (j : Nat) : (s.setZoneUsed z u).isSilent j = s.isSilent j := rfl
@[simp] theorem State.setZoneUsed_stopped (s : State) (z : Nat) (u : Bool) (j : Nat) : (s.setZoneUsed z u).stopped j = s.stopped j := rfl
@[simp] theorem State.setZoneUsed_serialOf (s : State) (z : Nat) (u : Bool) (j : Nat) : (s.setZoneUsed z u).serialOf j = s.serialOf j := rfl
@[simp] theorem State.setZoneUsed_heldBy (s : State) (z : Nat) (u : Bool) (j : Nat) : (s.setZoneUsed z u).heldBy j = s.heldBy j := rfl
@[simp] theorem State.setZoneUsed_waitingItem (s : State) (z : Nat) (u : Bool) : (s.setZoneUsed z u).waitingItem = s.waitingItem := rfl

/-! ### setModule -/

@[simp] theorem State.setModule_now (s : State) (a : Nat) (m : Module) : (s.setModule a m).now = s.now := by unfold State.setModule; split <;> rfl
@[simp] theorem State.setModule_running (s : State) (a : Nat) (m : Module) : (s.setModule a m).running = s.running := by unfold State.setModule; split <;> rfl
@[simp] theorem State.setModule_band (s : State) (a : Nat) (m : Module) (j : Nat) : (s.setModule a m).band j = s.band j := by unfold State.setModule; split <;> rfl
@[simp] theorem State.setModule_slotOf (s : State) (a : Nat) (m : Module) (j : Nat) : (s.setModule a m).slotOf j = s.slotOf j := by unfold State.setModule; split <;> rfl
@[simp] theorem State.setModule_locker (s : State) (a : Nat) (m : Module) (j : Nat) : (s.setModule a m).locker j = s.locker j := by unfold State.setModule; split <;> rfl
@[simp] theorem State.setModule_cabin (s : State) (a : Nat) (m : Module) (j : Nat) : (s.setModule a m).cabin j = s.cabin j := by unfold State.setModule; split <;> rfl
@[simp] theorem State.setModule_cabinKind (s : State) (a : Nat) (m : Module) (j : Nat) : (s.setModule a m).cabinKind j = s.cabinKind j := by unfold State.setModule; split <;> rfl
@[simp] theorem State.setModule_zone (s : State) (a : Nat) (m : Module) (j : Nat) : (s.setModule a m).zone j = s.zone j := by unfold State.setModule; split <;> rfl
@[simp] theorem State.setModule_zoneOf (s : State) (a : Nat) (m : Module) (j : Nat) : (s.setModule a m).zoneOf j = s.zoneOf j := by unfold State.setModule; split <;> rfl
@[simp] theorem State.setModule_zoneUsed (s : State) (a : Nat) (m : Module) (j : Nat) : (s.setModule a m).zoneUsed j = s.zoneUsed j := by unfold State.setModule; split <;> rfl
@[simp] theorem State.setModule_moduleSetting (s : State) (a : Nat) (m : Module) (j : Nat) : (s.setModule a m).moduleSetting j = s.moduleSetting j := by unfold State.setModule; split <;> rfl
@[simp] theorem State.setModule_configured (s : State) (a : Nat) (m : Module) (j : Nat) : (s.setModule a m).configured j = s.configured j := by unfold State.setModule; split <;> rfl
@[simp] theorem State.setModule_watch (s : State) (a : Nat) (m : Module) (j : Nat) : (s.setModule a m).watch j = s.watch j := by unfold State.setModule; split <;> rfl
@[simp] theorem State.setModule_port (s : State) (a : Nat) (m : Module) (j : PortId) : (s.setModule a m).port j = s.port j := by unfold State.setModule; split <;> rfl
@[simp] theorem State.setModule_queue (s : State) (a : Nat) (m : Module) (j : PortId) : (s.setModule a m).queue j = s.queue j := by unfold State.setModule; split <;> rfl
@[simp] theorem State.setModule_queueFull (s : State) (a : Nat) (m : Module) : (s.setModule a m).queueFull = s.queueFull := by unfold State.setModule; split <;> rfl
@[simp] theorem State.setModule_stopped (s : State) (a : Nat) (m : Module) (j : Nat) : (s.setModule a m).stopped j = s.stopped j := by unfold State.setModule; split <;> rfl
@[simp] theorem State.setModule_serialOf (s : State) (a : Nat) (m : Module) (j : Nat) : (s.setModule a m).serialOf j = s.serialOf j := by unfold State.setModule; split <;> rfl
@[simp] theorem State.setModule_heldBy (s : State) (a : Nat) (m : Module) (j : Nat) : (s.setModule a m).heldBy j = s.heldBy j := by unfold State.setModule; split <;> rfl
@[simp] theorem State.setModule_waitingItem (s : State) (a : Nat) (m : Module) : (s.setModule a m).waitingItem = s.waitingItem := by unfold State.setModule; split <;> rfl

/-! ### setWatch -/

@[simp] theorem State.setWatch_now (s : State) (i : Nat) (w : Watch) : (s.setWatch i w).now = s.now := rfl
@[simp] theorem State.setWatch_running (s : State) (i : Nat) (w : Watch) : (s.setWatch i w).running = s.running := rfl
@[simp] theorem State.setWatch_band (s : State) (i : Nat) (w : Watch) (j : Nat) : (s.setWatch i w).band j = s.band j := rfl
@[simp] theorem State.setWatch_slotOf (s : State) (i : Nat) (w : Watch) (j : Nat) : (s.setWatch i w).slotOf j = s.slotOf j := rfl
@[simp] theorem State.setWatch_locker (s : State) (i : Nat) (w : Watch) (j : Nat) : (s.setWatch i w).locker j = s.locker j := rfl
@[simp] theorem State.setWatch_cabin (s : State) (i : Nat) (w : Watch) (j : Nat) : (s.setWatch i w).cabin j = s.cabin j := rfl
@[simp] theorem State.setWatch_cabinKind (s : State) (i : Nat) (w : Watch) (j : Nat) : (s.setWatch i w).cabinKind j = s.cabinKind j := rfl
@[simp] theorem State.setWatch_zone (s : State) (i : Nat) (w : Watch) (j : Nat) : (s.setWatch i w).zone j = s.zone j := rfl
@[simp] theorem State.setWatch_zoneOf (s : State) (i : Nat) (w : Watch) (j : Nat) : (s.setWatch i w).zoneOf j = s.zoneOf j := rfl
@[simp] theorem State.setWatch_zoneUsed (s : State) (i : Nat) (w : Watch) (j : Nat) : (s.setWatch i w).zoneUsed j = s.zoneUsed j := rfl
@[simp] theorem State.setWatch_module (s : State) (i : Nat) (w : Watch) (j : Nat) : (s.setWatch i w).module j = s.module j := rfl
@[simp] theorem State.setWatch_moduleSetting (s : State) (i : Nat) (w : Watch) (j : Nat) : (s.setWatch i w).moduleSetting j = s.moduleSetting j := rfl
@[simp] theorem State.setWatch_configured (s : State) (i : Nat) (w : Watch) (j : Nat) : (s.setWatch i w).configured j = s.configured j := rfl
@[simp] theorem State.setWatch_port (s : State) (i : Nat) (w : Watch) (j : PortId) : (s.setWatch i w).port j = s.port j := rfl
@[simp] theorem State.setWatch_queue (s : State) (i : Nat) (w : Watch) (j : PortId) : (s.setWatch i w).queue j = s.queue j := rfl
@[simp] theorem State.setWatch_queueFull (s : State) (i : Nat) (w : Watch) : (s.setWatch i w).queueFull = s.queueFull := rfl
@[simp] theorem State.setWatch_isSilent (s : State) (i : Nat) (w : Watch) (j : Nat) : (s.setWatch i w).isSilent j = s.isSilent j := rfl
@[simp] theorem State.setWatch_serialOf (s : State) (i : Nat) (w : Watch) (j : Nat) : (s.setWatch i w).serialOf j = s.serialOf j := rfl
@[simp] theorem State.setWatch_heldBy (s : State) (i : Nat) (w : Watch) (j : Nat) : (s.setWatch i w).heldBy j = s.heldBy j := rfl
@[simp] theorem State.setWatch_waitingItem (s : State) (i : Nat) (w : Watch) : (s.setWatch i w).waitingItem = s.waitingItem := rfl

/-! ### remember -/

@[simp] theorem State.remember_now (s : State) (p : PortId) (b : Before) : (s.remember p b).now = s.now := rfl
@[simp] theorem State.remember_running (s : State) (p : PortId) (b : Before) : (s.remember p b).running = s.running := rfl
@[simp] theorem State.remember_band (s : State) (p : PortId) (b : Before) (j : Nat) : (s.remember p b).band j = s.band j := rfl
@[simp] theorem State.remember_slotOf (s : State) (p : PortId) (b : Before) (j : Nat) : (s.remember p b).slotOf j = s.slotOf j := rfl
@[simp] theorem State.remember_locker (s : State) (p : PortId) (b : Before) (j : Nat) : (s.remember p b).locker j = s.locker j := rfl
@[simp] theorem State.remember_cabin (s : State) (p : PortId) (b : Before) (j : Nat) : (s.remember p b).cabin j = s.cabin j := rfl
@[simp] theorem State.remember_cabinKind (s : State) (p : PortId) (b : Before) (j : Nat) : (s.remember p b).cabinKind j = s.cabinKind j := rfl
@[simp] theorem State.remember_zone (s : State) (p : PortId) (b : Before) (j : Nat) : (s.remember p b).zone j = s.zone j := rfl
@[simp] theorem State.remember_zoneOf (s : State) (p : PortId) (b : Before) (j : Nat) : (s.remember p b).zoneOf j = s.zoneOf j := rfl
@[simp] theorem State.remember_zoneUsed (s : State) (p : PortId) (b : Before) (j : Nat) : (s.remember p b).zoneUsed j = s.zoneUsed j := rfl
@[simp] theorem State.remember_module (s : State) (p : PortId) (b : Before) (j : Nat) : (s.remember p b).module j = s.module j := rfl
@[simp] theorem State.remember_moduleSetting (s : State) (p : PortId) (b : Before) (j : Nat) : (s.remember p b).moduleSetting j = s.moduleSetting j := rfl
@[simp] theorem State.remember_configured (s : State) (p : PortId) (b : Before) (j : Nat) : (s.remember p b).configured j = s.configured j := rfl
@[simp] theorem State.remember_watch (s : State) (p : PortId) (b : Before) (j : Nat) : (s.remember p b).watch j = s.watch j := rfl
@[simp] theorem State.remember_port (s : State) (p : PortId) (b : Before) (j : PortId) : (s.remember p b).port j = s.port j := rfl
@[simp] theorem State.remember_queue (s : State) (p : PortId) (b : Before) (j : PortId) : (s.remember p b).queue j = s.queue j := rfl
@[simp] theorem State.remember_queueFull (s : State) (p : PortId) (b : Before) : (s.remember p b).queueFull = s.queueFull := rfl
@[simp] theorem State.remember_isSilent (s : State) (p : PortId) (b : Before) (j : Nat) : (s.remember p b).isSilent j = s.isSilent j := rfl
@[simp] theorem State.remember_stopped (s : State) (p : PortId) (b : Before) (j : Nat) : (s.remember p b).stopped j = s.stopped j := rfl
@[simp] theorem State.remember_serialOf (s : State) (p : PortId) (b : Before) (j : Nat) : (s.remember p b).serialOf j = s.serialOf j := rfl
@[simp] theorem State.remember_heldBy (s : State) (p : PortId) (b : Before) (j : Nat) : (s.remember p b).heldBy j = s.heldBy j := rfl
@[simp] theorem State.remember_waitingItem (s : State) (p : PortId) (b : Before) : (s.remember p b).waitingItem = s.waitingItem := rfl

/-! ### closeUndo -/

@[simp] theorem State.closeUndo_now (s : State) (p : PortId) : (s.closeUndo p).now = s.now := rfl
@[simp] theorem State.closeUndo_running (s : State) (p : PortId) : (s.closeUndo p).running = s.running := rfl
@[simp] theorem State.closeUndo_band (s : State) (p : PortId) (j : Nat) : (s.closeUndo p).band j = s.band j := rfl
@[simp] theorem State.closeUndo_slotOf (s : State) (p : PortId) (j : Nat) : (s.closeUndo p).slotOf j = s.slotOf j := rfl
@[simp] theorem State.closeUndo_locker (s : State) (p : PortId) (j : Nat) : (s.closeUndo p).locker j = s.locker j := rfl
@[simp] theorem State.closeUndo_cabin (s : State) (p : PortId) (j : Nat) : (s.closeUndo p).cabin j = s.cabin j := rfl
@[simp] theorem State.closeUndo_cabinKind (s : State) (p : PortId) (j : Nat) : (s.closeUndo p).cabinKind j = s.cabinKind j := rfl
@[simp] theorem State.closeUndo_zone (s : State) (p : PortId) (j : Nat) : (s.closeUndo p).zone j = s.zone j := rfl
@[simp] theorem State.closeUndo_zoneOf (s : State) (p : PortId) (j : Nat) : (s.closeUndo p).zoneOf j = s.zoneOf j := rfl
@[simp] theorem State.closeUndo_zoneUsed (s : State) (p : PortId) (j : Nat) : (s.closeUndo p).zoneUsed j = s.zoneUsed j := rfl
@[simp] theorem State.closeUndo_module (s : State) (p : PortId) (j : Nat) : (s.closeUndo p).module j = s.module j := rfl
@[simp] theorem State.closeUndo_moduleSetting (s : State) (p : PortId) (j : Nat) : (s.closeUndo p).moduleSetting j = s.moduleSetting j := rfl
@[simp] theorem State.closeUndo_configured (s : State) (p : PortId) (j : Nat) : (s.closeUndo p).configured j = s.configured j := rfl
@[simp] theorem State.closeUndo_watch (s : State) (p : PortId) (j : Nat) : (s.closeUndo p).watch j = s.watch j := rfl
@[simp] theorem State.closeUndo_port (s : State) (p : PortId) (j : PortId) : (s.closeUndo p).port j = s.port j := rfl
@[simp] theorem State.closeUndo_queue (s : State) (p : PortId) (j : PortId) : (s.closeUndo p).queue j = s.queue j := rfl
@[simp] theorem State.closeUndo_queueFull (s : State) (p : PortId) : (s.closeUndo p).queueFull = s.queueFull := rfl
@[simp] theorem State.closeUndo_isSilent (s : State) (p : PortId) (j : Nat) : (s.closeUndo p).isSilent j = s.isSilent j := rfl
@[simp] theorem State.closeUndo_stopped (s : State) (p : PortId) (j : Nat) : (s.closeUndo p).stopped j = s.stopped j := rfl
@[simp] theorem State.closeUndo_serialOf (s : State) (p : PortId) (j : Nat) : (s.closeUndo p).serialOf j = s.serialOf j := rfl
@[simp] theorem State.closeUndo_heldBy (s : State) (p : PortId) (j : Nat) : (s.closeUndo p).heldBy j = s.heldBy j := rfl
@[simp] theorem State.closeUndo_waitingItem (s : State) (p : PortId) : (s.closeUndo p).waitingItem = s.waitingItem := rfl

/-! ### supersede -/

@[simp] theorem State.supersede_now (s : State) (b : Before) : (s.supersede b).now = s.now := rfl
@[simp] theorem State.supersede_running (s : State) (b : Before) : (s.supersede b).running = s.running := rfl
@[simp] theorem State.supersede_band (s : State) (b : Before) (j : Nat) : (s.supersede b).band j = s.band j := rfl
@[simp] theorem State.supersede_slotOf (s : State) (b : Before) (j : Nat) : (s.supersede b).slotOf j = s.slotOf j := rfl
@[simp] theorem State.supersede_locker (s : State) (b : Before) (j : Nat) : (s.supersede b).locker j = s.locker j := rfl
@[simp] theorem State.supersede_cabin (s : State) (b : Before) (j : Nat) : (s.supersede b).cabin j = s.cabin j := rfl
@[simp] theorem State.supersede_cabinKind (s : State) (b : Before) (j : Nat) : (s.supersede b).cabinKind j = s.cabinKind j := rfl
@[simp] theorem State.supersede_zone (s : State) (b : Before) (j : Nat) : (s.supersede b).zone j = s.zone j := rfl
@[simp] theorem State.supersede_zoneOf (s : State) (b : Before) (j : Nat) : (s.supersede b).zoneOf j = s.zoneOf j := rfl
@[simp] theorem State.supersede_zoneUsed (s : State) (b : Before) (j : Nat) : (s.supersede b).zoneUsed j = s.zoneUsed j := rfl
@[simp] theorem State.supersede_module (s : State) (b : Before) (j : Nat) : (s.supersede b).module j = s.module j := rfl
@[simp] theorem State.supersede_moduleSetting (s : State) (b : Before) (j : Nat) : (s.supersede b).moduleSetting j = s.moduleSetting j := rfl
@[simp] theorem State.supersede_configured (s : State) (b : Before) (j : Nat) : (s.supersede b).configured j = s.configured j := rfl
@[simp] theorem State.supersede_watch (s : State) (b : Before) (j : Nat) : (s.supersede b).watch j = s.watch j := rfl
@[simp] theorem State.supersede_port (s : State) (b : Before) (j : PortId) : (s.supersede b).port j = s.port j := rfl
@[simp] theorem State.supersede_queue (s : State) (b : Before) (j : PortId) : (s.supersede b).queue j = s.queue j := rfl
@[simp] theorem State.supersede_queueFull (s : State) (b : Before) : (s.supersede b).queueFull = s.queueFull := rfl
@[simp] theorem State.supersede_isSilent (s : State) (b : Before) (j : Nat) : (s.supersede b).isSilent j = s.isSilent j := rfl
@[simp] theorem State.supersede_stopped (s : State) (b : Before) (j : Nat) : (s.supersede b).stopped j = s.stopped j := rfl
@[simp] theorem State.supersede_serialOf (s : State) (b : Before) (j : Nat) : (s.supersede b).serialOf j = s.serialOf j := rfl
@[simp] theorem State.supersede_heldBy (s : State) (b : Before) (j : Nat) : (s.supersede b).heldBy j = s.heldBy j := rfl
@[simp] theorem State.supersede_waitingItem (s : State) (b : Before) : (s.supersede b).waitingItem = s.waitingItem := rfl

/-! ### setPort -/

@[simp] theorem State.setPort_now (s : State) (p : PortId) (q : Port) : (s.setPort p q).now = s.now := rfl
@[simp] theorem State.setPort_running (s : State) (p : PortId) (q : Port) : (s.setPort p q).running = s.running := rfl
@[simp] theorem State.setPort_band (s : State) (p : PortId) (q : Port) (j : Nat) : (s.setPort p q).band j = s.band j := rfl
@[simp] theorem State.setPort_slotOf (s : State) (p : PortId) (q : Port) (j : Nat) : (s.setPort p q).slotOf j = s.slotOf j := rfl
@[simp] theorem State.setPort_locker (s : State) (p : PortId) (q : Port) (j : Nat) : (s.setPort p q).locker j = s.locker j := rfl
@[simp] theorem State.setPort_cabin (s : State) (p : PortId) (q : Port) (j : Nat) : (s.setPort p q).cabin j = s.cabin j := rfl
@[simp] theorem State.setPort_cabinKind (s : State) (p : PortId) (q : Port) (j : Nat) : (s.setPort p q).cabinKind j = s.cabinKind j := rfl
@[simp] theorem State.setPort_zone (s : State) (p : PortId) (q : Port) (j : Nat) : (s.setPort p q).zone j = s.zone j := rfl
@[simp] theorem State.setPort_zoneOf (s : State) (p : PortId) (q : Port) (j : Nat) : (s.setPort p q).zoneOf j = s.zoneOf j := rfl
@[simp] theorem State.setPort_zoneUsed (s : State) (p : PortId) (q : Port) (j : Nat) : (s.setPort p q).zoneUsed j = s.zoneUsed j := rfl
@[simp] theorem State.setPort_module (s : State) (p : PortId) (q : Port) (j : Nat) : (s.setPort p q).module j = s.module j := rfl
@[simp] theorem State.setPort_moduleSetting (s : State) (p : PortId) (q : Port) (j : Nat) : (s.setPort p q).moduleSetting j = s.moduleSetting j := rfl
@[simp] theorem State.setPort_configured (s : State) (p : PortId) (q : Port) (j : Nat) : (s.setPort p q).configured j = s.configured j := rfl
@[simp] theorem State.setPort_watch (s : State) (p : PortId) (q : Port) (j : Nat) : (s.setPort p q).watch j = s.watch j := rfl
@[simp] theorem State.setPort_queue (s : State) (p : PortId) (q : Port) (j : PortId) : (s.setPort p q).queue j = s.queue j := rfl
@[simp] theorem State.setPort_queueFull (s : State) (p : PortId) (q : Port) : (s.setPort p q).queueFull = s.queueFull := rfl
@[simp] theorem State.setPort_isSilent (s : State) (p : PortId) (q : Port) (j : Nat) : (s.setPort p q).isSilent j = s.isSilent j := rfl
@[simp] theorem State.setPort_stopped (s : State) (p : PortId) (q : Port) (j : Nat) : (s.setPort p q).stopped j = s.stopped j := rfl
@[simp] theorem State.setPort_serialOf (s : State) (p : PortId) (q : Port) (j : Nat) : (s.setPort p q).serialOf j = s.serialOf j := rfl
@[simp] theorem State.setPort_heldBy (s : State) (p : PortId) (q : Port) (j : Nat) : (s.setPort p q).heldBy j = s.heldBy j := rfl
@[simp] theorem State.setPort_waitingItem (s : State) (p : PortId) (q : Port) : (s.setPort p q).waitingItem = s.waitingItem := rfl

/-! ### setQueue -/

@[simp] theorem State.setQueue_now (s : State) (p : PortId) (q : List Notice) : (s.setQueue p q).now = s.now := rfl
@[simp] theorem State.setQueue_running (s : State) (p : PortId) (q : List Notice) : (s.setQueue p q).running = s.running := rfl
@[simp] theorem State.setQueue_band (s : State) (p : PortId) (q : List Notice) (j : Nat) : (s.setQueue p q).band j = s.band j := rfl
@[simp] theorem State.setQueue_slotOf (s : State) (p : PortId) (q : List Notice) (j : Nat) : (s.setQueue p q).slotOf j = s.slotOf j := rfl
@[simp] theorem State.setQueue_locker (s : State) (p : PortId) (q : List Notice) (j : Nat) : (s.setQueue p q).locker j = s.locker j := rfl
@[simp] theorem State.setQueue_cabin (s : State) (p : PortId) (q : List Notice) (j : Nat) : (s.setQueue p q).cabin j = s.cabin j := rfl
@[simp] theorem State.setQueue_cabinKind (s : State) (p : PortId) (q : List Notice) (j : Nat) : (s.setQueue p q).cabinKind j = s.cabinKind j := rfl
@[simp] theorem State.setQueue_zone (s : State) (p : PortId) (q : List Notice) (j : Nat) : (s.setQueue p q).zone j = s.zone j := rfl
@[simp] theorem State.setQueue_zoneOf (s : State) (p : PortId) (q : List Notice) (j : Nat) : (s.setQueue p q).zoneOf j = s.zoneOf j := rfl
@[simp] theorem State.setQueue_zoneUsed (s : State) (p : PortId) (q : List Notice) (j : Nat) : (s.setQueue p q).zoneUsed j = s.zoneUsed j := rfl
@[simp] theorem State.setQueue_module (s : State) (p : PortId) (q : List Notice) (j : Nat) : (s.setQueue p q).module j = s.module j := rfl
@[simp] theorem State.setQueue_moduleSetting (s : State) (p : PortId) (q : List Notice) (j : Nat) : (s.setQueue p q).moduleSetting j = s.moduleSetting j := rfl
@[simp] theorem State.setQueue_configured (s : State) (p : PortId) (q : List Notice) (j : Nat) : (s.setQueue p q).configured j = s.configured j := rfl
@[simp] theorem State.setQueue_watch (s : State) (p : PortId) (q : List Notice) (j : Nat) : (s.setQueue p q).watch j = s.watch j := rfl
@[simp] theorem State.setQueue_port (s : State) (p : PortId) (q : List Notice) (j : PortId) : (s.setQueue p q).port j = s.port j := rfl
@[simp] theorem State.setQueue_queueFull (s : State) (p : PortId) (q : List Notice) : (s.setQueue p q).queueFull = s.queueFull := rfl
@[simp] theorem State.setQueue_isSilent (s : State) (p : PortId) (q : List Notice) (j : Nat) : (s.setQueue p q).isSilent j = s.isSilent j := rfl
@[simp] theorem State.setQueue_stopped (s : State) (p : PortId) (q : List Notice) (j : Nat) : (s.setQueue p q).stopped j = s.stopped j := rfl
@[simp] theorem State.setQueue_serialOf (s : State) (p : PortId) (q : List Notice) (j : Nat) : (s.setQueue p q).serialOf j = s.serialOf j := rfl
@[simp] theorem State.setQueue_heldBy (s : State) (p : PortId) (q : List Notice) (j : Nat) : (s.setQueue p q).heldBy j = s.heldBy j := rfl
@[simp] theorem State.setQueue_waitingItem (s : State) (p : PortId) (q : List Notice) : (s.setQueue p q).waitingItem = s.waitingItem := rfl

/-! ### setOverflow -/

@[simp] theorem State.setOverflow_now (s : State) (p : PortId) (f : Bool) : (s.setOverflow p f).now = s.now := rfl
@[simp] theorem State.setOverflow_running (s : State) (p : PortId) (f : Bool) : (s.setOverflow p f).running = s.running := rfl
@[simp] theorem State.setOverflow_band (s : State) (p : PortId) (f : Bool) (j : Nat) : (s.setOverflow p f).band j = s.band j := rfl
@[simp] theorem State.setOverflow_slotOf (s : State) (p : PortId) (f : Bool) (j : Nat) : (s.setOverflow p f).slotOf j = s.slotOf j := rfl
@[simp] theorem State.setOverflow_locker (s : State) (p : PortId) (f : Bool) (j : Nat) : (s.setOverflow p f).locker j = s.locker j := rfl
@[simp] theorem State.setOverflow_cabin (s : State) (p : PortId) (f : Bool) (j : Nat) : (s.setOverflow p f).cabin j = s.cabin j := rfl
@[simp] theorem State.setOverflow_cabinKind (s : State) (p : PortId) (f : Bool) (j : Nat) : (s.setOverflow p f).cabinKind j = s.cabinKind j := rfl
@[simp] theorem State.setOverflow_zone (s : State) (p : PortId) (f : Bool) (j : Nat) : (s.setOverflow p f).zone j = s.zone j := rfl
@[simp] theorem State.setOverflow_zoneOf (s : State) (p : PortId) (f : Bool) (j : Nat) : (s.setOverflow p f).zoneOf j = s.zoneOf j := rfl
@[simp] theorem State.setOverflow_zoneUsed (s : State) (p : PortId) (f : Bool) (j : Nat) : (s.setOverflow p f).zoneUsed j = s.zoneUsed j := rfl
@[simp] theorem State.setOverflow_module (s : State) (p : PortId) (f : Bool) (j : Nat) : (s.setOverflow p f).module j = s.module j := rfl
@[simp] theorem State.setOverflow_moduleSetting (s : State) (p : PortId) (f : Bool) (j : Nat) : (s.setOverflow p f).moduleSetting j = s.moduleSetting j := rfl
@[simp] theorem State.setOverflow_configured (s : State) (p : PortId) (f : Bool) (j : Nat) : (s.setOverflow p f).configured j = s.configured j := rfl
@[simp] theorem State.setOverflow_watch (s : State) (p : PortId) (f : Bool) (j : Nat) : (s.setOverflow p f).watch j = s.watch j := rfl
@[simp] theorem State.setOverflow_port (s : State) (p : PortId) (f : Bool) (j : PortId) : (s.setOverflow p f).port j = s.port j := rfl
@[simp] theorem State.setOverflow_queue (s : State) (p : PortId) (f : Bool) (j : PortId) : (s.setOverflow p f).queue j = s.queue j := rfl
@[simp] theorem State.setOverflow_queueFull (s : State) (p : PortId) (f : Bool) : (s.setOverflow p f).queueFull = s.queueFull := rfl
@[simp] theorem State.setOverflow_isSilent (s : State) (p : PortId) (f : Bool) (j : Nat) : (s.setOverflow p f).isSilent j = s.isSilent j := rfl
@[simp] theorem State.setOverflow_stopped (s : State) (p : PortId) (f : Bool) (j : Nat) : (s.setOverflow p f).stopped j = s.stopped j := rfl
@[simp] theorem State.setOverflow_serialOf (s : State) (p : PortId) (f : Bool) (j : Nat) : (s.setOverflow p f).serialOf j = s.serialOf j := rfl
@[simp] theorem State.setOverflow_heldBy (s : State) (p : PortId) (f : Bool) (j : Nat) : (s.setOverflow p f).heldBy j = s.heldBy j := rfl
@[simp] theorem State.setOverflow_waitingItem (s : State) (p : PortId) (f : Bool) : (s.setOverflow p f).waitingItem = s.waitingItem := rfl

/-! ### notify -/

@[simp] theorem State.notify_now (s : State) (k : NoticeKind) (x : Option Place) (n : Option Nat) : (s.notify k x n).now = s.now := rfl
@[simp] theorem State.notify_running (s : State) (k : NoticeKind) (x : Option Place) (n : Option Nat) : (s.notify k x n).running = s.running := rfl
@[simp] theorem State.notify_band (s : State) (k : NoticeKind) (x : Option Place) (n : Option Nat) (j : Nat) : (s.notify k x n).band j = s.band j := rfl
@[simp] theorem State.notify_slotOf (s : State) (k : NoticeKind) (x : Option Place) (n : Option Nat) (j : Nat) : (s.notify k x n).slotOf j = s.slotOf j := rfl
@[simp] theorem State.notify_locker (s : State) (k : NoticeKind) (x : Option Place) (n : Option Nat) (j : Nat) : (s.notify k x n).locker j = s.locker j := rfl
@[simp] theorem State.notify_cabin (s : State) (k : NoticeKind) (x : Option Place) (n : Option Nat) (j : Nat) : (s.notify k x n).cabin j = s.cabin j := rfl
@[simp] theorem State.notify_cabinKind (s : State) (k : NoticeKind) (x : Option Place) (n : Option Nat) (j : Nat) : (s.notify k x n).cabinKind j = s.cabinKind j := rfl
@[simp] theorem State.notify_zone (s : State) (k : NoticeKind) (x : Option Place) (n : Option Nat) (j : Nat) : (s.notify k x n).zone j = s.zone j := rfl
@[simp] theorem State.notify_zoneOf (s : State) (k : NoticeKind) (x : Option Place) (n : Option Nat) (j : Nat) : (s.notify k x n).zoneOf j = s.zoneOf j := rfl
@[simp] theorem State.notify_zoneUsed (s : State) (k : NoticeKind) (x : Option Place) (n : Option Nat) (j : Nat) : (s.notify k x n).zoneUsed j = s.zoneUsed j := rfl
@[simp] theorem State.notify_module (s : State) (k : NoticeKind) (x : Option Place) (n : Option Nat) (j : Nat) : (s.notify k x n).module j = s.module j := rfl
@[simp] theorem State.notify_moduleSetting (s : State) (k : NoticeKind) (x : Option Place) (n : Option Nat) (j : Nat) : (s.notify k x n).moduleSetting j = s.moduleSetting j := rfl
@[simp] theorem State.notify_configured (s : State) (k : NoticeKind) (x : Option Place) (n : Option Nat) (j : Nat) : (s.notify k x n).configured j = s.configured j := rfl
@[simp] theorem State.notify_watch (s : State) (k : NoticeKind) (x : Option Place) (n : Option Nat) (j : Nat) : (s.notify k x n).watch j = s.watch j := rfl
@[simp] theorem State.notify_port (s : State) (k : NoticeKind) (x : Option Place) (n : Option Nat) (j : PortId) : (s.notify k x n).port j = s.port j := rfl
@[simp] theorem State.notify_queue (s : State) (k : NoticeKind) (x : Option Place) (n : Option Nat) (j : PortId) : (s.notify k x n).queue j = s.queue j := rfl
@[simp] theorem State.notify_queueFull (s : State) (k : NoticeKind) (x : Option Place) (n : Option Nat) : (s.notify k x n).queueFull = s.queueFull := rfl
@[simp] theorem State.notify_isSilent (s : State) (k : NoticeKind) (x : Option Place) (n : Option Nat) (j : Nat) : (s.notify k x n).isSilent j = s.isSilent j := rfl
@[simp] theorem State.notify_stopped (s : State) (k : NoticeKind) (x : Option Place) (n : Option Nat) (j : Nat) : (s.notify k x n).stopped j = s.stopped j := rfl
@[simp] theorem State.notify_serialOf (s : State) (k : NoticeKind) (x : Option Place) (n : Option Nat) (j : Nat) : (s.notify k x n).serialOf j = s.serialOf j := rfl
@[simp] theorem State.notify_heldBy (s : State) (k : NoticeKind) (x : Option Place) (n : Option Nat) (j : Nat) : (s.notify k x n).heldBy j = s.heldBy j := rfl
@[simp] theorem State.notify_waitingItem (s : State) (k : NoticeKind) (x : Option Place) (n : Option Nat) : (s.notify k x n).waitingItem = s.waitingItem := rfl

/-! ### granted -/

@[simp] theorem State.granted_now (s : State) (r : Requester) : (s.granted r).now = s.now := rfl
@[simp] theorem State.granted_running (s : State) (r : Requester) : (s.granted r).running = s.running := rfl
@[simp] theorem State.granted_band (s : State) (r : Requester) (j : Nat) : (s.granted r).band j = s.band j := rfl
@[simp] theorem State.granted_slotOf (s : State) (r : Requester) (j : Nat) : (s.granted r).slotOf j = s.slotOf j := rfl
@[simp] theorem State.granted_locker (s : State) (r : Requester) (j : Nat) : (s.granted r).locker j = s.locker j := rfl
@[simp] theorem State.granted_cabin (s : State) (r : Requester) (j : Nat) : (s.granted r).cabin j = s.cabin j := rfl
@[simp] theorem State.granted_cabinKind (s : State) (r : Requester) (j : Nat) : (s.granted r).cabinKind j = s.cabinKind j := rfl
@[simp] theorem State.granted_zone (s : State) (r : Requester) (j : Nat) : (s.granted r).zone j = s.zone j := rfl
@[simp] theorem State.granted_zoneOf (s : State) (r : Requester) (j : Nat) : (s.granted r).zoneOf j = s.zoneOf j := rfl
@[simp] theorem State.granted_zoneUsed (s : State) (r : Requester) (j : Nat) : (s.granted r).zoneUsed j = s.zoneUsed j := rfl
@[simp] theorem State.granted_module (s : State) (r : Requester) (j : Nat) : (s.granted r).module j = s.module j := rfl
@[simp] theorem State.granted_moduleSetting (s : State) (r : Requester) (j : Nat) : (s.granted r).moduleSetting j = s.moduleSetting j := rfl
@[simp] theorem State.granted_configured (s : State) (r : Requester) (j : Nat) : (s.granted r).configured j = s.configured j := rfl
@[simp] theorem State.granted_watch (s : State) (r : Requester) (j : Nat) : (s.granted r).watch j = s.watch j := rfl
@[simp] theorem State.granted_port (s : State) (r : Requester) (j : PortId) : (s.granted r).port j = s.port j := rfl
@[simp] theorem State.granted_queue (s : State) (r : Requester) (j : PortId) : (s.granted r).queue j = s.queue j := rfl
@[simp] theorem State.granted_queueFull (s : State) (r : Requester) : (s.granted r).queueFull = s.queueFull := rfl
@[simp] theorem State.granted_isSilent (s : State) (r : Requester) (j : Nat) : (s.granted r).isSilent j = s.isSilent j := rfl
@[simp] theorem State.granted_stopped (s : State) (r : Requester) (j : Nat) : (s.granted r).stopped j = s.stopped j := rfl
@[simp] theorem State.granted_serialOf (s : State) (r : Requester) (j : Nat) : (s.granted r).serialOf j = s.serialOf j := rfl
@[simp] theorem State.granted_heldBy (s : State) (r : Requester) (j : Nat) : (s.granted r).heldBy j = s.heldBy j := rfl
@[simp] theorem State.granted_waitingItem (s : State) (r : Requester) : (s.granted r).waitingItem = s.waitingItem := rfl

/-! ### withPending -/

@[simp] theorem State.withPending_now (s : State) (q : List Instr) : (s.withPending q).now = s.now := rfl
@[simp] theorem State.withPending_running (s : State) (q : List Instr) : (s.withPending q).running = s.running := rfl
@[simp] theorem State.withPending_band (s : State) (q : List Instr) (j : Nat) : (s.withPending q).band j = s.band j := rfl
@[simp] theorem State.withPending_slotOf (s : State) (q : List Instr) (j : Nat) : (s.withPending q).slotOf j = s.slotOf j := rfl
@[simp] theorem State.withPending_locker (s : State) (q : List Instr) (j : Nat) : (s.withPending q).locker j = s.locker j := rfl
@[simp] theorem State.withPending_cabin (s : State) (q : List Instr) (j : Nat) : (s.withPending q).cabin j = s.cabin j := rfl
@[simp] theorem State.withPending_cabinKind (s : State) (q : List Instr) (j : Nat) : (s.withPending q).cabinKind j = s.cabinKind j := rfl
@[simp] theorem State.withPending_zone (s : State) (q : List Instr) (j : Nat) : (s.withPending q).zone j = s.zone j := rfl
@[simp] theorem State.withPending_zoneOf (s : State) (q : List Instr) (j : Nat) : (s.withPending q).zoneOf j = s.zoneOf j := rfl
@[simp] theorem State.withPending_zoneUsed (s : State) (q : List Instr) (j : Nat) : (s.withPending q).zoneUsed j = s.zoneUsed j := rfl
@[simp] theorem State.withPending_module (s : State) (q : List Instr) (j : Nat) : (s.withPending q).module j = s.module j := rfl
@[simp] theorem State.withPending_moduleSetting (s : State) (q : List Instr) (j : Nat) : (s.withPending q).moduleSetting j = s.moduleSetting j := rfl
@[simp] theorem State.withPending_configured (s : State) (q : List Instr) (j : Nat) : (s.withPending q).configured j = s.configured j := rfl
@[simp] theorem State.withPending_watch (s : State) (q : List Instr) (j : Nat) : (s.withPending q).watch j = s.watch j := rfl
@[simp] theorem State.withPending_port (s : State) (q : List Instr) (j : PortId) : (s.withPending q).port j = s.port j := rfl
@[simp] theorem State.withPending_queue (s : State) (q : List Instr) (j : PortId) : (s.withPending q).queue j = s.queue j := rfl
@[simp] theorem State.withPending_queueFull (s : State) (q : List Instr) : (s.withPending q).queueFull = s.queueFull := rfl
@[simp] theorem State.withPending_isSilent (s : State) (q : List Instr) (j : Nat) : (s.withPending q).isSilent j = s.isSilent j := rfl
@[simp] theorem State.withPending_stopped (s : State) (q : List Instr) (j : Nat) : (s.withPending q).stopped j = s.stopped j := rfl
@[simp] theorem State.withPending_serialOf (s : State) (q : List Instr) (j : Nat) : (s.withPending q).serialOf j = s.serialOf j := rfl
@[simp] theorem State.withPending_heldBy (s : State) (q : List Instr) (j : Nat) : (s.withPending q).heldBy j = s.heldBy j := rfl
@[simp] theorem State.withPending_waitingItem (s : State) (q : List Instr) : (s.withPending q).waitingItem = s.waitingItem := rfl

end Sys2Proof.Machine
end

