-- ==== Sys2Proof/Laws/Tables.lean ====
section
/-! SUPPORT. Read after write, for every table of records. -/

namespace Sys2Proof.Machine

/-! ### Tables -/

theorem tableGet_tableSet_self {α : Type} {n : Nat} (t : Vector α n) (d x : α) {i : Nat} (h : i < n) :
    tableGet (tableSet t i x) d i = x := by
  simp [tableGet, tableSet, h]

theorem tableGet_tableSet_ne {α : Type} {n : Nat} (t : Vector α n) (d x : α) {i j : Nat} (h : i ≠ j) :
    tableGet (tableSet t i x) d j = tableGet t d j := by
  unfold tableGet tableSet
  split
  · rw [Vector.getElem?_set_ne _ h]
  · rfl

theorem tableGet_of_le {α : Type} {n : Nat} (t : Vector α n) (d : α) {i : Nat} (h : n ≤ i) : tableGet t d i = d := by
  simp [tableGet, h]

theorem tableGet_replicate {α : Type} (n : Nat) (x : α) (i : Nat) : tableGet (Vector.replicate n x) x i = x := by
  unfold tableGet
  by_cases h : i < n
  · simp [h]
  · simp [Nat.le_of_not_lt h]

theorem tableGet_tableMap {α β : Type} {n : Nat} (f : Nat → α → β) (t : Vector α n) (d : α) (e : β) {i : Nat} (h : i < n) :
    tableGet (tableMap f t) e i = f i (tableGet t d i) := by
  simp [tableGet, tableMap, h]

@[simp] theorem PerPort.get_set_self {α : Type} (t : PerPort α) (p : PortId) (x : α) : (t.set p x).get p = x := by
  cases p <;> rfl

theorem PerPort.get_set_ne {α : Type} (t : PerPort α) {p q : PortId} (x : α) (h : p ≠ q) :
    (t.set p x).get q = t.get q := by
  cases p <;> cases q <;> first | rfl | exact absurd rfl h

@[simp] theorem PerPort.set_set {α : Type} (t : PerPort α) (p : PortId) (x y : α) : (t.set p x).set p y = t.set p y := by
  cases p <;> rfl

@[simp] theorem PerPort.get_map {α β : Type} (f : PortId → α → β) (t : PerPort α) (p : PortId) :
    (t.map f).get p = f p (t.get p) := by
  cases p <;> rfl

/-! ### Records of the state -/

namespace State

variable (s : State)

theorem setBand_band_self {k : Nat} (b : Option Band) (h : 1 ≤ k ∧ k ≤ Config.lastSlot) : (s.setBand k b).band k = b := by
  obtain ⟨h1, h2⟩ := h
  have : k < 2048 := by unfold Config.lastSlot at h2; omega
  simp [setBand, band, Nat.ne_of_gt h1, tableGet_tableSet_self _ _ _ this]

theorem setBand_band_ne {k j : Nat} (b : Option Band) (h : k ≠ j) : (s.setBand k b).band j = s.band j := by
  unfold setBand band
  split
  · rfl
  · split
    · rfl
    · exact tableGet_tableSet_ne _ _ _ h

@[simp] theorem band_zero : s.band 0 = none := rfl

/-- A slot that holds a record is 1 to 2,047. -/
theorem slot_of_band {k : Nat} {b : Band} (h : s.band k = some b) : 1 ≤ k ∧ k ≤ Config.lastSlot := by
  unfold band at h
  split at h
  · cases h
  · refine ⟨Nat.one_le_iff_ne_zero.mpr ‹_›, ?_⟩
    by_contra hk
    rw [tableGet_of_le] at h
    · cases h
    · unfold Config.lastSlot at hk; omega

theorem setLocker_locker_self {n : Nat} (l : Locker) (h : 1 ≤ n ∧ n ≤ 1024) : (s.setLocker n l).locker n = l := by
  obtain ⟨h1, h2⟩ := h
  have : n - 1 < 1024 := by omega
  simp [setLocker, locker, Nat.ne_of_gt h1, tableGet_tableSet_self _ _ _ this]

theorem setLocker_locker_ne {n m : Nat} (l : Locker) (h : n ≠ m) : (s.setLocker n l).locker m = s.locker m := by
  unfold setLocker locker
  split
  · rfl
  · split
    · rfl
    · exact tableGet_tableSet_ne _ _ _ (by omega)

theorem locker_of_gt {n : Nat} (h : n = 0 ∨ 1024 < n) : s.locker n = Locker.blank .unfitted 0 := by
  unfold locker
  split
  · rfl
  · exact tableGet_of_le _ _ (by omega)

theorem tableGet_mem {α : Type} {n : Nat} (t : Vector α n) (d : α) {i : Nat} (h : i < n) : tableGet t d i ∈ t.toList := by
  simp [tableGet, h]

/-- A locker of the table is one of its entries. -/
theorem locker_mem {n : Nat} (h : 1 ≤ n ∧ n ≤ 1024) : s.locker n ∈ s.engine.lockers.toList := by
  obtain ⟨h1, h2⟩ := h
  simp only [locker, Nat.ne_of_gt h1, if_false]
  exact tableGet_mem _ _ (by omega)

/-- A cabin of the table is one of its entries. -/
theorem cabin_mem {c : Nat} (h : 1 ≤ c ∧ c ≤ 64) : s.cabin c ∈ s.engine.cabins.toList := by
  obtain ⟨h1, h2⟩ := h
  simp only [cabin, Nat.ne_of_gt h1, if_false]
  exact tableGet_mem _ _ (by omega)

theorem setCabin_cabin_self {c : Nat} (r : Cabin) (h : 1 ≤ c ∧ c ≤ 64) : (s.setCabin c r).cabin c = r := by
  obtain ⟨h1, h2⟩ := h
  have : c - 1 < 64 := by omega
  simp [setCabin, cabin, Nat.ne_of_gt h1, tableGet_tableSet_self _ _ _ this]

theorem setCabin_cabin_ne {c d : Nat} (r : Cabin) (h : c ≠ d) : (s.setCabin c r).cabin d = s.cabin d := by
  unfold setCabin cabin
  split
  · rfl
  · split
    · rfl
    · exact tableGet_tableSet_ne _ _ _ (by omega)

theorem setModule_module_self {a : Nat} (m : Module) (h : 1 ≤ a ∧ a ≤ 144) : (s.setModule a m).module a = m := by
  obtain ⟨h1, h2⟩ := h
  have : a - 1 < 144 := by omega
  simp [setModule, State.module, Nat.ne_of_gt h1, tableGet_tableSet_self _ _ _ this]

theorem setModule_module_ne {a b : Nat} (m : Module) (h : a ≠ b) : (s.setModule a m).module b = s.module b := by
  unfold setModule State.module
  split
  · rfl
  · split
    · rfl
    · exact tableGet_tableSet_ne _ _ _ (by omega)

theorem setWatch_watch_self {i : Nat} (w : Watch) (h : i ≤ 3) : (s.setWatch i w).watch i = w := by
  simp [setWatch, watch, tableGet_tableSet_self _ _ _ (Nat.lt_succ_of_le h)]

theorem setWatch_watch_ne {i j : Nat} (w : Watch) (h : i ≠ j) : (s.setWatch i w).watch j = s.watch j :=
  tableGet_tableSet_ne _ _ _ h

theorem setZoneUsed_zoneUsed_self {z : Nat} (u : Bool) (h : z ≤ 15) : (s.setZoneUsed z u).zoneUsed z = u := by
  simp [setZoneUsed, zoneUsed, tableGet_tableSet_self _ _ _ (Nat.lt_succ_of_le h)]

theorem setZoneUsed_zoneUsed_ne {z y : Nat} (u : Bool) (h : z ≠ y) : (s.setZoneUsed z u).zoneUsed y = s.zoneUsed y :=
  tableGet_tableSet_ne _ _ _ h

theorem tableSet_tableSet {α : Type} {n : Nat} (t : Vector α n) (i : Nat) (x y : α) :
    tableSet (tableSet t i x) i y = tableSet t i y := by
  unfold tableSet
  split
  · simp
  · rfl

/-- A table given back the entry it holds is the table. -/
theorem tableSet_tableGet {α : Type} {n : Nat} (t : Vector α n) (d : α) (i : Nat) : tableSet t i (tableGet t d i) = t := by
  unfold tableSet
  split
  · apply Vector.ext
    intro j hj
    rw [Vector.getElem_set]
    split
    · subst_vars; simp [tableGet, hj]
    · rfl
  · rfl

@[simp] theorem setBand_setBand (k : Nat) (b c : Option Band) : (s.setBand k b).setBand k c = s.setBand k c := by
  unfold setBand
  split
  · rfl
  · simp only [tableSet_tableSet]

@[simp] theorem setLocker_setLocker (n : Nat) (l m : Locker) : (s.setLocker n l).setLocker n m = s.setLocker n m := by
  unfold setLocker
  split
  · rfl
  · simp only [tableSet_tableSet]

@[simp] theorem setCabin_setCabin (c : Nat) (r k : Cabin) : (s.setCabin c r).setCabin c k = s.setCabin c k := by
  unfold setCabin
  split
  · rfl
  · simp only [tableSet_tableSet]

@[simp] theorem setModule_setModule (a : Nat) (m r : Module) : (s.setModule a m).setModule a r = s.setModule a r := by
  unfold setModule
  split
  · rfl
  · simp only [tableSet_tableSet]

theorem setLocker_locker (n : Nat) : s.setLocker n (s.locker n) = s := by
  unfold setLocker locker
  split
  · rfl
  · simp only [tableSet_tableGet]

/-- Band records and lockers are written independently. -/
theorem setBand_setLocker (k n : Nat) (b : Option Band) (l : Locker) :
    (s.setBand k b).setLocker n l = (s.setLocker n l).setBand k b := by
  unfold setBand setLocker
  split <;> split <;> rfl

theorem setBand_setCabin (k c : Nat) (b : Option Band) (r : Cabin) :
    (s.setBand k b).setCabin c r = (s.setCabin c r).setBand k b := by
  unfold setBand setCabin
  split <;> split <;> rfl

@[simp] theorem setPort_port_self (p : PortId) (q : Port) : (s.setPort p q).port p = q := PerPort.get_set_self _ _ _

theorem setPort_port_ne {p r : PortId} (q : Port) (h : p ≠ r) : (s.setPort p q).port r = s.port r :=
  PerPort.get_set_ne _ _ h

@[simp] theorem setPort_setPort (p : PortId) (q r : Port) : (s.setPort p q).setPort p r = s.setPort p r := by
  simp [setPort]

@[simp] theorem setQueue_queue_self (p : PortId) (q : List Notice) : (s.setQueue p q).queue p = q :=
  PerPort.get_set_self _ _ _

theorem setQueue_queue_ne {p r : PortId} (q : List Notice) (h : p ≠ r) : (s.setQueue p q).queue r = s.queue r :=
  PerPort.get_set_ne _ _ h

end State

end Sys2Proof.Machine
end

