-- ==== Sys2Proof/Laws/Ops.lean ====
section
/-! SUPPORT. One lemma per shared operation: all it can do, said once, for the proofs about the commands built from it. -/

namespace Sys2Proof.Machine

namespace State

variable (s : State)

/-! ### Grants and answers -/

/-- A request granted: its handling, then its reply. -/
theorem grantRequest_granting {s : State} {p : PortId} {k : ReqKind} {r : Request} (h : Handler) (hg : s.granting p k r) :
    s.grantRequest p k h =
      (h r (s.granted (.port p))).2.answered p r (h r (s.granted (.port p))).1.code (h r (s.granted (.port p))).1.data := by
  obtain ⟨h1, h2⟩ := hg
  simp [grantRequest, h1, h2, answered, replyTo]

/-- A request taken without a grant: its handling, then its reply. -/
theorem takeRequest_taking {s : State} {p : PortId} {k : ReqKind} {r : Request} (h : Handler) (hg : s.taking p k r) :
    s.takeRequest p k h = (h r s).2.answered p r (h r s).1.code (h r s).1.data := by
  obtain ⟨h1, h2⟩ := hg
  simp [takeRequest, h1, h2, answered, replyTo]

/-- Where the request does not wait, or may not be granted, nothing changes. -/
theorem grantRequest_not_granting {s : State} {p : PortId} {k : ReqKind} (h : Handler)
    (hg : ∀ r, ¬s.granting p k r) : s.grantRequest p k h = s := by
  unfold grantRequest
  split
  · rfl
  · rename_i r hr
    have := hg r
    simp_all

/-- Where the request does not wait, or the part stands stopped, nothing changes. -/
theorem takeRequest_not_taking {s : State} {p : PortId} {k : ReqKind} (h : Handler)
    (hg : ∀ r, ¬s.taking p k r) : s.takeRequest p k h = s := by
  unfold takeRequest
  split
  · rfl
  · rename_i r hr
    have := hg r
    simp_all

/-- Where no item waits, or the field engine may not be granted, nothing changes. -/
theorem grantItem_idle {s : State} (f : HandItem → Option (State → State))
    (h : s.mayGrant .field = false ∨ s.waitingItem = none) : s.grantItem f = s := by
  unfold grantItem
  obtain h | h := h
  · split <;> simp [h]
  · simp [h]

/-- The waiting item granted: its handling, then it leaves the list. -/
theorem grantItem_granting {s : State} {item : HandItem} {f : HandItem → Option (State → State)} {handling : State → State}
    (hg : s.grantingItem item) (hf : f item = some handling) :
    s.grantItem f = (handling (s.granted .field)).popHead := by
  obtain ⟨h1, h2⟩ := hg
  simp [grantItem, h1, h2, hf]

/-- The arbiter grants a requester exactly when the part runs, no request waits that goes before every grant, and nobody before
the requester in the cycle waits. -/
theorem mayGrant_iff (r : Requester) :
    s.mayGrant r = true ↔
      s.running = true ∧ s.promptWaits = false ∧
        ∀ q ∈ (cycleAfter s.engine.lastGranted).takeWhile (· != r), s.waits q = false := by
  simp [mayGrant, and_assoc]

/-- A step of the sweep that is not wanted, or comes while the part stands stopped, changes nothing. -/
theorem sweepWhen_idle {s : State} {wanted : Bool} (h : s.running = false ∨ wanted = false) : s.sweepWhen wanted = s := by
  obtain h | h := h <;> simp [sweepWhen, h]

/-- A step of the sweep that the arbiter may grant is handled whole. -/
theorem sweepWhen_granted {s : State} (h : s.mayGrant .sweep = true) :
    s.sweepWhen true = { (s.granted .sweep).sweepAct with sweep := advance s.sweep } := by
  simp [sweepWhen, h, ((mayGrant_iff s .sweep).1 h).1]

/-- A step of the sweep that the arbiter may not grant yet waits. -/
theorem sweepWhen_waits {s : State} (h1 : s.running = true) (h2 : s.mayGrant .sweep = false) :
    s.sweepWhen true = { s with sweep.waiting := true } := by
  simp [sweepWhen, h1, h2]

/-- A port that returns to IDLE sends the first of the replies that wait. -/
theorem toIdle_eq (q : Port) : q.toIdle = { q with link := sends q.ready, ready := q.ready.drop 1 } := by
  unfold Port.toIdle
  split <;> simp_all [sends]

/-- A reply that becomes ready at a port just returned to IDLE is sent behind the replies that wait. -/
theorem deliver_sends (p : PortId) (o : Option Request) (l : List Reply) (r : Reply) :
    (s.setPort p { link := sends l, outstanding := o, ready := l.drop 1 }).deliver p r =
      s.setPort p { link := sends (l ++ [r]), outstanding := o, ready := (l ++ [r]).drop 1 } := by
  cases l <;> simp [deliver, sends]

/-- The end of a reply: the port sends the next, and unless it was a BUSY the request and what it wrote over are done with. -/
theorem endReply_eq (p : PortId) (r : Reply) :
    s.endReply p r =
      ({ s with undo := if r.busy then s.undo else settledUndo p s.undo } : State).setPort p
        { link := sends (s.port p).ready, outstanding := if r.busy then (s.port p).outstanding else none,
          ready := (s.port p).ready.drop 1 } := by
  unfold endReply
  split <;> simp [toIdle_eq, closeUndo, *]

/-- A refusal answered, alone. -/
@[simp] theorem refuse_eq (c : ResultCode) : refuse c s = ({ code := c, data := [] }, s) := rfl

@[simp] theorem accept_eq (data : List Byte) : accept data s = ({ code := .ok, data := data }, s) := rfl

@[simp] theorem findSerial_granted (r : Requester) (n : Nat) : (s.granted r).findSerial n = s.findSerial n := rfl

@[simp] theorem findRef_granted (r : Requester) (b : BandRef) : (s.granted r).findRef b = s.findRef b := by
  cases b <;> rfl

/-- The grant itself changes only whose turn comes next: every other reading stands. -/
@[simp] theorem tariffClass_granted (r : Requester) (a : Tariff) : (s.granted r).tariffClass a = s.tariffClass a := rfl

@[simp] theorem leaderFor_granted (r : Requester) (l : Option Nat) : (s.granted r).leaderFor l = s.leaderFor l := rfl

@[simp] theorem freeSlot_granted (r : Requester) : (s.granted r).freeSlot = s.freeSlot := rfl

@[simp] theorem issueLocker_granted (r : Requester) (q : IssueRequest) (l : Option Nat) (n : Nat) :
    (s.granted r).issueLocker q l n = s.issueLocker q l n := rfl

@[simp] theorem assignment_granted (r : Requester) (a : Assignment) (rank portRank : Nat) (role : Role) (held : Nat) :
    (s.granted r).assignment a rank portRank role held = s.assignment a rank portRank role held := rfl

@[simp] theorem leaderRevoked_granted (r : Requester) (b : Band) : (s.granted r).leaderRevoked b = s.leaderRevoked b := rfl

/-- The walk along previous links reads nothing but the band records. -/
theorem predecessors_congr {s t : State} (h : ∀ k, s.band k = t.band k) (fuel : Nat) (p : Option Nat) :
    s.predecessors fuel p = t.predecessors fuel p := by
  induction fuel generalizing p with
  | zero => rfl
  | succ fuel ih =>
    cases p with
    | none => rfl
    | some k => simp only [predecessors, h k, ih]

@[simp] theorem predecessors_granted (r : Requester) (fuel : Nat) (p : Option Nat) :
    (s.granted r).predecessors fuel p = s.predecessors fuel p := predecessors_congr (granted_band s r) fuel p

@[simp] theorem chainLength_granted (r : Requester) (b : Band) : (s.granted r).chainLength b = s.chainLength b := by
  simp [chainLength]

/-- A serial found is valid, mapped to the slot, and the slot holds the record. -/
theorem findSerial_ok {s : State} {n slot : Nat} {b : Band} (h : s.findSerial n = .ok (slot, b)) :
    validSerial n = true ∧ s.slotOf n = some slot ∧ s.band slot = some b := by
  unfold findSerial at h
  repeat' split at h
  all_goals simp_all

/-- A slot whose record changes by `f`. -/
theorem updBand_some {s : State} {k : Nat} {b : Band} (f : Band → Band) (h : s.band k = some b) :
    s.updBand k f = s.setBand k (some (f b)) := by
  simp [updBand, h]

theorem updBand_none {s : State} {k : Nat} (f : Band → Band) (h : s.band k = none) : s.updBand k f = s := by
  simp [updBand, h]

/-! ### Notices -/

theorem notify_setLocker (k : NoticeKind) (place : Option Place) (serial : Option Nat) (n : Nat) (l : Locker) :
    (s.notify k place serial).setLocker n l = (s.setLocker n l).notify k place serial := by
  unfold setLocker
  split <;> rfl

theorem notify_setCabin (k : NoticeKind) (place : Option Place) (serial : Option Nat) (c : Nat) (r : Cabin) :
    (s.notify k place serial).setCabin c r = (s.setCabin c r).notify k place serial := by
  unfold setCabin
  split <;> rfl

theorem notify_setBand (k : NoticeKind) (place : Option Place) (serial : Option Nat) (slot : Nat) (b : Option Band) :
    (s.notify k place serial).setBand slot b = (s.setBand slot b).notify k place serial := by
  unfold setBand
  split <;> rfl

/-! ### The hand-over list -/

/-- Meeting the head changes the module table and the held mark only. -/
theorem meetHead_eq :
    s.meetHead = { s with field.modules := s.meetHead.field.modules, field.waitingHeld := s.meetHead.field.waitingHeld } := by
  unfold meetHead updPosition setModule
  repeat' split
  all_goals rfl

/-- Joining items changes the hand-over list, and by meeting a new head the module table and the held mark. -/
theorem handOver_eq (items : List HandItem) :
    s.handOver items =
      { s with field.handover := s.field.handover ++ items,
               field.modules := (s.handOver items).field.modules,
               field.waitingHeld := (s.handOver items).field.waitingHeld } := by
  unfold handOver
  split
  · rw [meetHead_eq]
  · rfl

/-- Taking the head off changes the same three fields. -/
theorem popHead_eq :
    s.popHead =
      { s with field.handover := s.field.handover.drop 1,
               field.modules := s.popHead.field.modules,
               field.waitingHeld := s.popHead.field.waitingHeld } := by
  unfold popHead
  rw [meetHead_eq]

/-- A position's update keeps every other field of every module record. -/
theorem updPosition_module (addr pos : Nat) (f : Position → Position) (a : Nat) :
    (s.updPosition addr pos f).module a =
      { s.module a with positions := ((s.updPosition addr pos f).module a).positions } := by
  unfold updPosition
  by_cases h : addr = a
  · subst h
    by_cases h2 : 1 ≤ addr ∧ addr ≤ 144
    · rw [setModule_module_self _ _ h2]
    · have hs : ∀ m, s.setModule addr m = s := by
        intro m
        unfold setModule tableSet
        split
        · rfl
        · split
          · omega
          · rfl
      rw [hs]
  · rw [setModule_module_ne _ _ h]

theorem meetHead_module (a : Nat) :
    s.meetHead.module a = { s.module a with positions := (s.meetHead.module a).positions } := by
  unfold meetHead
  repeat' split
  all_goals first | rfl | exact updPosition_module s _ _ _ a

theorem handOver_module (items : List HandItem) (a : Nat) :
    (s.handOver items).module a = { s.module a with positions := ((s.handOver items).module a).positions } := by
  unfold handOver
  split
  · exact meetHead_module _ a
  · rfl

/-- A position's update that keeps its indication keeps every indication of every module. -/
theorem updPosition_shown (addr pos : Nat) {f : Position → Position} (hf : ∀ q, (f q).shown = q.shown) (a i : Nat) :
    (tableGet ((s.updPosition addr pos f).module a).positions Position.blank i).shown =
      (tableGet (s.module a).positions Position.blank i).shown := by
  unfold updPosition
  by_cases h : addr = a
  · subst h
    by_cases h2 : 1 ≤ addr ∧ addr ≤ 144
    · rw [setModule_module_self _ _ h2]
      by_cases hi : pos = i
      · subst hi
        by_cases hp : pos < 8
        · rw [tableGet_tableSet_self _ _ _ hp]
          exact hf _
        · simp [tableSet, hp]
      · rw [tableGet_tableSet_ne _ _ _ hi]
    · rw [show s.setModule addr _ = s by
        unfold setModule tableSet
        split
        · rfl
        · split
          · omega
          · rfl]
  · rw [setModule_module_ne _ _ h]

/-- Meeting the head keeps every pending indication. -/
theorem meetHead_shown (a i : Nat) :
    (tableGet (s.meetHead.module a).positions Position.blank i).shown =
      (tableGet (s.module a).positions Position.blank i).shown := by
  unfold meetHead
  split
  · exact updPosition_shown s _ _ (f := fun q => { q with door := .opened }) (fun _ => rfl) a i
  · exact updPosition_shown s _ _ (f := fun q => { q with door := .closed }) (fun _ => rfl) a i
  · exact updPosition_shown s _ _ (f := fun q => { q with latch := .free }) (fun _ => rfl) a i
  · rfl
  · rfl

/-- Joining items keeps every pending indication. -/
theorem handOver_shown (items : List HandItem) (a i : Nat) :
    (tableGet ((s.handOver items).module a).positions Position.blank i).shown =
      (tableGet (s.module a).positions Position.blank i).shown := by
  unfold handOver
  split
  · exact meetHead_shown _ a i
  · rfl

@[simp] theorem handOver_nil : s.handOver [] = s := by
  simp [handOver]

@[simp] theorem handOver_handover (items : List HandItem) :
    (s.handOver items).field.handover = s.field.handover ++ items := by
  rw [handOver_eq]

@[simp] theorem handOver_engine (items : List HandItem) : (s.handOver items).engine = s.engine := by rw [handOver_eq]

@[simp] theorem handOver_settings (items : List HandItem) : (s.handOver items).settings = s.settings := by rw [handOver_eq]

@[simp] theorem handOver_notices (items : List HandItem) : (s.handOver items).notices = s.notices := by rw [handOver_eq]

@[simp] theorem handOver_supply (items : List HandItem) : (s.handOver items).supply = s.supply := by rw [handOver_eq]

@[simp] theorem handOver_ports (items : List HandItem) : (s.handOver items).ports = s.ports := by rw [handOver_eq]

@[simp] theorem handOver_watches (items : List HandItem) : (s.handOver items).watches = s.watches := by rw [handOver_eq]

@[simp] theorem handOver_undo (items : List HandItem) : (s.handOver items).undo = s.undo := by
  rw [handOver_eq]

@[simp] theorem handOver_sweep (items : List HandItem) : (s.handOver items).sweep = s.sweep := by rw [handOver_eq]

@[simp] theorem handOver_pending (items : List HandItem) : (s.handOver items).pending = s.pending := by rw [handOver_eq]

@[simp] theorem handOver_queue (items : List HandItem) : (s.handOver items).field.queue = s.field.queue := by rw [handOver_eq]

@[simp] theorem handOver_exchange (items : List HandItem) : (s.handOver items).field.exchange = s.field.exchange := by
  rw [handOver_eq]

@[simp] theorem handOver_silent (items : List HandItem) (a : Nat) :
    ((s.handOver items).module a).silent = (s.module a).silent := by rw [handOver_module]

@[simp] theorem handOver_failures (items : List HandItem) (a : Nat) :
    ((s.handOver items).module a).failures = (s.module a).failures := by rw [handOver_module]

@[simp] theorem handOver_resync (items : List HandItem) (a : Nat) :
    ((s.handOver items).module a).resync = (s.module a).resync := by rw [handOver_module]

@[simp] theorem handOver_held (items : List HandItem) (a : Nat) :
    ((s.handOver items).module a).held = (s.module a).held := by rw [handOver_module]

/-! ### The field command queue -/

/-- A command for a module that is ONLINE and configured joins the queue. -/
theorem queueCommand_online {s : State} {addr : Nat} (pos : Nat) (a : Action) (h1 : s.isSilent addr = false)
    (h2 : s.configured addr = true) :
    s.queueCommand addr pos a =
      { s with field.queue := s.field.queue ++ [{ addr := addr, pos := pos, action := a, target := placeAt addr pos }] } := by
  simp [queueCommand, h1, h2]

/-- A command for another module fails at once. -/
theorem queueCommand_offline {s : State} {addr : Nat} (pos : Nat) (a : Action)
    (h : s.isSilent addr = true ∨ s.configured addr = false) :
    s.queueCommand addr pos a =
      s.handOver [.outcome { addr := addr, pos := pos, action := a, target := placeAt addr pos } .failed] := by
  obtain h | h := h <;> simp [queueCommand, h]

/-- Queueing a command changes the queue or the hand-over list, and nothing else but what meeting a new head changes. -/
theorem queueCommand_eq (addr pos : Nat) (a : Action) :
    s.queueCommand addr pos a =
      { s with field.queue := (s.queueCommand addr pos a).field.queue,
               field.handover := (s.queueCommand addr pos a).field.handover,
               field.modules := (s.queueCommand addr pos a).field.modules,
               field.waitingHeld := (s.queueCommand addr pos a).field.waitingHeld } := by
  unfold queueCommand
  split
  · rw [handOver_eq]
  · rfl

/-! ### Requests taken without a grant: what they wrote over (R158, R185) -/

/-- With no such request outstanding nothing is taken back. -/
theorem undoTaken_nil {s : State} (h : s.undo = []) : s.undoTaken = s := by
  obtain ⟨⟩ := s
  simp_all [undoTaken]

/-- Nothing but the places that such requests write is touched, and they are forgotten. -/
theorem undoTaken_eq :
    s.undoTaken =
      { s with settings := s.undoTaken.settings, watches := s.undoTaken.watches,
               notices.alarms := s.undoTaken.notices.alarms, notices.alarmOverflow := s.undoTaken.notices.alarmOverflow,
               field.modules := s.undoTaken.field.modules, supply.clock := s.undoTaken.supply.clock, undo := [] } := by
  have one : ∀ (b : Before) (t : State),
      t.putBack b =
        { t with settings := (t.putBack b).settings, watches := (t.putBack b).watches,
                 notices.alarms := (t.putBack b).notices.alarms,
                 notices.alarmOverflow := (t.putBack b).notices.alarmOverflow,
                 field.modules := (t.putBack b).field.modules, supply.clock := (t.putBack b).supply.clock } := by
    intro b t
    cases b <;> simp only [putBack]
    case port p v => cases p <;> rfl
    case held a h => unfold setModule; split <;> rfl
    all_goals rfl
  have all : ∀ (us : List Undo) (t r : State), us.foldl (fun t u => t.putBack u.before) t = r →
      r = { t with settings := r.settings, watches := r.watches, notices.alarms := r.notices.alarms,
                   notices.alarmOverflow := r.notices.alarmOverflow, field.modules := r.field.modules,
                   supply.clock := r.supply.clock } := by
    intro us
    induction us with
    | nil => rintro t r rfl; rfl
    | cons u us ih =>
      intro t r h
      rw [List.foldl_cons] at h
      rw [ih _ _ h, one u.before t]
  unfold undoTaken
  rw [all _ _ _ rfl]

/-- A request that is taken and then dropped, with no other outstanding, takes back what it remembers, whatever it wrote. -/
theorem undoTaken_one {t : State} {p : PortId} {b : Before} (h : t.undo = [{ port := p, before := b }]) :
    t.undoTaken = { t.putBack b with undo := [] } := by
  simp [undoTaken, h]

/-- A SET_WATCH so dropped leaves its slot, and every other, as before it. -/
theorem undoTaken_setWatch {s : State} (p : PortId) (i : Nat) (w : Watch) (h : s.undo = []) :
    ((s.remember p (.watch i (s.watch i))).setWatch i w).undoTaken = s := by
  rw [undoTaken_one (p := p) (b := .watch i (s.watch i)) (by simp [remember, h])]
  simp only [putBack, setWatch, remember, tableSet_tableSet]
  unfold watch
  rw [tableSet_tableGet, ← h]

/-- The requests of other ports that are still to be undone once a reply has left the line were so before. -/
theorem settledUndo_port {p : PortId} {us : List Undo} {u : Undo} (h : u ∈ settledUndo p us) :
    ∃ v ∈ us, v.port = u.port := by
  induction us with
  | nil => simp [settledUndo] at h
  | cons v us ih =>
    unfold settledUndo at h
    split at h
    · obtain ⟨o, ho, hb⟩ := List.mem_filterMap.1 h
      obtain ⟨b, -, rfl⟩ := Option.map_eq_some_iff.1 hb
      exact ⟨o, List.mem_cons_of_mem _ ho, rfl⟩
    · obtain rfl | h := List.mem_cons.1 h
      · exact ⟨_, List.mem_cons_self, rfl⟩
      · obtain ⟨w, hw, e⟩ := ih h
        exact ⟨w, List.mem_cons_of_mem _ hw, e⟩

/-! ### Presentations -/

/-- The lookup of a serial found: last_place is written first (R6). -/
theorem updBand_seenAt {s : State} {slot : Nat} {b : Band} (place : Place) (h : s.band slot = some b) :
    s.updBand slot (fun r => { r with lastPlace := some { place := place, time := s.now } }) = s.seenAt slot b place :=
  updBand_some _ h

@[simp] theorem seenAt_locker (slot : Nat) (b : Band) (p : Place) (n : Nat) : (s.seenAt slot b p).locker n = s.locker n :=
  setBand_locker s slot _ n

@[simp] theorem seenAt_cabin (slot : Nat) (b : Band) (p : Place) (c : Nat) : (s.seenAt slot b p).cabin c = s.cabin c :=
  setBand_cabin s slot _ c

@[simp] theorem seenAt_queueFull (slot : Nat) (b : Band) (p : Place) : (s.seenAt slot b p).queueFull = s.queueFull :=
  setBand_queueFull s slot _

@[simp] theorem seenAt_supply (slot : Nat) (b : Band) (p : Place) : (s.seenAt slot b p).supply = s.supply :=
  setBand_supply s slot _

@[simp] theorem seenAt_zoneOf (slot : Nat) (b : Band) (p : Place) (n : Nat) : (s.seenAt slot b p).zoneOf n = s.zoneOf n :=
  setBand_zoneOf s slot _ n

@[simp] theorem seenAt_zone (slot : Nat) (b : Band) (p : Place) (z : Nat) : (s.seenAt slot b p).zone z = s.zone z :=
  setBand_zone s slot _ z

/-- Setting last_place touches nothing of a record but that field. -/
theorem seenAt_band {s : State} {slot : Nat} {b : Band} (p : Place) (h : s.band slot = some b) (k : Nat) :
    (s.seenAt slot b p).band k =
      if k = slot then some { b with lastPlace := some { place := p, time := s.now } } else s.band k := by
  unfold seenAt
  split
  · subst_vars; exact setBand_band_self s _ (slot_of_band s h)
  · exact setBand_band_ne s _ (Ne.symm ‹_›)

end State

end Sys2Proof.Machine
end

