-- ==== Sys2Proof/WellFormed.lean ====
section
/-! DEFINITION. Which commands the lines of the part can carry.  The operands of every other command are of a type that
holds only what the line can bring, so only a module's reply needs a check. -/

namespace Sys2Proof

/-- A module reply is at least one byte, and at most 255 data bytes with the four of their envelope: address, function, data
length, data, CRC-8 (Table 13-8). -/
def replyFits (bytes : List Byte) : Bool := decide (1 ≤ bytes.length) && decide (bytes.length ≤ 259)

/-- A command the lines can carry. -/
def Instr.wellFormed : Instr → Bool
  | .moduleReply bytes => replyFits bytes
  | _ => true

end Sys2Proof
end

