-- ==== Sys2Proof/Tests/Slice0.lean ====
section
/-! SUPPORT. The model's own tests: the WellFormed smoke, the CRCs, the worked tables of chapters 5, 9, 11 and 12 of the manual one
step at a time, and for each obligation a state and operands that meet its hypotheses. -/

namespace Sys2Proof.Tests

-- One theorem at a time: elaborated side by side, their threads reserve more than the check allows.
set_option Elab.async false

open Sys2Proof Sys2Proof.Machine

/-! ### Small states -/

/-- The state after a command, for tests; a stop would leave it as it was. -/
def after (c : Instr) (s : State) : State :=
  match exec c s with
  | .next t => t
  | _ => s

/-- A request as its port holds it outstanding. -/
def rq (p : PortId) (k : ReqKind) (body : List Byte) (s : State) : Request :=
  { tag := 7, code := BitVec.ofNat 8 (kindCode k), body := body, rank := s.portRank p, taken := false }

/-- A state with a request waiting on a port. -/
def ask (p : PortId) (k : ReqKind) (body : List Byte) (s : State) : State :=
  s.setPort p { Port.idle with outstanding := some (rq p k body s) }

/-- A state with items on the hand-over list. -/
def hand (items : List HandItem) (s : State) : State := { s with field.handover := items }

/-- The reply a port sends: result code and data. -/
def replied (p : PortId) (s : State) : Option (ResultCode × List Byte) :=
  match (s.port p).link with
  | .sending r => some (r.result, r.data)
  | _ => none

/-- The clock set. -/
def clockAt (t : Nat) (s : State) : State := { s with supply.clock := t }

/-- A visitor's record. -/
def visitor (serial entry : Nat) (st : BandState) : Band :=
  { state := st,
    kind := .visitor { paidMinutes := 120, tariff := { bank := .a, cls := 0 }, paidCents := 0, longStay := false },
    rank := 3, serial := serial, entry := entry, lockers := [], cabin := none, role := .none, previous := none,
    next := none, lastPlace := none }

/-- A staff band's record. -/
def staff (serial rank : Nat) : Band :=
  { state := .active, kind := .staff, rank := rank, serial := serial, entry := 0, lockers := [], cabin := none,
    role := .none, previous := none, next := none, lastPlace := none }

/-- A record put in a slot and mapped. -/
def put (slot : Nat) (b : Band) (s : State) : State := (s.setBand slot (some b)).mapSerial b.serial slot

/-- A locker in a state with its latch engaged and its door shut. -/
def lock (st : LockerState) (holder : Option Nat) : Locker :=
  { Locker.blank st 100 with holder := holder, door := .closed, latch := .engaged }

/-- A cabin in a state with its latch engaged and its door shut. -/
def booth (st : CabinState) (occupant : Option Nat) (command : Option Action) : Cabin :=
  { Cabin.blank st 100 with occupant := occupant, command := command, door := .closed, latch := .engaged }

/-- Lock module 1 and cabin module 129 configured, ONLINE and read; lockers 1 to 8 FREE, cabins 1 to 4 VACANT; the clock
valid at 5,000. -/
def hall : State :=
  let unset := Vector.replicate 144 ({ configured := false, holdOnForce := false } : ModuleSetting)
  let fitted : ModuleSetting := { configured := true, holdOnForce := true }
  let read := { Module.blank true with resync := false, coldRead := false }
  let r := State.reset
  let r := { r with settings.modules := tableSet (tableSet unset 0 fitted) 128 fitted }
  let r := { r with field.modules := tableSet (tableSet r.field.modules 0 read) 128 read }
  let r := [1, 2, 3, 4, 5, 6, 7, 8].foldl (fun t n => t.setLocker n (Locker.blank .free 0)) r
  let r := [1, 2, 3, 4].foldl (fun t c => t.setCabin c (Cabin.blank .vacant 0)) r
  { r with
    field.startDelay := false, field.broadcast := none, notices.raised := [], supply.clock := 5000,
    supply.clockValid := true }

/-- The hall with the supply in another state. -/
def suppliedAs (st : SupplyState) (restoring : Bool) : State :=
  { hall with supply.supply := st, supply.restoring := restoring }

/-! ### WellFormed, bytes and CRCs -/

theorem test_reply_of_no_bytes_is_ill_formed : (Instr.moduleReply []).wellFormed = false := by decide

theorem test_reply_too_long_is_ill_formed :
    (Instr.moduleReply (List.replicate 260 0#8)).wellFormed = false := by decide +kernel

theorem test_reply_of_259_bytes_is_well_formed :
    (Instr.moduleReply (List.replicate 259 0#8)).wellFormed = true := by decide +kernel

/-- The CRC-16 check value of the digits 1 to 9 that the published parameters of R174 give. -/
theorem test_crc16_check_value :
    crc16 [0x31#8, 0x32#8, 0x33#8, 0x34#8, 0x35#8, 0x36#8, 0x37#8, 0x38#8, 0x39#8] = 0x29B1#16 := by decide +kernel

/-- The CRC-8 check value of the same digits for polynomial 0x07 from zero. -/
theorem test_crc8_check_value :
    crc8 [0x31#8, 0x32#8, 0x33#8, 0x34#8, 0x35#8, 0x36#8, 0x37#8, 0x38#8, 0x39#8] = 0xF4#8 := by decide +kernel

theorem test_numbers_go_high_byte_first : bytesOf 2 0x1234 = [0x12#8, 0x34#8] := by decide

/-- Table 13-1: READ_NOTICE is kind 0x1B and bit 2 of byte 3 of a permission set. -/
theorem test_permission_byte_of_read_notice :
    permBytes (PermSet.ofCodes [0x1B]) = [0#8, 0#8, 0#8, 0x04#8, 0#8] := by decide

/-- A request frame has sync, length, tag, kind, body and CRC; STATUS with tag 7 has no body. -/
theorem test_status_frame_envelope : (requestFrame 7#8 0x28#8 []).take 4 = [0xA5#8, 0x00#8, 0x07#8, 0x28#8] := by
  decide +kernel

theorem test_no_word_spells_a_command : decodeTableWord 8 0 = none := rfl

theorem test_locker_412_is_position_3_of_module_52 : lockerAt 412 = (52, 3) := by decide

theorem test_cabin_41_is_position_0_of_module_139 : cabinAt 41 = (139, 0) := by decide

theorem test_sweep_position_1238_is_slot_150 : sweepPlace 1238 = .slot 150 := by decide

/-! ### The overstay charge (Tables 5-3 to 5-6) -/

/-- An account with paid minutes and credit. -/
def account (minutes cents : Nat) : Account :=
  { paidMinutes := minutes, tariff := { bank := .a, cls := 0 }, paidCents := cents, longStay := false }

theorem test_charge_with_credit :
    charge 46050 36000 (account 120 200) { step := 900, rate := 150, cap := 1200 } 300 =
      { elapsed := 10050, steps := 4, gross := 600, paid := 200, due := 400 } := by decide +kernel

theorem test_charge_across_midnight :
    charge 1200 84600 (account 30 0) { step := 900, rate := 150, cap := 1200 } 300 =
      { elapsed := 3000, steps := 2, gross := 300, paid := 0, due := 300 } := by decide +kernel

theorem test_grace_edge :
    (stepsBegun 7499 7200 300 900, stepsBegun 7500 7200 300 900, stepsBegun 7501 7200 300 900,
      stepsBegun 8100 7200 300 900, stepsBegun 8101 7200 300 900) = (0, 0, 1, 1, 2) := by decide

theorem test_long_overrun_stops_at_the_cap :
    charge 30000 0 (account 120 200) { step := 900, rate := 150, cap := 1200 } 300 =
      { elapsed := 30000, steps := 26, gross := 1200, paid := 200, due := 1000 } := by decide +kernel

theorem test_greatest_product :
    charge 86399 0 (account 0 0) { step := 60, rate := 10000, cap := 65535 } 0 =
      { elapsed := 86399, steps := 1440, gross := 65535, paid := 0, due := 65535 } := by decide +kernel

theorem test_credit_exceeds_charge :
    (charge 10050 0 (account 120 700) { step := 900, rate := 150, cap := 1200 } 300).due = 0 := by decide

/-! ### A family arrives (section 12.1) -/

/-- Slots 1 to 36 in use, as at the till. -/
def till : State :=
  (List.range 36).foldl (fun s i => s.setBand (i + 1) (some (staff (i + 1) 1))) (clockAt 36000 hall)

/-- The parent's ISSUE_BAND. -/
def parentIssue : List Byte :=
  issueBody { serial := 5100001, staff := false, rank := 3, minutes := 360, cls := 0, leader := none, assignment := none }

/-- A child's ISSUE_BAND. -/
def childIssue : List Byte :=
  issueBody { serial := 5100002, staff := false, rank := 3, minutes := 360, cls := 3, leader := some 5100001,
              assignment := none }

/-- The till with the parent's band in slot 37. -/
def parentIn : State := put 37 { visitor 5100001 36000 .active with role := .none } till

theorem test_issue_band_takes_slot_37 :
    let t := after (.issueBand .cp0) (ask .cp0 .issueBand parentIssue till)
    replied .cp0 t = some (.ok, [0#8, 37#8, 0#8, 0#8]) ∧ t.slotOf 5100001 = some 37 := by decide +kernel

theorem test_issue_band_joins_the_leader :
    let t := after (.issueBand .cp0) (ask .cp0 .issueBand childIssue parentIn)
    (t.band 37).map (·.role) = some (.leader [38]) ∧ (t.band 38).map (·.role) = some (.member 37) := by decide +kernel

theorem test_presentation_binds_the_leader :
    let s := put 38 { visitor 5100002 36020 .active with role := .member 37 }
      (put 37 { visitor 5100001 36000 .active with role := .leader [38] } hall)
    let t := after .present (hand [.event 1 (.present 3 5100002)] s)
    t.locker 4 = { Locker.blank .free 0 with state := .latching, holder := some 37, fresh := true, origin := some .free } ∧
      (t.band 37).map (·.lockers) = some [4] ∧ t.zoneUsed 0 = true ∧
      (tableGet (t.module 1).positions Position.blank 3).shown = some .green := by decide +kernel

theorem test_latch_done_locks :
    let s := (clockAt 36381 hall).setLocker 4 { lock .latching (some 37) with fresh := true, origin := some .free }
    let t := after .latchDone (hand [.outcome { addr := 1, pos := 3, action := .latch, target := .locker 4 } .done] s)
    t.locker 4 = { lock .locked (some 37) with since := 36381 } ∧ t.field.handover = [] := by decide +kernel

theorem test_cabin_presentation_occupies :
    let s := put 37 { visitor 5100001 36000 .active with role := .leader [] } hall
    let t := after .present (hand [.event 129 (.present 0 5100001)] s)
    (t.cabin 1).state = .latching ∧ (t.cabin 1).occupant = some 37 ∧ (t.cabin 1).command = some .latch ∧
      (t.band 37).bind (·.cabin) = some 1 := by decide +kernel

theorem test_unlatch_done_empties_the_cabin :
    let s := (put 37 { visitor 5100001 36000 .active with cabin := some 1 } (clockAt 37921 hall)).setCabin 1
      (booth .unlatching (some 37) (some .unlatch))
    let t := after .unlatchDone (hand [.outcome { addr := 129, pos := 0, action := .unlatch, target := .cabin 1 } .done] s)
    (t.cabin 1).state = .vacant ∧ (t.cabin 1).occupant = none ∧ (t.cabin 1).since = 37921 ∧
      (t.band 37).bind (·.cabin) = none := by decide +kernel

/-! ### A band lost, and the family leaves (section 12.2) -/

/-- The parent's record as it stood before the reissue, with its members and a locker that is LATCHING. -/
def beforeReissue : State :=
  let s := put 38 { visitor 5100002 36020 .active with role := .member 37 } (clockAt 47112 hall)
  let s := put 37 { visitor 5100001 36000 .active with role := .leader [38], lockers := [4] } s
  s.setLocker 4 { lock .latching (some 37) with origin := some .closing }

theorem test_reissue_moves_every_reference :
    let t := after (.reissueBand .cp0) (ask .cp0 .reissueBand (twoSerialsBody 5100001 5100044) beforeReissue)
    (t.band 1).map (fun b => (b.serial, b.lockers, b.role, b.previous)) =
        some (5100044, [4], .leader [38], some 37) ∧
      (t.band 37).map (fun b => (b.state, b.lockers, b.role, b.next)) = some (.revoked, [], .none, some 1) ∧
      (t.band 38).map (·.role) = some (.member 1) ∧
      t.locker 4 = { lock .latching (some 1) with origin := some .closing } := by decide +kernel

theorem test_revoked_band_is_red_and_noticed :
    let s := put 37 { visitor 5100001 36000 .revoked with next := some 12 } (clockAt 49200 hall)
    let t := after .present (hand [.event 1 (.present 3 5100001)] s)
    t.notices.raised =
        [{ kind := .revokedPresented, place := some (.locker 4), serial := some 5100001, time := 49200, hit := none }] ∧
      (t.band 37).bind (·.lastPlace) = some { place := .locker 4, time := 49200 } ∧
      (tableGet (t.module 1).positions Position.blank 3).shown = some .red := by decide +kernel

theorem test_settle_refuses_with_members_inside :
    let s := put 12 { visitor 5100044 36000 .active with role := .leader [38, 39], lockers := [4] } hall
    replied .cp1 (after (.settle .cp1) (ask .cp1 .settle (bytesOf 4 5100044) s)) = some (.membersInside, []) := by
  decide +kernel

theorem test_settle_within_paid_time_is_clear :
    let b := { visitor 5100002 36020 .active with kind := .visitor (account 360 0) }
    let t := after (.settle .cp1) (ask .cp1 .settle (bytesOf 4 5100002) (put 38 b (clockAt 56400 hall)))
    replied .cp1 t = some (.clear, bytesOf 3 20380 ++ bytesOf 2 0 ++ bytesOf 2 0 ++ bytesOf 2 0 ++ bytesOf 2 0) ∧
      (t.band 38).map (·.state) = some (.cleared 56400) := by decide +kernel

theorem test_collect_tears_the_chain_down :
    let s := put 37 { visitor 5100001 36000 .revoked with next := some 12 }
      (put 12 { visitor 5100044 36000 (.cleared 56580) with previous := some 37, role := .leader [] } hall)
    let t := after (.collect .cp1) (ask .cp1 .collect (bytesOf 4 5100044) s)
    replied .cp1 t = some (.ok, [2#8]) ∧ t.band 12 = none ∧ t.band 37 = none ∧ t.slotOf 5100001 = none := by
  decide +kernel

theorem test_relock_window_frees_the_locker :
    let s := { (put 12 { visitor 5100044 36000 .active with lockers := [4] } (clockAt 56548 hall)).setLocker 4
      { Locker.blank .closing 56500 with holder := some 12 } with sweep := { index := 4, remaining := 3132, waiting := false } }
    let t := after .relockWindowExpiry s
    (t.locker 4).state = .free ∧ (t.locker 4).holder = none ∧ (t.band 12).map (·.lockers) = some [] ∧
      t.sweep = { index := 5, remaining := 3131, waiting := false } := by decide +kernel

theorem test_relock_window_43_s_old_runs_on :
    let s := { (put 12 { visitor 5100044 36000 .active with lockers := [4] } (clockAt 56548 hall)).setLocker 4
      { Locker.blank .closing 56505 with holder := some 12 } with sweep := { index := 4, remaining := 3132, waiting := false } }
    (after .sweepStep s).locker 4 = s.locker 4 ∧ (after .relockWindowExpiry s).sweep = s.sweep := by decide +kernel

/-! ### An overstay (section 12.3, Table 12-8) -/

theorem test_pay_part_of_the_sum :
    let t := after (.pay .cp0) (ask .cp0 .pay (serialAmountBody 5230117 500) (put 205 (visitor 5230117 79800 (.owing 600)) hall))
    replied .cp0 t = some (.owes, bytesOf 2 100 ++ bytesOf 2 500) ∧ (t.band 205).map (·.state) = some (.owing 100) := by
  decide +kernel

theorem test_pay_the_rest :
    let b := { visitor 5230117 79800 (.owing 300) with kind := .visitor (account 90 500) }
    let t := after (.pay .cp0) (ask .cp0 .pay (serialAmountBody 5230117 300) (put 205 b (clockAt 960 hall)))
    replied .cp0 t = some (.clear, bytesOf 2 0 ++ bytesOf 2 800) ∧ (t.band 205).map (·.state) = some (.cleared 960) := by
  decide +kernel

theorem test_add_time_saturates_at_720 :
    let b := { visitor 9 0 (.owing 50) with kind := .visitor (account 700 0) }
    let t := after (.addTime .cp0) (ask .cp0 .addTime (serialAmountBody 9 60) (put 1 b hall))
    replied .cp0 t = some (.ok, bytesOf 2 720) ∧ (t.band 1).map (·.state) = some .active := by decide +kernel

/-! ### A dip, a warm start and a cold start (sections 12.4 and 12.5) -/

/-- The straps as most boards set them. -/
def straps (clear : Bool) : Straps := { clearClosed := clear, portRate := .baud57600, loopRate := .baud38400 }

theorem test_hold_raises_power_warn_and_the_broadcast :
    let t := after .supplyHold hall
    t.supply.supply = .hold ∧ t.field.broadcast = some .hold ∧ t.notices.raised.map (·.kind) = [.powerWarn] := by
  decide +kernel

theorem test_hold_refuses_a_new_binding :
    let s := put 1 (visitor 160 0 .active) (after .supplyHold hall)
    let t := after .present (hand [.event 1 (.present 5 160)] s)
    (t.locker 6).state = .free ∧ (tableGet (t.module 1).positions Position.blank 5).shown = some .amber := by
  decide +kernel

theorem test_down_stops_the_ports_and_the_loop :
    let t := after .supplyDown { hall with field.exchange := some default }
    (t.port .cp0).link = .stopped ∧ t.field.exchange = none ∧ t.supply.lpen = false := by decide +kernel

theorem test_warm_start_keeps_the_locker_and_reads_the_module :
    let s := { (hall.setLocker 4 { lock .latching (some 9) with origin := some .closing }) with
      supply.supply := .down, supply.restoring := true, supply.lpen := false }
    let t := after (.returnFromDown (straps false)) s
    t.supply.supply = .normal ∧ t.notices.raised.map (·.kind) = [.powerRestored] ∧ (t.locker 4).state = .latching ∧
      (t.module 1).resync = true ∧ (t.module 1).coldRead = false ∧ t.field.broadcast = some .clear ∧
      t.sweep = { index := 1, remaining := 3135, waiting := false } := by decide +kernel

theorem test_lost_latch_is_settled_by_the_read :
    let s := hall.setLocker 5 { lock .latching (some 141) with origin := some .closing }
    (s.reconcileLocker 5 { engaged := true, doorOpen := false } false false).locker 5 =
      { lock .locked (some 141) with since := 5000 } := by decide +kernel

theorem test_cabin_found_free_is_released_by_power :
    let s := (put 88 { visitor 88 0 .active with cabin := some 1 } hall).setCabin 1 (booth .occupied (some 88) none)
    let t := s.reconcileCabin 1 { engaged := false, doorOpen := false }
    (t.cabin 1).state = .vacant ∧ (t.band 88).bind (·.cabin) = none ∧
      t.notices.raised.map (fun n => (n.kind, n.serial)) = [(.cabinReleasedByPower, some 88)] := by decide +kernel

theorem test_overhold_after_a_power_cut :
    let s := { (put 88 (visitor 88 0 .active) (clockAt 59704 hall)).setCabin 1
      { booth .occupied (some 88) none with since := 57900 } with sweep := { index := 1025, remaining := 2111, waiting := false } }
    let t := after .cabinOverhold s
    (t.cabin 1).stage = 1 ∧ t.notices.raised.map (fun n => (n.kind, n.serial)) = [(.cabinOverhold, some 88)] := by
  decide +kernel

theorem test_leave_lapses_without_a_long_stay :
    let s := { put 150 (visitor 150 51000 (.cleared 58500)) (clockAt 59704 hall) with
      sweep := { index := 1238, remaining := 1898, waiting := false } }
    let t := after .leaveLapsed s
    (t.band 150).map (·.state) = some .active ∧ t.notices.raised.map (·.kind) = [.leaveLapsed] := by decide +kernel

theorem test_cold_read_finds_an_orphan :
    let read : Reading := { engaged := true, doorOpen := false }
    let t := hall.reconcileLocker 3 read true false
    (t.locker 3).state = .orphaned ∧
      t.notices.raised.map (fun n => (n.kind, n.place, n.serial)) = [(.orphanFound, some (.locker 3), none)] := by
  decide +kernel

theorem test_module_90_goes_silent_at_the_third_failure :
    let x : Exchange := { kind := .readState, addr := 90, attempt := 3, frame := [], renewed := [] }
    let s := { hall.setModule 90 { Module.blank true with failures := 2 } with field.exchange := some x }
    let t := after .attemptTimeout s
    (t.module 90).silent = true ∧ (t.module 90).resync = true ∧ (t.module 90).coldRead = true ∧
      t.notices.raised.map (·.kind) = [.moduleSilent] := by decide +kernel

theorem test_issue_before_set_clock_is_refused :
    let s := { hall with supply.clockValid := false }
    replied .cp2 (after (.issueBand .cp2) (ask .cp2 .issueBand parentIssue s)) = some (.clockNotSet, []) := by
  decide +kernel

theorem test_set_clock_makes_it_valid :
    let t := after (.setClock .cp2) (ask .cp2 .setClock (bytesOf 3 23640) { hall with supply.clockValid := false })
    t.supply.clock = 23640 ∧ t.supply.clockValid = true ∧ replied .cp2 t = some (.ok, bytesOf 3 23640) := by
  decide +kernel

theorem test_rank_0_band_opens_the_orphan :
    let s := (put 1 (staff 9000007 0) hall).setLocker 3 (lock .orphaned none)
    let t := after .present (hand [.event 1 (.present 2 9000007)] s)
    (t.locker 3).state = .unlatching ∧ (t.locker 3).master = true ∧ (t.locker 3).release = true ∧
      (t.locker 3).origin = some .orphaned ∧ t.notices.raised.map (·.kind) = [.masterOpen] := by decide +kernel

theorem test_release_locker_unlatches_the_orphan :
    let s := hall.setLocker 6 (lock .orphaned none)
    let t := after (.releaseLocker .cp2) (ask .cp2 .releaseLocker (bytesOf 2 6) s)
    (t.locker 6).state = .unlatching ∧ (t.locker 6).release = true ∧ t.field.queue.length = 1 ∧
      replied .cp2 t = some (.ok, []) := by decide +kernel

/-! ### Notices, windows and the clock (chapters 9, 7 and 11) -/

/-- A notice of a priority in the example of section 9.4. -/
def noticeAt (k : NoticeKind) (priority time : Nat) : Notice :=
  { body := { kind := k, place := none, serial := none, time := time, hit := none }, priority := priority }

/-- The queue of the example: two at priority 5, M1 to M6 at priority 3, eight at priority 1. -/
def fullQueue : List Notice :=
  List.replicate 2 (noticeAt .moduleSilent 5 0) ++ (List.range 6).map (noticeAt .masterOpen 3) ++
    List.replicate 8 (noticeAt .unknownPresented 1 0)

theorem test_notice_not_above_the_lowest_is_dropped :
    queueAfter (noticeAt .unknownPresented 1 9) fullQueue = fullQueue := by decide +kernel

theorem test_notice_above_the_lowest_joins_its_priority :
    queueAfter (noticeAt .masterOpen 3 6) fullQueue =
      List.replicate 2 (noticeAt .moduleSilent 5 0) ++ (List.range 7).map (noticeAt .masterOpen 3) ++
        List.replicate 7 (noticeAt .unknownPresented 1 0) := by decide +kernel

theorem test_read_notice_returns_the_head :
    let s := hall.setQueue .cp0 fullQueue
    let t := after (.readNotice .cp0) (ask .cp0 .readNotice [] s)
    replied .cp0 t = some (.ok, noticeBytes (noticeAt .moduleSilent 5 0) ++ [15#8]) ∧ (t.queue .cp0).length = 15 := by
  decide +kernel

theorem test_window_values_are_clamped_and_the_rate_is_the_nearest :
    (Windows.clamped { opening := 1, relock := 500, reservation := 900, leave := 600, grace := 1801, limitSingle := 299,
                       limitFamily := 3601, limitStaff := 3600, escalation := 30 }).grace = 1800 ∧
      (nearestRate 191, nearestRate 192, nearestRate 767, nearestRate 768) = (.r128, .r256, .r512, .r1024) := by
  decide

theorem test_trim_across_midnight : trimmed 86380 30 = 10 ∧ trimmed 5 (-100) = 86345 := by decide

theorem test_day_clock_wraps : (after .dayClockTick (clockAt 86399 hall)).supply.clock = 0 := by decide +kernel

theorem test_save_complete_makes_the_store_valid :
    let s := after (.saveSettings .cp2) (ask .cp2 .saveSettings [] hall)
    let t := after (.saveComplete true) s
    replied .cp2 s = none ∧ t.supply.store = some hall.settings ∧ replied .cp2 t = some (.ok, []) := by decide +kernel

/-! ### Requests through the wire, and the loop -/

theorem test_gate_may_not_issue :
    let s := (requestFrame 7#8 0x01#8 parentIssue).foldl (fun s b => after (.portByteReceived .cp1 b) s) hall
    replied .cp1 (after (.portFrame .cp1) s) = some (.notPermitted, []) := by decide +kernel

theorem test_till_may_not_issue_rank_0_staff :
    let body := issueBody { serial := 9000007, staff := true, rank := 0, minutes := 0, cls := 0, leader := none,
                            assignment := none }
    let s := (requestFrame 7#8 0x01#8 body).foldl (fun s b => after (.portByteReceived .cp0 b) s) hall
    replied .cp0 (after (.portFrame .cp0) s) = some (.rank, []) := by decide +kernel

theorem test_poll_and_its_events :
    let s := after .poll hall
    let t := after (.moduleReply (loopFrame 1 0x81 ([0#8, 1#8, 2#8, 3#8] ++ bytesOf 4 0))) s
    s.field.lineFrame.take 3 = [1#8, 1#8, 9#8] ∧ t.field.handover = [.event 1 (.doorOpen 3)] ∧ t.field.exchange = none := by
  decide +kernel

theorem test_bad_crc8_starts_the_next_attempt :
    let t := after (.moduleReply [1#8, 0x81#8, 0#8, 0#8]) (after .poll hall)
    t.field.exchange.map (·.attempt) = some 2 := by decide +kernel

theorem test_service_hold_answers_red :
    let s := hand [] (hall.setModule 1 { hall.module 1 with held := true })
    let t := after .heldPresentRefused (s.handOver [.event 1 (.present 2 77)])
    (tableGet (t.module 1).positions Position.blank 2).shown = some .red ∧ t.field.handover = [] := by decide +kernel

theorem test_forced_locker_alarms_and_holds_its_module :
    let s := (put 9 { visitor 77 0 .active with lockers := [4] } hall).setLocker 4 (lock .locked (some 9))
    let t := after .doorOpen (hand [.event 1 (.doorOpen 3)] s)
    (t.locker 4).state = .forced ∧ (t.locker 4).holder = some 9 ∧ (t.module 1).held = true ∧
      t.notices.raised.map (fun n => (n.kind, n.serial)) = [(.lockerForced, some 77)] := by decide +kernel

theorem test_handle_empties_the_cabin :
    let s := (put 9 { visitor 77 0 .active with cabin := some 2 } hall).setCabin 2 (booth .latching (some 9) (some .latch))
    let t := after .handle (hand [.event 129 (.handle 1)] s)
    (t.cabin 2).state = .vacant ∧ (t.cabin 2).command = some .latch ∧ t.notices.raised = [] := by decide +kernel

theorem test_close_day_frees_the_reserved_and_orphans_the_locked :
    let s := put 9 { visitor 77 0 .active with lockers := [4, 5] } hall
    let s := (s.setLocker 4 (lock .locked (some 9))).setLocker 5 (lock .reserved (some 9))
    let t := after (.closeDay .cp2) (ask .cp2 .closeDay [] s)
    t.band 9 = none ∧ (t.locker 4).state = .orphaned ∧ (t.locker 5).state = .free ∧ (t.locker 5).holder = none := by
  decide +kernel

/-- A port waits in the sweep's way, so the step waits; it then holds that port back until it has been granted. -/
def stepWaiting : State := after .sweepStep (ask .cp2 .closeDay [] (hall.granted .sweep))

theorem test_sweep_step_waits :
    stepWaiting.sweep = { index := 1, remaining := 3135, waiting := true } := by decide +kernel

theorem test_waiting_step_is_granted_before_a_port_twice :
    let s := stepWaiting.granted (.port .cp2)
    s.mayGrant (.port .cp2) = false ∧
      (after .sweepStep s).sweep = { index := 2, remaining := 3134, waiting := false } := by decide +kernel

theorem test_watch_request_goes_before_a_grant :
    let s := ask .cp2 .clearWatch [3#8] (hand [.event 1 (.doorClosed 7)] hall)
    s.mayGrant .field = false ∧ (after (.clearWatch .cp2) s).mayGrant .field = true := by decide +kernel

/-- A SET_WATCH of slot 2 on CP2, taken, its reply on the line. -/
def watchTaken : State :=
  let q : WatchRequest := { watch := 2, enabled := true, stop := true, subject := .band 5 3, mask := 1#5, priority := 3 }
  after (.setWatch .cp2) (ask .cp2 .setWatch (watchBody q) hall)

/-- A RESET pulse with the CLEAR strap open: a warm start. -/
def restart (s : State) : State := after (.resetReleased (straps false)) (after .resetAsserted s)

/-- R158: the slot of a dropped SET_WATCH stands as it was before it; once the reply has left the line, it is kept. -/
theorem test_warm_start_undoes_an_outstanding_set_watch :
    (watchTaken.watch 2).enabled = true ∧ (restart watchTaken).watches = hall.watches ∧
      ((restart (after (.replySent .cp2) watchTaken)).watch 2).enabled = true := by decide +kernel

/-- R158: the same of a CLEAR_WATCH, whose slot goes on watching. -/
theorem test_warm_start_undoes_an_outstanding_clear_watch :
    let s := ask .cp2 .clearWatch [2#8] (after (.replySent .cp2) watchTaken)
    let t := after (.clearWatch .cp2) s
    (t.watch 2).enabled = false ∧ ((restart t).watch 2).enabled = true := by decide +kernel

/-- The hall with two alarms listed. -/
def alarmed : State :=
  { hall with
    notices.alarms := [3, 4].map fun n =>
      { kind := .lockerForced, place := some (.locker n), raised := 0, countdown := 120, escalated := false } }

/-- What the kinds taken without a grant write, one place of each kind. -/
def places (s : State) : List Nat :=
  [s.settings.cp1.rank, s.settings.thresholds.cp2, tableGet s.settings.priorities 0 14, s.notices.alarms.length,
    yesNo (s.module 1).held, s.supply.clock]

/-- R185: each kind that a block takes without a grant and that writes what a start keeps has no effect when its request is
dropped, and keeps its effect once its reply has left the line. -/
theorem test_dropped_request_taken_without_a_grant_has_no_effect :
    ∀ e ∈ [(ReqKind.setPort, portBody 1 1 0), (.setThreshold, [8#8]), (.setNoticePriority, priorityBody .settingsLost 7),
        (.ackAlarm, ackBody (.one .lockerForced 3)), (.ackAlarm, ackBody .all), (.holdModule, [1#8]),
        (.trimClock, trimBody 30)],
      places (after (rowOf .cp2 e.1) (ask .cp2 e.1 e.2 alarmed)) ≠ places alarmed ∧
        places (restart (after (rowOf .cp2 e.1) (ask .cp2 e.1 e.2 alarmed))) = places alarmed ∧
        places (restart (after (.replySent .cp2) (after (rowOf .cp2 e.1) (ask .cp2 e.1 e.2 alarmed)))) ≠ places alarmed := by
  decide +kernel

/-- R185: the list that a dropped ACK_ALARM gives back has gone on counting and has taken the alarms raised since. -/
theorem test_alarm_list_given_back_is_current :
    let t := after (.ackAlarm .cp2) (ask .cp2 .ackAlarm (ackBody .all) alarmed)
    let again : Raised := { kind := .lockerForced, place := some (.locker 5), serial := none, time := 9, hit := none }
    let u := after .noticeTaken (after .escalationTick { t with notices.raised := [again] })
    u.notices.alarms.map (·.place) = [some (.locker 5)] ∧
      (restart u).notices.alarms.map (fun a => (a.place, a.countdown)) =
        [(some (.locker 3), 119), (some (.locker 4), 119), (some (.locker 5), hall.settings.windows.escalation)] := by
  decide +kernel

/-- R185: a dropped request takes nothing back where a newer one, its reply sent, has written. -/
theorem test_newer_request_stands_over_a_dropped_one :
    let s := after (.setNoticePriority .cp1) (ask .cp1 .setNoticePriority (priorityBody .settingsLost 6) hall)
    let t := after (.setNoticePriority .cp2) (ask .cp2 .setNoticePriority (priorityBody .settingsLost 7) s)
    (restart (after (.replySent .cp2) t)).settings.priorities[14]? = some 7 ∧
      (restart (after (.replySent .cp1) t)).settings.priorities[14]? = some 6 ∧
      (restart t).settings.priorities = hall.settings.priorities := by decide +kernel

/-! ### Witnesses: the machine as a whole -/

theorem witness_StepRunsTheFrontCommand :
    (hall.withPending [.dayClockTick]).pending = .dayClockTick :: [] ∧ hall.pending = [] := by decide +kernel

/-- A state in the middle of things: an exchange at its last attempt, notices waiting, one alarm listed, one command queued. -/
def busy : State :=
  let s := hall.setQueue .cp0 [noticeAt .moduleSilent 5 0, noticeAt .unknownPresented 1 0]
  { s with
    pending := [.attemptTimeout],
    field.exchange := some { kind := .poll, addr := 1, attempt := 3, frame := [], renewed := [] },
    field.queue := List.replicate 32 { addr := 1, pos := 0, action := .latch, target := .locker 1 },
    field.cycle := 15, field.pollPosition := 144,
    sweep := { index := 3135, remaining := 1, waiting := false },
    notices.alarms := [{ kind := .lockerForced, place := some (.locker 1), raised := 0, countdown := 0, escalated := true }] }

/-- `busy` has a next step. -/
theorem witness_busy_steps : ∃ t, step busy = .next t := ⟨_, rfl⟩

theorem witness_StepsKeepCountsInRange : busy.CountsInRange := by
  refine ⟨?_, ?_, ?_, ?_, ?_, ?_, ?_, ?_⟩
  · decide +kernel
  · decide +kernel
  · decide +kernel
  · decide +kernel
  · decide +kernel
  · decide +kernel
  · decide +kernel
  · intro x h
    cases h
    decide

theorem witness_StepsKeepTheStop : busy.StandsStopped := by
  refine ⟨?_, ?_, ?_, ?_, ?_⟩
  · decide +kernel
  · decide +kernel
  · decide +kernel
  · intro p
    cases p <;> decide +kernel
  · intro h
    exact absurd h (by decide +kernel)

theorem witness_StepsKeepTheCommandQueue : busy.CommandQueueBounded := by
  unfold State.CommandQueueBounded
  decide +kernel

theorem witness_StepsKeepTheNoticeQueues : busy.NoticeQueuesOrdered := by
  intro p
  cases p <;> decide +kernel

theorem witness_StepsKeepTheAlarmList : busy.AlarmListSound := by
  intro _
  refine ⟨⟨?_, ?_, ?_, ?_⟩, ?_⟩
  · decide +kernel
  · decide +kernel
  · decide +kernel
  · decide +kernel
  · have none : busy.undo = [] := by decide +kernel
    rw [none]
    intro u hu
    cases hu

theorem witness_NoRequesterIsGrantedTwiceBeforeAnother :
    let s := ask .cp1 .queryBand [] hall
    Requester.port .cp1 ≠ .sweep ∧ (s.granted .sweep).waits (.port .cp1) = true ∧ hall.running = true ∧
      (cycleAfter hall.engine.lastGranted).head? = some (.port .cp0) := by decide +kernel

/-- Two grants to others, one after another, while the sweep waits. -/
theorem witness_NoRequesterIsGrantedTwiceBeforeAnother_grants :
    let s := { ((hall.setPort .cp1 (ask .cp1 .closeDay [] hall).ports.cp1).setPort .cp0
      (ask .cp0 .closeDay [] hall).ports.cp0) with sweep.waiting := true }
    let t := after (.closeDay .cp0) s
    let grants : List (State × Requester) := [(s, .port .cp0), (t, .port .cp1)]
    (∀ g ∈ grants, g.1.mayGrant g.2 = true ∧ g.1.waits .sweep = true ∧ g.2 ≠ .sweep) ∧
      t.engine.lastGranted = .port .cp0 := by decide +kernel

/-- A waiting sweep step, and a watch request that waits behind a whole handling. -/
theorem witness_waits_of_the_sweep_and_of_watch_requests :
    let s := { hall with sweep.waiting := true }
    let t := ask .cp2 .setWatch [] hall
    (s.granted (.port .cp0)).waits .sweep = true ∧ Requester.sweep ≠ .port .cp0 ∧
      t.request .cp2 .setWatch = some (rq .cp2 .setWatch [] hall) ∧ t.mayGrant .sweep = false ∧
      hall.promptWaits = false ∧ s.waits .sweep = true ∧ s.mayGrant .sweep = true := by decide +kernel

/-- A port that another goes before, a request's row without its request, a part that stands stopped, and the same of an
item. -/
theorem witness_NoRequesterIsGrantedTwiceBeforeAnother_waits :
    let s := hand [.event 1 (.doorOpen 3)] (ask .cp2 .closeDay [] (hall.granted (.port .cp1)))
    let t := ask .cp1 .closeDay [] ({ hall with sweep.waiting := true }.granted .field)
    arbitrated .closeDay = true ∧ t.mayGrant (.port .cp1) = false ∧ hall.request .cp1 .status = none ∧
      (suppliedAs .down false).running = false ∧ s.mayGrant .field = false ∧ hall.waitingItem = none := by decide +kernel

theorem witness_RefusedRequestsLeaveTheState :
    let s := put 9 (visitor 77 0 .revoked) hall
    (addTime (rq .cp0 .addTime [] s) s).1.code.refuses = true ∧
      (settle (rq .cp1 .settle (bytesOf 4 77) s) s).1.code = .revoked := by decide +kernel

/-- A body of a length the kind may not have, and one with a byte that is no code, at every kind of layout. -/
theorem witness_RefusedRequestsLeaveTheState_bodies :
    (ask .cp0 .issueBand [] hall).granting .cp0 .issueBand (rq .cp0 .issueBand [] hall) ∧ ¬bodyAllowed .issueBand [] ∧
      (ask .cp2 .saveSettings [0#8] hall).taking .cp2 .saveSettings (rq .cp2 .saveSettings [0#8] hall) ∧
      ¬bodyAllowed .saveSettings [0#8] ∧ ¬bodyAllowed .selectBank [2#8] ∧ bodyAllowed .selectBank [1#8] ∧
      ¬bodyAllowed .issueBand (bytesOf 4 77 ++ [0#8, 3#8, 0#8, 0#8, 0#8] ++ [2#8, 0#8, 0#8]) ∧
      ¬bodyAllowed .setNoticePriority [0#8, 1#8] ∧ ¬bodyAllowed .setNoticePriority [20#8, 1#8] ∧
      bodyAllowed .setNoticePriority [19#8, 1#8] ∧ bodyAllowed .ackAlarm [] ∧
      bodyAllowed .setModules [128#8, 1#8, 1#8, 3#8, 3#8, 3#8, 3#8] ∧
      ¬bodyAllowed .setModules [129#8, 1#8, 1#8, 2#8, 2#8, 2#8, 3#8] := by
  unfold bodyAllowed
  decide +kernel

/-! ### Witnesses: bytes, frames and ports -/

/-- A zone of one locker at the top of the range. -/
def topZone : Zone := { present := true, first := 1024, count := 1, rank := 3, groupOnly := true, order := .highFirst }

theorem witness_BodiesAndRepliesReadAsWritten :
    IssueRequest.fits { serial := 4294967295, staff := true, rank := 255, minutes := 65535, cls := 255,
                        leader := some 4294967295, assignment := some (.locker 65535) } ∧
      (BandRef.slot 4294967295).fits ∧ (Assignment.zone 65535).fits ∧
      ZoneRequest.fits { zone := 255, value := topZone } ∧
      TariffRequest.fits { bank := .b, cls := 255, value := { step := 65535, rate := 65535, cap := 65535 } } ∧
      WatchRequest.fits { watch := 255, enabled := true, stop := true, subject := .band 4294967295 65535, mask := 31#5,
                          priority := 255 } ∧
      (AckRequest.one .lockerForced 65535).fits ∧
      ModulesRequest.fits { addr := 144, configured := true, holdOnForce := false,
                            kinds := [.single, .family, .staff, .single] } ∧
      WindowsRequest.fits { values := Windows.factory, rate := 65535 } := by
  refine ⟨⟨by decide, by decide, by decide, by decide, ?_, ?_⟩, ?_, ?_, ⟨by decide, by decide, by decide, by decide⟩,
    ⟨by decide, by decide, by decide, by decide⟩, ⟨by decide, by decide, ?_⟩, ?_, ⟨by decide, by decide⟩, ?_⟩
  · intro l h
    cases h
    decide
  · intro a h
    cases h
    unfold Assignment.fits
    decide
  · unfold BandRef.fits
    decide
  · unfold Assignment.fits
    decide
  · unfold Subject.fits
    decide
  · unfold AckRequest.fits
    decide
  · unfold WindowsRequest.fits Windows.factory
    decide

theorem witness_loop_reply_clauses : (255 : Nat) < 256 ∧ (List.replicate 255 0#8).length < 256 ∧ (1 : Nat) ≠ 2 := by decide +kernel

/-- The frame of a reply and of none; data too short; one event of each kind that is no event of its module. -/
theorem witness_loop_reply_refusals :
    let x : Exchange := { kind := .poll, addr := 1, attempt := 1, frame := [], renewed := [] }
    let reply := loopFrame 1 0x81 [0#8, 0#8]
    replyData x reply = some [0#8, 0#8] ∧ replyData x (reply.dropLast ++ [0#8]) = none ∧ reply.getLast? ≠ some 0#8 ∧
      replyData x (reply ++ [0#8]) = none ∧ [0#8].length < 2 ∧ ([] : List Byte).length % 6 = 0 ∧
      (bytesOf 4 0).length = 4 ∧ (0#8).toNat = 0 ∧ 4 < (5#8).toNat ∧ 8 ≤ (8#8).toNat ∧ (4#8).toNat = 4 ∧
      ¬(129 ≤ x.addr ∧ x.addr ≤ 144) ∧
      contentOf x ([0#8, 2#8] ++ eventBytes (.doorOpen 7) ++ eventBytes (.handle 7)) = none ∧
      contentOf x ([0#8, 1#8] ++ eventBytes (.doorOpen 8)) = none := by decide +kernel

theorem witness_FrameSentBecomesTheRequest :
    (List.replicate 64 0#8).length ≤ Config.bodyTop ∧ (0x28#8).toNat < 128 ∧ (hall.port .cp2).link = .idle ∧
      (hall.port .cp2).outstanding = none ∧ (hall.port .cp2).ready = [] ∧ hall.portRefusal .cp2 0x28#8 [] = none := by
  decide +kernel

/-- The shortest frame and the longest are whole, and a frame of a kind with the reply bit set is not valid. -/
theorem witness_frame_clauses :
    frameWhole ((requestFrame 7#8 0x28#8 []).drop 1) = true ∧
      frameWhole ((requestFrame 7#8 0x28#8 (List.replicate 64 0#8)).drop 1) = true ∧
      frameValid ((requestFrame 7#8 0x7F#8 []).drop 1) = true ∧
      frameValid ((requestFrame 7#8 0x80#8 []).drop 1) = false := by decide +kernel

/-- A port that has received a length byte of `n` and `k` bytes more. -/
def receiving (n k : Nat) : State :=
  hall.setPort .cp0 { Port.idle with link := .receiving (BitVec.ofNat 8 n :: List.replicate k 0#8) }

theorem witness_ByteByLinkState :
    (hall.port .cp0).link = .idle ∧
      ((hall.setPort .cp0 { Port.idle with link := .receiving [] }).port .cp0).link = .receiving [] ∧
      ((receiving 64 67).port .cp0).link = .receiving (64#8 :: List.replicate 67 0#8) ∧
      (List.replicate 67 0#8).length ≠ (64#8).toNat + 4 ∧
      ((receiving 0 4).port .cp0).link = .receiving (0#8 :: List.replicate 4 0#8) ∧
      (List.replicate 4 0#8).length = (0#8).toNat + 4 ∧
      (hall.setPort .cp0 { Port.idle with link := .stopped }).port .cp0 = { Port.idle with link := .stopped } ∧
      (hall.setPort .cp0 { Port.idle with link := .sending default }).port .cp0 =
        { Port.idle with link := .sending default } := by
  decide +kernel

/-- The bytes after the sync byte of a request. -/
def sent (code : Byte) (body : List Byte) : List Byte := (requestFrame 7#8 code body).drop 1

/-- A port that has received a whole frame, with a request outstanding or not. -/
def arrived (p : PortId) (code : Byte) (body : List Byte) (outstanding : Option Request) : State :=
  hall.setPort p { link := .receiving (sent code body), outstanding := outstanding, ready := [] }

/-- Busy; a kind that does not exist; a kind not permitted; a rank too low; a request that goes on; a body without a rank, and
one with the rank in its last byte. -/
theorem witness_FrameCheckedInOrder :
    frameWhole (sent 0x29#8 []) = true ∧ frameValid (sent 0x29#8 []) = true ∧
      ((arrived .cp0 0x28#8 [] (some default)).port .cp0).outstanding ≠ none ∧ kindOf 0x29#8 = none ∧
      kindOf 0x09#8 = some .pay ∧ (hall.portPermitted .cp1).getLsbD (kindCode .pay - 1) = false ∧
      kindOf 0x01#8 = some .issueBand ∧ (hall.portPermitted .cp0).getLsbD (kindCode .issueBand - 1) = true ∧
      rankPasses .issueBand (hall.portRank .cp0) [0#8, 0#8, 0#8, 0#8, 1#8, 1#8] = false ∧
      rankPasses .issueBand (hall.portRank .cp0) [0#8, 0#8, 0#8, 0#8, 0#8, 2#8] = true ∧
      ((arrived .cp0 0x28#8 [] none).port .cp0).link = .receiving (sent 0x28#8 []) ∧
      [0#8, 0#8, 0#8, 0#8, 0#8, 3#8][5]? = some 3#8 ∧ (List.replicate 5 0#8).length ≤ 5 ∧ hall.portRank .cp1 ≤ 3 := by
  decide +kernel

theorem witness_DroppedFramesAndRepliesFreeTheLine :
    frameWhole [0#8, 7#8, 0x28#8, 0#8, 0#8] = true ∧ frameValid [0#8, 7#8, 0x28#8, 0#8, 0#8] = false ∧
      frameWhole [0#8, 7#8] = false ∧ (hall.port .cp0).ready = [] ∧
      ({ Port.idle with ready := [default] } : Port).ready = default :: [] ∧
      ((hall.setPort .cp0 { Port.idle with link := .receiving [] }).port .cp0).link ≠ .idle ∧
      ((hall.setPort .cp0 { Port.idle with link := .receiving [] }).port .cp0).link ≠ .stopped := by decide +kernel

theorem witness_PortRequestsTakeEffect :
    let s := ask .cp2 .status [] hall
    let body := portBody 1 3 (PermSet.ofCodes [0x08])
    let t := ask .cp2 .setPort body hall
    s.taking .cp2 .status (rq .cp2 .status [] hall) ∧ t.taking .cp2 .setPort (rq .cp2 .setPort body hall) ∧
      parsePort body = some (1, 3, PermSet.ofCodes [0x08]) ∧
      parsePort (portBody 0 1 0) = some (0, 1, 0) ∧ parsePort (portBody 2 1 0) = some (2, 1, 0) := by decide +kernel

/-- A port number above 2, and ranks on both sides of the range. -/
theorem witness_PortRequestsTakeEffect_refusals :
    parsePort (portBody 3 1 0) = some (3, 1, 0) ∧ parsePort (portBody 0 0 0) = some (0, 0, 0) ∧
      parsePort (portBody 2 4 0) = some (2, 4, 0) ∧
      (ask .cp2 .setPort (portBody 2 4 0) hall).taking .cp2 .setPort (rq .cp2 .setPort (portBody 2 4 0) hall) := by
  decide +kernel

/-- Requests of three ports that have written, the one whose reply leaves the line between the others; an alarm named by the
newer ACK_ALARM that the older one's list holds, and one that it does not. -/
theorem witness_DroppedFramesAndRepliesFreeTheLine_settled :
    let u (p : PortId) (n : Nat) : Undo := { port := p, before := .priority .settingsLost n }
    let us := [u .cp0 7, u .cp1 6, u .cp2 5]
    let a : Alarm := { kind := .lockerForced, place := some (.locker 1), raised := 0, countdown := 9, escalated := false }
    us = [u .cp0 7] ++ u .cp1 6 :: [u .cp2 5] ∧ (∀ v ∈ [u .cp0 7], v.port ≠ .cp1) ∧ (u .cp1 6).port = .cp1 ∧
      settledUndo .cp1 us = [u .cp0 7] ∧ (∀ v ∈ [u .cp0 7], v.port ≠ .cp2) ∧ [a] = [] ++ a :: [] ∧
      (∀ x ∈ [a], ¬(x.kind = .lockerForced ∧ x.place = some (.locker 2))) ∧ [a] ≠ [] := by decide +kernel

/-- A line that sends, with a reply behind it and with none. -/
theorem witness_driver_enable_clauses :
    let s := hall.setPort .cp0 { Port.idle with link := .sending default }
    (s.port .cp0).link = .sending default ∧ (s.port .cp0).ready = [] ∧
      ((s.setPort .cp0 { s.port .cp0 with ready := [default] }).port .cp0).ready ≠ [] := by decide +kernel

/-- An alarm listed for a locker. -/
def listed (n : Nat) : Alarm :=
  { kind := .lockerForced, place := some (.locker n), raised := 0, countdown := 1, escalated := false }

/-- The longest reply data, and the last position of a module of each kind. -/
theorem witness_reply_layout_clauses :
    (List.replicate 254 0#8).length < 255 ∧ 3 < (if 129 ≤ 144 ∧ 144 ≤ 144 then 4 else 8) ∧
      7 < (if 129 ≤ 128 ∧ 128 ≤ 144 then 4 else 8) ∧ [listed 1, listed 1024][1]? = some (listed 1024) := by decide +kernel

theorem witness_QueriesReportAndChangeNothing :
    let s := put 2047 (visitor 77 0 .active) hall
    (ask .cp0 .queryBand (bandRefBody (.slot 2047)) s).granting .cp0 .queryBand (rq .cp0 .queryBand (bandRefBody (.slot 2047)) s) ∧
      parseBandRef (bandRefBody (.slot 2047)) = some (.slot 2047) ∧
      s.findRef (.slot 2047) = .ok (2047, visitor 77 0 .active) ∧
      (ask .cp0 .queryLocker (bytesOf 2 1024) s).granting .cp0 .queryLocker (rq .cp0 .queryLocker (bytesOf 2 1024) s) ∧
      parseNumber 2 (bytesOf 2 1024) = some 1024 ∧
      (ask .cp0 .queryCabin [64#8] s).granting .cp0 .queryCabin (rq .cp0 .queryCabin [64#8] s) ∧
      parseNumber 1 [64#8] = some 64 ∧
      (ask .cp0 .queryZone [15#8] s).granting .cp0 .queryZone (rq .cp0 .queryZone [15#8] s) ∧
      (ask .cp0 .queryWatch [3#8] s).taking .cp0 .queryWatch (rq .cp0 .queryWatch [3#8] s) ∧
      (ask .cp0 .queryModule [144#8] s).taking .cp0 .queryModule (rq .cp0 .queryModule [144#8] s) ∧
      parseNumber 1 [144#8] = some 144 := by decide +kernel

/-- Slots and numbers on both sides of each range. -/
theorem witness_QueriesReportAndChangeNothing_refusals :
    parseBandRef (bandRefBody (.slot 2048)) = some (.slot 2048) ∧ hall.findRef (.slot 2048) = .error .outOfRange ∧
      hall.band 2047 = none ∧ hall.findRef (.slot 0) = .error .unknownBand ∧
      (ask .cp0 .queryBand (bandRefBody (.slot 2048)) hall).granting .cp0 .queryBand
        (rq .cp0 .queryBand (bandRefBody (.slot 2048)) hall) ∧
      parseNumber 2 (bytesOf 2 0) = some 0 ∧ parseNumber 2 (bytesOf 2 1025) = some 1025 ∧
      parseNumber 1 [0#8] = some 0 ∧ parseNumber 1 [65#8] = some 65 ∧ parseNumber 1 [16#8] = some 16 ∧
      parseNumber 1 [4#8] = some 4 ∧ parseNumber 1 [145#8] = some 145 := by decide +kernel

/-! ### Witnesses: bands -/

/-- A member with an assignment by locker number. -/
def memberIssue : IssueRequest :=
  { serial := 5100002, staff := false, rank := 3, minutes := 721, cls := 7, leader := some 5100001,
    assignment := some (.locker 8) }

theorem witness_IssueBandCreatesTheRecord :
    let s := ask .cp0 .issueBand (issueBody memberIssue) parentIn
    let r := rq .cp0 .issueBand (issueBody memberIssue) parentIn
    s.granting .cp0 .issueBand r ∧ parseIssue r.body = some memberIssue ∧ memberIssue.inRange = true ∧
      s.supply.clockValid = true ∧ s.supply.supply ≠ .hold ∧ s.slotOf memberIssue.serial = none ∧
      s.leaderFor memberIssue.leader = .ok (some 37) ∧ s.freeSlot = some 38 ∧
      s.issueLocker memberIssue (some 37) r.rank = .ok 8 := by decide +kernel

/-- ISSUE_BAND as a master would send it, in a state with what it names changed. -/
def issueIn (q : IssueRequest) (s : State) : State := ask .cp0 .issueBand (issueBody q) s

/-- One state for each check that fails: range, clock, supply, serial, leader, table, locker. -/
theorem witness_IssueBandRefusesInOrder :
    let q := memberIssue
    let full := { parentIn with engine.bands := Vector.replicate 2048 (some (visitor 5100001 0 .active)) }
    (issueIn q parentIn).granting .cp0 .issueBand (rq .cp0 .issueBand (issueBody q) parentIn) ∧
      parseIssue (issueBody q) = some q ∧ ({ q with rank := 1 } : IssueRequest).inRange = false ∧ q.inRange = true ∧
      ({ parentIn with supply.clockValid := false } : State).supply.clockValid = false ∧
      ({ parentIn with supply.supply := .hold } : State).supply.supply = .hold ∧
      (put 40 (visitor q.serial 0 .active) parentIn).slotOf q.serial ≠ none ∧ parentIn.slotOf q.serial = none ∧
      hall.leaderFor q.leader = .error .unknownBand ∧ parentIn.leaderFor q.leader = .ok (some 37) ∧
      full.leaderFor q.leader = .ok (some 37) ∧ full.freeSlot = none ∧ parentIn.freeSlot = some 38 ∧
      (parentIn.setLocker 8 (lock .locked none)).issueLocker q (some 37) 2 = .error .wrongState := by decide +kernel

/-- Leaders of each kind: a new one, one with room, one with five, one with a wrong state, a staff band, a member. -/
theorem witness_IssueBandRefusesInOrder_leaders :
    let leads (ms : List Nat) : State := put 37 { visitor 51 0 .active with role := .leader ms } hall
    let one (b : Band) : State := put 37 b hall
    (one (visitor 51 0 .active)).findSerial 51 = .ok (37, visitor 51 0 .active) ∧
      (leads [1, 2, 3, 4]).findSerial 51 = .ok (37, { visitor 51 0 .active with role := .leader [1, 2, 3, 4] }) ∧
      (leads [1, 2, 3, 4, 5]).findSerial 51 = .ok (37, { visitor 51 0 .active with role := .leader [1, 2, 3, 4, 5] }) ∧
      (visitor 51 0 (.owing 1)).state ≠ .active ∧ (staff 51 0).kind = .staff ∧ (visitor 51 0 .active).isVisitor = true ∧
      (one { visitor 51 0 .active with role := .member 3 }).findSerial 51 =
        .ok (37, { visitor 51 0 .active with role := .member 3 }) ∧
      hall.findSerial 4294967294 = .error .unknownBand ∧ hall.slotOf 4294967294 = none ∧
      (put 2047 (visitor 4294967294 0 .active) hall).slotOf 4294967294 = some 2047 ∧
      memberIssue.assignment = some (.locker 8) := by
  decide +kernel

theorem witness_PicksTakeTheFirstFree :
    till.freeSlot = some 37 ∧ hall.pickFree { Zone.factoryFirst with count := 9, order := .highFirst } = some 8 ∧
      hall.pickFree { Zone.factoryFirst with count := 9 } = some 1 ∧
      ({ hall with engine.bands := Vector.replicate 2048 (some (visitor 1 0 .active)) } : State).freeSlot = none ∧
      hall.pickFree { Zone.factoryFirst with first := 9, count := 1 } = none ∧ hall.zoneOf 1024 = some 0 ∧
      ({ hall with settings.zones := Vector.replicate 16 Zone.factoryOther } : State).zoneOf 1 = none ∧
      (∀ y, y ≤ 15 → (hall.zone y).present = true → y = 0) := by decide +kernel

/-- A request of a serial and an amount, on a state with one band. -/
def payIn (k : ReqKind) (b : Band) : State := ask .cp0 k (serialAmountBody 77 50) (put 9 b hall)

theorem witness_PayAndAddTimeChangeTheAccount :
    (payIn .pay (visitor 77 0 (.owing 50))).granting .cp0 .pay
        (rq .cp0 .pay (serialAmountBody 77 50) (put 9 (visitor 77 0 (.owing 50)) hall)) ∧
      parseSerialAmount (serialAmountBody 77 50) = some (77, 50) ∧
      (payIn .pay (visitor 77 0 (.owing 50))).findSerial 77 = .ok (9, visitor 77 0 (.owing 50)) ∧
      (payIn .pay (visitor 77 0 (.owing 51))).findSerial 77 = .ok (9, visitor 77 0 (.owing 51)) ∧
      (payIn .pay (visitor 77 0 .active)).findSerial 77 = .ok (9, visitor 77 0 .active) ∧
      (payIn .pay { visitor 77 0 .active with cabin := some 1 }).findSerial 77 =
        .ok (9, { visitor 77 0 .active with cabin := some 1 }) ∧
      (payIn .pay (staff 77 1)).findSerial 77 = .ok (9, staff 77 1) ∧
      (payIn .addTime (visitor 77 0 (.cleared 5))).granting .cp0 .addTime
        (rq .cp0 .addTime (serialAmountBody 77 50) (put 9 (visitor 77 0 (.cleared 5)) hall)) ∧
      (payIn .addTime (visitor 77 0 .revoked)).findSerial 77 = .ok (9, visitor 77 0 .revoked) := by decide +kernel

/-- No amount; a serial that no record has; one that no band can have. -/
theorem witness_unknown_serials :
    parseSerialAmount (serialAmountBody 77 0) = some (77, 0) ∧ hall.findSerial 77 = .error .unknownBand ∧
      hall.findSerial 0 = .error .outOfRange ∧ hall.findSerial 4294967295 = .error .outOfRange ∧
      parseNumber 4 (bytesOf 4 77) = some 77 ∧ parseBandRef (bandRefBody (.serial 77)) = some (.serial 77) ∧
      hall.findRef (.serial 77) = .error .unknownBand ∧
      (∀ k ∈ [ReqKind.pay, .addTime],
        (ask .cp0 k (serialAmountBody 77 1) hall).granting .cp0 k (rq .cp0 k (serialAmountBody 77 1) hall)) ∧
      (∀ k ∈ [ReqKind.revokeBand, .collect, .settle],
        (ask .cp2 k (bytesOf 4 77) hall).granting .cp2 k (rq .cp2 k (bytesOf 4 77) hall)) ∧
      (ask .cp2 .discardBand (bandRefBody (.serial 77)) hall).granting .cp2 .discardBand
        (rq .cp2 .discardBand (bandRefBody (.serial 77)) hall) := by decide +kernel

theorem witness_ReissueMovesTheVisit :
    let b := { visitor 5100001 36000 .active with role := .leader [38], lockers := [4] }
    let s := ask .cp0 .reissueBand (twoSerialsBody 5100001 5100044) beforeReissue
    s.granting .cp0 .reissueBand (rq .cp0 .reissueBand (twoSerialsBody 5100001 5100044) beforeReissue) ∧
      parseTwoSerials (twoSerialsBody 5100001 5100044) = some (5100001, 5100044) ∧ validSerial 5100044 = true ∧
      s.supply.supply ≠ .hold ∧ s.findSerial 5100001 = .ok (37, b) ∧ b.isVisitor = true ∧ b.state = .active ∧
      s.slotOf 5100044 = none ∧ s.chainLength b < 4 ∧ s.freeSlot = some 1 ∧ 37 ∉ b.members ∧ b.leaderSlot ≠ some 37 ∧
      1 ∉ b.members ∧ b.leaderSlot ≠ some 1 ∧ 38 ∈ b.members ∧ (s.band 38).map (·.role) = some (.member 37) := by
  decide +kernel

/-- A member's reissue: its leader lists it. -/
theorem witness_ReissueMovesTheVisit_member :
    let b := { visitor 5100002 36020 .active with role := .member 37 }
    let s := ask .cp0 .reissueBand (twoSerialsBody 5100002 5100044) beforeReissue
    s.findSerial 5100002 = .ok (38, b) ∧ b.leaderSlot = some 37 ∧ (s.band 37).map (·.role) = some (.leader [38]) := by
  decide +kernel

/-- REISSUE_BAND of serial 77 to 88, on a state with a band in slot 9. -/
def reissueIn (b : Band) (s : State) : State := ask .cp0 .reissueBand (twoSerialsBody 77 88) (put 9 b s)

/-- One state for each check that fails: serial range, supply, unknown, band, new serial, chain, table. -/
theorem witness_ReissueMovesTheVisit_refusals :
    let b := visitor 77 0 .active
    let chained := { b with previous := some 11 }
    let chain := put 11 { visitor 1 0 .revoked with previous := some 12 }
      (put 12 { visitor 2 0 .revoked with previous := some 13 } (put 13 (visitor 3 0 .revoked) hall))
    let full := { hall with engine.bands := Vector.replicate 2048 (some b), engine.serialMap := [(77, 9)] }
    (reissueIn b hall).granting .cp0 .reissueBand (rq .cp0 .reissueBand (twoSerialsBody 77 88) hall) ∧
      parseTwoSerials (twoSerialsBody 77 88) = some (77, 88) ∧ validSerial 0 = false ∧ validSerial 77 = true ∧
      validSerial 88 = true ∧ ({ reissueIn b hall with supply.supply := .hold } : State).supply.supply = .hold ∧
      hall.findSerial 77 = .error .unknownBand ∧ (reissueIn (staff 77 1) hall).findSerial 77 = .ok (9, staff 77 1) ∧
      (reissueIn (visitor 77 0 (.cleared 5)) hall).findSerial 77 = .ok (9, visitor 77 0 (.cleared 5)) ∧
      (reissueIn b (put 10 (visitor 88 0 .active) hall)).slotOf 88 ≠ none ∧ (reissueIn b hall).slotOf 88 = none ∧
      (reissueIn chained chain).findSerial 77 = .ok (9, chained) ∧ 4 ≤ (reissueIn chained chain).chainLength chained ∧
      (reissueIn b full).findSerial 77 = .ok (9, b) ∧ (reissueIn b full).chainLength b < 4 ∧
      (reissueIn b full).freeSlot = none := by decide +kernel

/-- REVOKE_BAND of the occupant of cabin 1. -/
def revokeIn (st : CabinState) : State :=
  ask .cp2 .revokeBand (bytesOf 4 77)
    ((put 9 { visitor 77 0 .active with cabin := some 1 } hall).setCabin 1 (booth st (some 9) none))

theorem witness_RevokeWithdrawsTheBand :
    (revokeIn .occupied).request .cp2 .revokeBand = some (rq .cp2 .revokeBand (bytesOf 4 77) hall) ∧
      (revokeIn .occupied).mayGrant (.port .cp2) = true ∧ parseNumber 4 (bytesOf 4 77) = some 77 ∧
      (revokeIn .occupied).findSerial 77 = .ok (9, { visitor 77 0 .active with cabin := some 1 }) ∧
      ((revokeIn .occupied).cabin 1).occupant = some 9 ∧ (revokeIn .occupied).field.queue.length < 32 ∧
      ((revokeIn .latching).cabin 1).state = .latching ∧
      32 ≤ ({ revokeIn .occupied with field.queue := busy.field.queue } : State).field.queue.length ∧
      (put 9 (visitor 77 0 .revoked) hall).findSerial 77 = .ok (9, visitor 77 0 .revoked) ∧
      (put 9 (visitor 77 0 .active) hall).findSerial 77 = .ok (9, visitor 77 0 .active) := by decide +kernel

/-- A chain of two records, the newest in slot 12. -/
def chainIn (newest : Band) (k : ReqKind) (body : List Byte) : State :=
  ask .cp2 k body
    (put 37 { visitor 5100001 36000 .revoked with next := some 12 } (put 12 { newest with previous := some 37 } hall))

theorem witness_CollectAndDiscardTearTheChainDown :
    let b := { visitor 5100044 0 (.cleared 60) with previous := some 37 }
    let s := chainIn (visitor 5100044 0 (.cleared 60)) .collect (bytesOf 4 5100044)
    let c := { visitor 5100044 0 .revoked with previous := some 37 }
    let t := chainIn (visitor 5100044 0 .revoked) .discardBand (bandRefBody (.slot 12))
    s.granting .cp2 .collect (rq .cp2 .collect (bytesOf 4 5100044) hall) ∧ s.findSerial 5100044 = .ok (12, b) ∧
      b.isCleared = true ∧ b.members = [] ∧ s.predecessors 2047 b.previous = [37] ∧
      t.granting .cp2 .discardBand (rq .cp2 .discardBand (bandRefBody (.slot 12)) hall) ∧
      t.findRef (.slot 12) = .ok (12, c) ∧ c.state = .revoked ∧ c.next = none ∧ c.lockers = [] ∧ c.members = [] := by
  decide +kernel

/-- A member that leaves its leader's list, and the refusals: not CLEARED, members, a next link, lockers. -/
theorem witness_CollectAndDiscardTearTheChainDown_members :
    let b := { visitor 5100044 0 (.cleared 60) with role := .member 40 }
    let l := { visitor 5100045 0 .active with role := .leader [2, 12, 3] }
    let s := put 40 l (chainIn b .collect (bytesOf 4 5100044))
    let chain := 12 :: s.predecessors 2047 (some 37)
    s.granting .cp2 .collect (rq .cp2 .collect (bytesOf 4 5100044) hall) ∧ chain.Nodup ∧
      s.findSerial 5100044 = .ok (12, { b with previous := some 37 }) ∧ 40 ∉ chain ∧ s.band 40 = some l ∧
      (s.band 12).bind (·.leaderSlot) = some 40 ∧ [2, 12, 3].erase 12 = [2, 3] ∧
      (visitor 77 0 .active).isCleared = false ∧ ({ b with role := .leader [2] } : Band).members ≠ [] ∧
      ({ visitor 76 0 .revoked with next := some 9 } : Band).next ≠ none ∧
      ({ visitor 76 0 .revoked with lockers := [4] } : Band).lockers ≠ [] := by decide +kernel

/-- A village at rest, one locker held by a visitor, and CLOSE_DAY asked. -/
def evening : State :=
  ask .cp2 .closeDay []
    ((put 9 { visitor 77 0 .active with lockers := [4] } State.reset).setLocker 4 (lock .locked (some 9)))

theorem evening_lockers_rest : ∀ l ∈ evening.engine.lockers.toList, l.state ≠ .latching ∧ l.state ≠ .unlatching := by
  decide +kernel

theorem evening_cabins_rest :
    ∀ k ∈ evening.engine.cabins.toList, k.state ≠ .latching ∧ k.state ≠ .unlatching ∧ k.state ≠ .occupied := by
  decide +kernel

theorem witness_CloseDayEmptiesTheVisitors :
    evening.granting .cp2 .closeDay (rq .cp2 .closeDay [] State.reset) ∧
      (∀ n, 1 ≤ n → n ≤ 1024 → (evening.locker n).state ≠ .latching ∧ (evening.locker n).state ≠ .unlatching) ∧
      (∀ c, 1 ≤ c → c ≤ 64 → (evening.cabin c).state ≠ .latching ∧ (evening.cabin c).state ≠ .unlatching ∧
        (evening.cabin c).state ≠ .occupied) ∧
      (evening.locker 4).holder = some 9 ∧ evening.holdsVisitor 9 = true ∧
      (evening.locker 4).closeState = some .orphaned :=
  ⟨by decide +kernel, fun _ h1 h2 => evening_lockers_rest _ (State.locker_mem _ ⟨h1, h2⟩),
    fun _ h1 h2 => evening_cabins_rest _ (State.cabin_mem _ ⟨h1, h2⟩), by decide +kernel, by decide +kernel,
    by decide +kernel⟩

/-- A locker that moves, a cabin that moves, and an OCCUPIED cabin. -/
theorem witness_CloseDayEmptiesTheVisitors_refusals :
    (∃ n, 1 ≤ n ∧ n ≤ 1024 ∧ ((evening.setLocker 1024 (lock .latching none)).locker n).state = .latching) ∧
      (∃ c, 1 ≤ c ∧ c ≤ 64 ∧ ((evening.setCabin 64 (booth .unlatching none none)).cabin c).state = .unlatching) ∧
      (∃ c, 1 ≤ c ∧ c ≤ 64 ∧ ((evening.setCabin 1 (booth .occupied (some 9) none)).cabin c).state = .occupied) :=
  ⟨⟨1024, by decide +kernel⟩, ⟨64, by decide +kernel⟩, ⟨1, by decide +kernel⟩⟩

/-- SETTLE of a band. -/
def settleIn (b : Band) : State := ask .cp1 .settle (bytesOf 4 77) (put 9 b hall)

theorem witness_SettleComputesTheCharge :
    let b := visitor 77 0 (.owing 50)
    (settleIn b).granting .cp1 .settle (rq .cp1 .settle (bytesOf 4 77) hall) ∧ (settleIn b).findSerial 77 = .ok (9, b) ∧
      b.kind = .visitor (account 120 0) ∧ b.cabin = none ∧ b.members = [] ∧ b.lockers = [] ∧
      0 < ((settleIn b).tariffClass { bank := .a, cls := 0 }).step := by decide +kernel

theorem witness_SettleDisposesByStateAndHoldings :
    (settleIn (visitor 77 0 .revoked)).findSerial 77 = .ok (9, visitor 77 0 .revoked) ∧
      (settleIn (staff 77 1)).findSerial 77 = .ok (9, staff 77 1) ∧
      (settleIn (visitor 77 0 (.cleared 5))).findSerial 77 = .ok (9, visitor 77 0 (.cleared 5)) ∧
      (settleIn { visitor 77 0 .active with cabin := some 1 }).findSerial 77 =
        .ok (9, { visitor 77 0 .active with cabin := some 1 }) ∧
      (settleIn { visitor 77 0 .active with role := .leader [2] }).findSerial 77 =
        .ok (9, { visitor 77 0 .active with role := .leader [2] }) ∧
      (settleIn { visitor 77 0 .active with lockers := [4] }).findSerial 77 =
        .ok (9, { visitor 77 0 .active with lockers := [4] }) := by decide +kernel

/-! ### Witnesses: the binding tables -/

/-- A leader with a locker, its member in a cabin, and the record that the leader's was reissued from. -/
def leaderBand : Band :=
  { visitor 77 0 .active with lockers := [4], role := .leader [10], previous := some 11 }

/-- The member of `leaderBand`. -/
def memberBand : Band := { visitor 78 0 .active with cabin := some 1, role := .member 9 }

/-- The predecessor of `leaderBand`. -/
def reissuedBand : Band := { visitor 76 0 .revoked with next := some 9 }

/-- The hall with one family in it, a locker LOCKED for the leader and a cabin OCCUPIED by the member. -/
def family : State :=
  ((put 11 reissuedBand (put 10 memberBand (put 9 leaderBand hall))).setLocker 4 (lock .locked (some 9))).setCabin 1
    (booth .occupied (some 10) none)

theorem hall_band (k : Nat) : hall.band k = none := by
  have h : hall.engine.bands = Vector.replicate 2048 none := rfl
  unfold State.band
  split
  · rfl
  · rw [h, tableGet_replicate]

theorem family_band (k : Nat) :
    family.band k = if k = 11 then some reissuedBand else if k = 10 then some memberBand
      else if k = 9 then some leaderBand else none := by
  simp only [family, put, State.setCabin_band, State.setLocker_band, State.mapSerial_band]
  split
  · subst k; exact State.setBand_band_self _ _ (by decide)
  · rw [State.setBand_band_ne _ _ (by omega)]
    simp only [State.mapSerial_band]
    split
    · subst k; exact State.setBand_band_self _ _ (by decide)
    · rw [State.setBand_band_ne _ _ (by omega)]
      simp only [State.mapSerial_band]
      split
      · subst k; exact State.setBand_band_self _ _ (by decide)
      · rw [State.setBand_band_ne _ _ (by omega), hall_band]

theorem family_band_cases {k : Nat} {b : Band} (h : family.band k = some b) :
    (k = 9 ∧ b = leaderBand) ∨ (k = 10 ∧ b = memberBand) ∨ (k = 11 ∧ b = reissuedBand) := by
  rw [family_band] at h
  split at h
  · cases h; simp [*]
  · split at h
    · cases h; simp [*]
    · split at h
      · cases h; simp [*]
      · cases h

theorem family_slotOf (m : Nat) :
    family.slotOf m = if m = 76 then some 11 else if m = 77 then some 9 else if m = 78 then some 10 else none := by
  have h : family.engine.serialMap = [(76, 11), (77, 9), (78, 10)] := by decide +kernel
  simp only [State.slotOf, h, List.find?, eq_comm (a := m)]
  repeat (first | rfl | split <;> simp_all)

theorem family_locker_four : family.locker 4 = lock .locked (some 9) := by decide +kernel

/-- Lockers 1 to 8 of the hall are FREE, the others UNFITTED. -/
theorem hall_locker {n : Nat} (h1 : 1 ≤ n) (h2 : n ≤ 1024) :
    hall.locker n = if n ≤ 8 then Locker.blank .free 0 else Locker.blank .unfitted 0 := by
  have h : hall.engine.lockers =
      tableSet (tableSet (tableSet (tableSet (tableSet (tableSet (tableSet (tableSet
        (Vector.replicate 1024 (Locker.blank .unfitted 0)) 0 (Locker.blank .free 0)) 1 (Locker.blank .free 0)) 2
        (Locker.blank .free 0)) 3 (Locker.blank .free 0)) 4 (Locker.blank .free 0)) 5 (Locker.blank .free 0)) 6
        (Locker.blank .free 0)) 7 (Locker.blank .free 0) := rfl
  unfold State.locker
  rw [if_neg (by omega), h]
  split
  · interval_cases n <;> decide +kernel
  · repeat rw [tableGet_tableSet_ne _ _ _ (by omega)]
    exact tableGet_replicate _ _ _

/-- Cabins 1 to 4 of the hall are VACANT, the others UNFITTED. -/
theorem hall_cabin {c : Nat} (h1 : 1 ≤ c) (h2 : c ≤ 64) :
    hall.cabin c = if c ≤ 4 then Cabin.blank .vacant 0 else Cabin.blank .unfitted 0 := by
  interval_cases c <;> decide +kernel

/-- Locker 4 is LOCKED for slot 9; every other locker is as in the hall. -/
theorem family_locker {n : Nat} (h1 : 1 ≤ n) (h2 : n ≤ 1024) :
    family.locker n = if n = 4 then lock .locked (some 9)
      else if n ≤ 8 then Locker.blank .free 0 else Locker.blank .unfitted 0 := by
  simp only [family, put, State.setCabin_locker]
  split
  · subst n
    exact State.setLocker_locker_self _ _ (by decide)
  · rw [State.setLocker_locker_ne _ _ (by omega)]
    simp only [State.mapSerial_locker, State.setBand_locker]
    exact hall_locker h1 h2

/-- Cabin 1 is OCCUPIED by slot 10; every other cabin is as in the hall. -/
theorem family_cabin {c : Nat} (h1 : 1 ≤ c) (h2 : c ≤ 64) :
    family.cabin c = if c = 1 then booth .occupied (some 10) none
      else if c ≤ 4 then Cabin.blank .vacant 0 else Cabin.blank .unfitted 0 := by
  simp only [family, put]
  split
  · subst c
    exact State.setCabin_cabin_self _ _ (by decide)
  · rw [State.setCabin_cabin_ne _ _ (by omega)]
    simp only [State.setLocker_cabin, State.mapSerial_cabin, State.setBand_cabin]
    exact hall_cabin h1 h2

theorem family_modules : family.configured 1 = true ∧ family.configured 129 = true := by decide +kernel

theorem witness_LockersAgree : family.LockersAgree := by
  refine ⟨?_, ?_, ?_⟩
  · intro n h h1 h2
    rw [family_locker h1 h2]
    constructor
    · intro hh
      split at hh
      · subst n
        cases hh
        exact ⟨leaderBand, by simp [family_band], by simp [leaderBand]⟩
      · split at hh <;> cases hh
    · rintro ⟨b, hb, hn⟩
      obtain ⟨rfl, rfl⟩ | ⟨rfl, rfl⟩ | ⟨rfl, rfl⟩ := family_band_cases hb
      · simp [leaderBand] at hn
        simp [hn, lock]
      · simp [memberBand, visitor] at hn
      · simp [reissuedBand, visitor] at hn
  · intro k b hb
    obtain ⟨rfl, rfl⟩ | ⟨rfl, rfl⟩ | ⟨rfl, rfl⟩ := family_band_cases hb <;>
      simp [leaderBand, memberBand, reissuedBand, visitor]
  · intro n h1 h2
    rw [family_locker h1 h2]
    have h : n ≤ 8 → family.configured (lockerAt n).1 = true := fun _ => by
      rw [show (lockerAt n).1 = 1 by simp [lockerAt]; omega]
      exact family_modules.1
    split
    · simp [h (by omega), lock, Locker.blank]
    · split
      · simp [h ‹_›, Locker.blank]
      · simp [Locker.blank]

theorem witness_CabinsAgree : family.CabinsAgree := by
  refine ⟨?_, ?_, ?_⟩
  · intro c k h1 h2
    rw [family_cabin h1 h2]
    constructor
    · intro hh
      split at hh
      · subst c
        cases hh
        exact ⟨memberBand, by simp [family_band], by simp [memberBand]⟩
      · split at hh <;> cases hh
    · rintro ⟨b, hb, hn⟩
      obtain ⟨rfl, rfl⟩ | ⟨rfl, rfl⟩ | ⟨rfl, rfl⟩ := family_band_cases hb
      · simp [leaderBand, visitor] at hn
      · simp [memberBand] at hn
        simp [← hn, booth]
      · simp [reissuedBand, visitor] at hn
  · intro k b c hb hc
    obtain ⟨rfl, rfl⟩ | ⟨rfl, rfl⟩ | ⟨rfl, rfl⟩ := family_band_cases hb <;>
      simp [leaderBand, memberBand, reissuedBand, visitor] at hc
    omega
  · intro c h1 h2
    rw [family_cabin h1 h2]
    have h : c ≤ 4 → family.configured (cabinAt c).1 = true := fun _ => by
      rw [show (cabinAt c).1 = 129 by simp [cabinAt]; omega]
      exact family_modules.2
    split
    · simp [h (by omega), booth, Cabin.blank]
    · split
      · simp [h ‹_›, Cabin.blank]
      · simp [Cabin.blank]

theorem witness_BindingTablesAgree : family.StandsStopped ∧ family.BindingTablesAgree := by
  refine ⟨⟨?_, ?_, ?_, ?_, ?_⟩, fun _ => ⟨witness_LockersAgree, witness_CabinsAgree, ⟨by decide +kernel, ?_⟩, ?_, ?_, ?_⟩⟩
  · decide +kernel
  · decide +kernel
  · decide +kernel
  · intro p
    cases p <;> decide +kernel
  · intro h
    exact absurd h (by decide +kernel)
  · intro m k
    rw [family_slotOf]
    constructor
    · intro h
      repeat (first | (cases h; done) | (cases h; exact ⟨_, family_band _, by subst m; rfl⟩) | split at h)
    · rintro ⟨b, hb, rfl⟩
      obtain ⟨rfl, rfl⟩ | ⟨rfl, rfl⟩ | ⟨rfl, rfl⟩ := family_band_cases hb <;> rfl
  · intro k b hb
    obtain ⟨rfl, rfl⟩ | ⟨rfl, rfl⟩ | ⟨rfl, rfl⟩ := family_band_cases hb
    · exact ⟨rfl, by decide, by decide, by simp [family_band, memberBand]⟩
    · exact ⟨rfl, leaderBand, [10], by simp [family_band], rfl, by simp⟩
    · trivial
  · intro k b hb
    obtain ⟨rfl, rfl⟩ | ⟨rfl, rfl⟩ | ⟨rfl, rfl⟩ := family_band_cases hb <;>
      refine ⟨by decide +kernel, ?_, ?_, ?_⟩ <;>
      simp [leaderBand, memberBand, reissuedBand, visitor, family_band]
  · intro k b hb
    obtain ⟨rfl, rfl⟩ | ⟨rfl, rfl⟩ | ⟨rfl, rfl⟩ := family_band_cases hb <;>
      simp [leaderBand, memberBand, reissuedBand, visitor]

/-! ### Witnesses: lockers, cabins and settings -/

theorem witness_BindingAndQueueingAreWhole :
    let s := (put 2047 { visitor 77 0 .active with lockers := [1024] } hall).setLocker 1024 (lock .locked (some 2047))
    s.band 2047 = some { visitor 77 0 .active with lockers := [1024] } ∧ (s.locker 1024).holder = some 2047 ∧
      (hall.locker 1).holder = none ∧ hall.isSilent 129 = false ∧ hall.configured 129 = true ∧
      hall.configured 2 = false ∧ (hall.setModule 1 { hall.module 1 with silent := true }).isSilent 1 = true := by
  decide +kernel

theorem witness_AssignmentReservesTheLocker :
    let b := { visitor 5100002 36020 .active with role := .member 37 }
    let body := assignBody 5100002 (.zone 0)
    let s := ask .cp0 .assignLocker body beforeReissue
    s.granting .cp0 .assignLocker (rq .cp0 .assignLocker body beforeReissue) ∧
      parseAssign body = some (5100002, .zone 0) ∧ (Assignment.zone 0).inRange = true ∧
      s.findSerial 5100002 = .ok (38, b) ∧ s.supply.supply ≠ .hold ∧ b.state = .active ∧ s.leaderRevoked b = false ∧
      s.assignment (.zone 0) b.rank 2 b.role (s.heldBy (b.holderSlot 38)) = .ok 1 ∧ (s.band 37).isSome = true := by
  decide +kernel

/-- An ASSIGN_LOCKER of serial 77, on a state with a band in slot 9. -/
def assignIn (a : Assignment) (b : Band) (s : State) : State := ask .cp0 .assignLocker (assignBody 77 a) (put 9 b s)

/-- One state for each check of R59 that fails. -/
theorem witness_AssignmentReservesTheLocker_refusals :
    let b := visitor 77 0 .active
    let s := assignIn (.zone 0) b hall
    let strict (z : Zone) : State := { s with settings.zones := tableSet s.settings.zones 0 z }
    s.granting .cp0 .assignLocker (rq .cp0 .assignLocker (assignBody 77 (.zone 0)) hall) ∧
      parseAssign (assignBody 77 (.zone 0)) = some (77, .zone 0) ∧ (Assignment.zone 16).inRange = false ∧
      (Assignment.locker 1024).inRange = true ∧ hall.findSerial 77 = .error .unknownBand ∧ s.findSerial 77 = .ok (9, b) ∧
      ({ s with supply.supply := .hold } : State).supply.supply = .hold ∧ (visitor 77 0 (.owing 1)).state ≠ .active ∧
      (put 12 (visitor 5 0 .revoked) s).leaderRevoked { b with role := .member 12 } = true ∧ s.leaderRevoked b = false ∧
      1 ≤ (put 9 { b with lockers := [4] } s).heldBy 9 ∧ s.heldBy 9 = 0 ∧ (s.zone 15).present = false ∧
      (s.zone 0).present = true ∧ (strict { s.zone 0 with rank := 1 }).zone 0 = { s.zone 0 with rank := 1 } ∧ 1 < max 3 2 ∧
      (put 12 (visitor 5 0 .revoked) s).band 12 = some (visitor 5 0 .revoked) ∧ s.band 12 = none ∧
      max 3 2 ≤ (s.zone 0).rank ∧ ((strict { s.zone 0 with groupOnly := true }).zone 0).groupOnly = true ∧
      (s.zone 0).groupOnly = false ∧ s.pickFree (s.zone 0) = some 1 ∧
      s.pickFree { s.zone 0 with first := 9, count := 1 } = none ∧ s.zoneOf 1 = some 0 ∧
      (strict { s.zone 0 with present := false }).zoneOf 1 = none ∧
      ((s.setLocker 8 (lock .latching none)).locker 8).state = .latching ∧
      ((s.setLocker 8 (lock .fault none)).locker 8).state ∉ [.latching, .unlatching, .free] := by decide +kernel

/-- A request that names locker 8, in one state of it. -/
def lockerIn (k : ReqKind) (body : List Byte) (l : Locker) : State := ask .cp2 k body (hall.setLocker 8 l)

theorem witness_LockerRequestsTakeEffect :
    let body := bytesOf 2 8
    parseNumber 2 body = some 8 ∧ hall.isSilent (lockerAt 8).1 = false ∧ hall.field.queue.length < 32 ∧
      (lockerIn .openLocker body (lock .fault none)).granting .cp2 .openLocker (rq .cp2 .openLocker body hall) ∧
      ((lockerIn .openLocker body (lock .fault none)).locker 8).state = .fault ∧
      (lockerIn .releaseLocker body (lock .forced none)).granting .cp2 .releaseLocker (rq .cp2 .releaseLocker body hall) ∧
      ((lockerIn .releaseLocker body (lock .forced none)).locker 8).latch = .engaged ∧
      (lockerIn .rearmLocker body (lock .forced none)).granting .cp2 .rearmLocker (rq .cp2 .rearmLocker body hall) ∧
      ((lockerIn .rearmLocker body (lock .forced none)).locker 8).door ≠ .opened ∧
      ((lockerIn .releaseLocker body (lock .closing none)).locker 8).state = .closing ∧
      ((lockerIn .releaseLocker body { lock .forced none with latch := .unknown }).locker 8).latch ≠ .engaged ∧
      (lockerIn .setLockerService (lockerServiceBody 8 false) (lock .free none)).granting .cp2 .setLockerService
        (rq .cp2 .setLockerService (lockerServiceBody 8 false) hall) ∧
      parseLockerService (lockerServiceBody 8 false) = some (8, false) ∧
      parseLockerService (lockerServiceBody 8 true) = some (8, true) ∧
      ((lockerIn .setLockerService [] (lock .outOfService none)).locker 8).state = .outOfService := by decide +kernel

/-- Both ends of the range, a locker that moves, one in the wrong state, an open door, a SILENT module, a full queue. -/
theorem witness_LockerRequestsTakeEffect_refusals :
    let s := lockerIn .rearmLocker (bytesOf 2 8) { lock .forced none with door := .opened }
    parseNumber 2 (bytesOf 2 0) = some 0 ∧ parseNumber 2 (bytesOf 2 1025) = some 1025 ∧
      parseLockerService (lockerServiceBody 1025 true) = some (1025, true) ∧ (s.locker 8).door = .opened ∧
      ((lockerIn .openLocker (bytesOf 2 8) (lock .unlatching none)).locker 8).state = .unlatching ∧
      ((lockerIn .openLocker (bytesOf 2 8) (lock .free none)).locker 8).state = .free ∧
      (s.setModule 1 { s.module 1 with silent := true }).isSilent (lockerAt 8).1 = true ∧
      32 ≤ ({ s with field.queue := busy.field.queue } : State).field.queue.length := by decide +kernel

/-- A request that names cabin 4, in one state of it. -/
def cabinIn (k : ReqKind) (body : List Byte) (r : Cabin) : State := ask .cp2 k body (hall.setCabin 4 r)

theorem witness_CabinRequestsTakeEffect :
    (cabinIn .openCabin [4#8] (booth .vacant none none)).granting .cp2 .openCabin (rq .cp2 .openCabin [4#8] hall) ∧
      parseNumber 1 [4#8] = some 4 ∧ hall.isSilent (cabinAt 4).1 = false ∧
      ((cabinIn .openCabin [4#8] (booth .vacant none none)).cabin 4).latch ≠ .free ∧
      ((cabinIn .openCabin [4#8] (booth .occupied (some 9) none)).cabin 4).state = .occupied ∧
      ((cabinIn .openCabin [4#8] (booth .vacant none (some .latch))).cabin 4).command ≠ none ∧
      (cabinIn .setCabinService (cabinServiceBody 4 false) (booth .vacant none none)).granting .cp2 .setCabinService
        (rq .cp2 .setCabinService (cabinServiceBody 4 false) hall) ∧
      parseCabinService (cabinServiceBody 4 false) = some (4, false) ∧
      parseCabinService (cabinServiceBody 4 true) = some (4, true) ∧
      ((cabinIn .setCabinService [] (booth .outOfService none none)).cabin 4).state = .outOfService := by decide +kernel

/-- Both ends of the range, a cabin that does not accept the request, a SILENT module, a full queue. -/
theorem witness_CabinRequestsTakeEffect_refusals :
    let s := cabinIn .openCabin [4#8] { booth .vacant none none with latch := .free }
    parseNumber 1 [0#8] = some 0 ∧ parseNumber 1 [65#8] = some 65 ∧
      parseCabinService (cabinServiceBody 65 true) = some (65, true) ∧ (s.cabin 4).latch = .free ∧
      (s.cabin 4).state = .vacant ∧
      (s.setModule 129 { s.module 129 with silent := true }).isSilent (cabinAt 4).1 = true ∧
      32 ≤ ({ s with field.queue := busy.field.queue } : State).field.queue.length := by decide +kernel

/-- No locker of the `hall` state is bound. -/
theorem hall_lockers_unbound : ∀ l ∈ hall.engine.lockers.toList, l.holder = none := by decide +kernel

theorem witness_SettingsRequestsAreStored :
    let q : ZoneRequest := { zone := 15, value := topZone }
    let s := { hall with settings.zones := tableSet hall.settings.zones 0 { Zone.factoryFirst with count := 1023 } }
    let windows : WindowsRequest := { values := Windows.factory, rate := 191 }
    let tariff : TariffRequest := { bank := .b, cls := 7, value := { step := 59, rate := 10001, cap := 65535 } }
    (ask .cp2 .setZone (zoneBody q) s).granting .cp2 .setZone (rq .cp2 .setZone (zoneBody q) s) ∧
      parseZone (zoneBody q) = some q ∧ q.value.first + q.value.count ≤ 1025 ∧
      (∀ i, i ≤ 15 → i ≠ q.zone → (s.zone i).present = true →
        (s.zone i).first + (s.zone i).count ≤ q.value.first ∨ q.value.first + q.value.count ≤ (s.zone i).first) ∧
      (∀ n, 1 ≤ n → n ≤ 1024 → (s.locker n).holder = none) ∧
      (ask .cp2 .setTariff (tariffBody tariff) hall).granting .cp2 .setTariff (rq .cp2 .setTariff (tariffBody tariff) hall) ∧
      parseTariff (tariffBody tariff) = some tariff ∧
      (ask .cp0 .selectBank [1#8] hall).granting .cp0 .selectBank (rq .cp0 .selectBank [1#8] hall) ∧
      parseBank [1#8] = some .b ∧
      (ask .cp2 .setWindows (windowsBody windows) hall).granting .cp2 .setWindows
        (rq .cp2 .setWindows (windowsBody windows) hall) ∧
      parseWindows (windowsBody windows) = some windows :=
  ⟨by decide +kernel, by decide +kernel, by decide +kernel, by decide +kernel,
    fun _ h1 h2 => hall_lockers_unbound _ (State.locker_mem hall ⟨h1, h2⟩), by decide +kernel, by decide +kernel,
    by decide +kernel, by decide +kernel, by decide +kernel, by decide +kernel⟩

/-- A zone past the last locker, a body that spells no zone, an overlap at one locker, a bound locker, a change of present
alone. -/
theorem witness_SettingsRequestsAreStored_zones :
    let far : ZoneRequest := { zone := 15, value := { topZone with count := 2 } }
    let q : ZoneRequest := { zone := 1, value := { topZone with first := 8 } }
    let s := hall.setLocker 8 (lock .locked (some 9))
    let alone : ZoneRequest := { zone := 0, value := { hall.zone 0 with present := false } }
    parseZone (zoneBody far) = some far ∧ 1025 < far.value.first + far.value.count ∧ parseZone [] = none ∧ parseZone (zoneBody q) = some q ∧
      (hall.zone 0).present = true ∧ (hall.zone 0).first ≤ 8 ∧ 8 < (hall.zone 0).first + (hall.zone 0).count ∧
      (ask .cp2 .setZone [] hall).granting .cp2 .setZone (rq .cp2 .setZone [] hall) ∧ (s.locker 8).holder ≠ none ∧
      parseZone (zoneBody alone) = some alone ∧ alone.value = { s.zone 0 with present := !(s.zone 0).present } := by
  decide +kernel

/-- The lowest class above the range. -/
theorem witness_SettingsRequestsAreStored_class :
    let q : TariffRequest := { bank := .a, cls := 8, value := { step := 60, rate := 0, cap := 0 } }
    (ask .cp2 .setTariff (tariffBody q) hall).granting .cp2 .setTariff (rq .cp2 .setTariff (tariffBody q) hall) ∧
      parseTariff (tariffBody q) = some q ∧ 7 < q.cls := by decide +kernel

/-! ### Witnesses: watches, notices, modules, the clock and the store -/

/-- A stopping watch over one serial, at its last count. -/
def stopWatch : Watch :=
  { enabled := true, subject := .band 77 1, mask := 3#5, priority := 7, stop := true, hits := 255, lastHit := none }

theorem witness_WatchesAreSetAndCount :
    let q : WatchRequest := { watch := 3, enabled := true, stop := true, subject := .band 4294967294 1, mask := 31#5,
                              priority := 7 }
    (ask .cp2 .setWatch (watchBody q) hall).taking .cp2 .setWatch (rq .cp2 .setWatch (watchBody q) hall) ∧
      parseWatch (watchBody q) = some q ∧ q.inRange = true ∧
      (ask .cp2 .clearWatch [3#8] hall).taking .cp2 .clearWatch (rq .cp2 .clearWatch [3#8] hall) ∧
      parseNumber 1 [3#8] = some 3 ∧ (hall.setWatch 3 stopWatch).watch 3 = stopWatch ∧
      stopWatch.mask.getLsbD (watchCode .presented) = true ∧ stopWatch.enabled = true := by decide +kernel

/-- A watch request one past each end of its ranges. -/
theorem witness_WatchesAreSetAndCount_refusals :
    let q (sub : Subject) : WatchRequest :=
      { watch := 3, enabled := true, stop := false, subject := sub, mask := 0#5, priority := 7 }
    let bad := q (.band 4294967294 2)
    (∀ sub ∈ [Subject.band 0 1, .band 4294967295 1, .band 1 0, .band 1 257, .band 4294967294 2, .places .locker 0 1,
        .places .locker 2 1, .places .locker 1 1025, .places .cabin 1 65], (q sub).inRange = false) ∧
      (∀ sub ∈ [Subject.band 4294967294 1, .band 1 256, .places .locker 1024 1024, .places .cabin 64 64],
        (q sub).inRange = true) ∧
      ({ q (.places .cabin 1 1) with stop := true } : WatchRequest).inRange = false ∧
      (ask .cp2 .setWatch (watchBody bad) hall).taking .cp2 .setWatch (rq .cp2 .setWatch (watchBody bad) hall) ∧
      parseWatch (watchBody bad) = some bad ∧ parseNumber 1 [4#8] = some 4 ∧
      (ask .cp2 .clearWatch [4#8] hall).taking .cp2 .clearWatch (rq .cp2 .clearWatch [4#8] hall) := by decide +kernel

/-- A watch request outstanding that has written its slot, and a step from there. -/
theorem witness_WatchesAreSetAndCount_undo :
    (watchTaken.withPending [.replySent .cp2]).UndoSound ∧ watchTaken.undo ≠ [] ∧
      ∃ t, step (watchTaken.withPending [.replySent .cp2]) = .next t := by
  have only : (watchTaken.withPending [.replySent .cp2]).undo = [{ port := .cp2, before := .watch 2 (hall.watch 2) }] := by
    decide +kernel
  refine ⟨⟨?_, ?_⟩, by decide +kernel, _, rfl⟩
  · intro u hu
    rw [only, List.mem_singleton] at hu
    subst hu
    cases h : ((watchTaken.withPending [.replySent .cp2]).port .cp2).outstanding with
    | none => exact absurd h (by decide +kernel)
    | some r =>
      have hr : ((watchTaken.withPending [.replySent .cp2]).port .cp2).outstanding.all fun r =>
          r.taken && decide (kindOf r.code = some .setWatch) := by decide +kernel
      rw [h, Option.all_some, Bool.and_eq_true, decide_eq_true_eq] at hr
      exact ⟨r, .setWatch, rfl, hr.1, hr.2, rfl, by decide⟩
  · rw [only]
    exact List.pairwise_singleton _ _

theorem witness_NoticeRequestsTakeEffect :
    let s := { hall.setQueue .cp1 [noticeAt .moduleSilent 5 0] with notices.alarms := [listed 1, listed 1024] }
    let body := ackBody (.one .lockerForced 1024)
    (ask .cp1 .readNotice [] s).taking .cp1 .readNotice (rq .cp1 .readNotice [] s) ∧ s.queue .cp0 = [] ∧
      s.queue .cp1 = noticeAt .moduleSilent 5 0 :: [] ∧
      (ask .cp2 .ackAlarm body s).taking .cp2 .ackAlarm (rq .cp2 .ackAlarm body s) ∧ parseAck [] = some .all ∧
      parseAck body = some (.one .lockerForced 1024) ∧ alarmPlace .lockerForced 1024 = some (.locker 1024) ∧
      s.notices.alarms = [listed 1] ++ listed 1024 :: [] ∧
      (ask .cp1 .setThreshold [8#8] s).taking .cp1 .setThreshold (rq .cp1 .setThreshold [8#8] s) ∧
      parseNumber 1 [8#8] = some 8 ∧
      (ask .cp2 .setNoticePriority (priorityBody .watchHit 7) s).taking .cp2 .setNoticePriority
        (rq .cp2 .setNoticePriority (priorityBody .watchHit 7) s) ∧
      parsePriority (priorityBody .watchHit 7) = some (.watchHit, 7) ∧
      parsePriority (priorityBody .settingsLost 7) = some (.settingsLost, 7) := by decide +kernel

/-- An alarm that is not listed, a place outside its range, a kind that is no alarm; a threshold and a priority too high; a
port's line high and low. -/
theorem witness_NoticeRequestsTakeEffect_refusals :
    let body := ackBody (.one .cabinForced 65)
    (ask .cp2 .ackAlarm body hall).taking .cp2 .ackAlarm (rq .cp2 .ackAlarm body hall) ∧
      parseAck body = some (.one .cabinForced 65) ∧ alarmPlace .cabinForced 65 = none ∧ alarmPlace .powerWarn 1 = none ∧
      alarmPlace .cabinForced 64 = some (.cabin 64) ∧ (∀ a ∈ hall.notices.alarms, ¬a.kind = .cabinForced) ∧
      (ask .cp1 .setThreshold [9#8] hall).taking .cp1 .setThreshold (rq .cp1 .setThreshold [9#8] hall) ∧
      parseNumber 1 [9#8] = some 9 ∧
      (ask .cp2 .setNoticePriority (priorityBody .watchHit 8) hall).taking .cp2 .setNoticePriority
        (rq .cp2 .setNoticePriority (priorityBody .watchHit 8) hall) ∧
      parsePriority (priorityBody .watchHit 8) = some (.watchHit, 8) ∧ hall.attention .cp0 = false ∧
      (hall.setQueue .cp0 fullQueue).attention .cp0 = true := by decide +kernel

/-- One alarm raised. -/
def raisedAlarm : Raised := { kind := .lockerForced, place := some (.locker 1), serial := none, time := 0, hit := none }

/-- Not an alarm; listed already; room; a full list; routed to CP2 alone; a queue with room, and a full one. -/
theorem witness_NoticeTakenIsListedRoutedAndQueued :
    let s := { hall with notices.raised := [raisedAlarm] }
    s.notices.raised = raisedAlarm :: [] ∧ s.running = true ∧ isAlarm .lockerForced = true ∧ isAlarm .moduleBack = false ∧
      (∃ a ∈ [listed 1], a.kind = raisedAlarm.kind ∧ a.place = raisedAlarm.place) ∧
      (∀ a ∈ (List.range 8).map fun i => listed (i + 2), ¬(a.kind = raisedAlarm.kind ∧ a.place = raisedAlarm.place)) ∧
      s.routedTo .cp2 { body := raisedAlarm, priority := 0 } = true ∧
      s.routedTo .cp0 { body := raisedAlarm, priority := 0 } = false ∧
      (∀ m ∈ List.replicate 8 (noticeAt .unknownPresented 1 0), m.priority < (noticeAt .masterOpen 3 6).priority) ∧
      (∀ m ∈ fullQueue.take 8, (noticeAt .masterOpen 3 6).priority ≤ m.priority) ∧
      (fullQueue.take 8 ++ List.replicate 8 (noticeAt .unknownPresented 1 0)).length = 16 ∧
      raisedAlarm.hit = none ∧ isAlarm .settingsLost = false ∧ NoticeKind.settingsLost ≠ .watchHit ∧
      ({ raisedAlarm with kind := .watchHit, hit := some { watch := 3, event := .refused, priority := 7 } } : Raised).hit =
        some { watch := 3, event := .refused, priority := 7 } := by decide +kernel

/-- An alarm raised while an ACK_ALARM is outstanding. -/
theorem witness_NoticeTakenIsListedRoutedAndQueued_undo :
    let u : Undo := { port := .cp2, before := .alarms none [listed 1] false }
    let s := { hall with notices.raised := [raisedAlarm], undo := [u] }
    s.undo[0]? = some u ∧ (after .noticeTaken s).undo[0]? = some u ∧
      (after .noticeTaken s).notices.alarms.length = 1 := by decide +kernel

theorem witness_EscalationCountsDown :
    let s := { hall with notices.alarms := [listed 1, { listed 2 with countdown := 120 }] }
    s.running = true ∧ (∃ a ∈ s.notices.alarms, a.escalated = false ∧ a.countdown ≤ 1) := by decide +kernel

/-- A full list and one alarm more; an escalated record acknowledged, with and without the overflow flag. -/
theorem witness_EscalationCountsDown_line :
    let full := { hall with notices.raised := [raisedAlarm], notices.alarms := (List.range 8).map fun i => listed (i + 2) }
    let s := { hall with notices.alarms := [listed 1, { listed 2 with escalated := true }] }
    let body := ackBody (.one .lockerForced 2)
    full.notices.raised = raisedAlarm :: [] ∧ full.running = true ∧ isAlarm raisedAlarm.kind = true ∧
      (∀ a ∈ full.notices.alarms, ¬(a.kind = raisedAlarm.kind ∧ a.place = raisedAlarm.place)) ∧
      8 ≤ full.notices.alarms.length ∧ s.alarmLine = true ∧ (suppliedAs .down false).running = false ∧
      (ask .cp2 .ackAlarm body s).taking .cp2 .ackAlarm (rq .cp2 .ackAlarm body s) ∧
      parseAck body = some (.one .lockerForced 2) ∧ alarmPlace .lockerForced 2 = some (.locker 2) ∧
      s.notices.alarms = [listed 1] ++ { listed 2 with escalated := true } :: [] ∧ parseAck [] = some .all ∧
      (after (.ackAlarm .cp2) (ask .cp2 .ackAlarm body s)).alarmLine = false := by decide +kernel

/-- SET_MODULES of one module. -/
def modulesIn (q : ModulesRequest) (s : State) : State := ask .cp2 .setModules (modulesBody q) s

theorem witness_SetModulesFitsThePositions :
    let on : ModulesRequest :=
      { addr := 144, configured := true, holdOnForce := false, kinds := [.single, .family, .staff, .single] }
    let off : ModulesRequest := { addr := 1, configured := false, holdOnForce := false, kinds := [] }
    (modulesIn on hall).granting .cp2 .setModules (rq .cp2 .setModules (modulesBody on) hall) ∧
      parseModules (modulesBody on) = some on ∧ hall.configured 144 = false ∧ parseModules (modulesBody off) = some off ∧
      hall.configured 1 = true ∧ (∀ n ∈ moduleLockers 1, (hall.locker n).moving = false) ∧
      (∀ n ∈ moduleLockers 1, (hall.locker n).holder = none) ∧
      (∀ c ∈ moduleCabins 1, (hall.cabin c).occupant = none) ∧
      (∃ n ∈ moduleLockers 1, ((hall.setLocker 8 (lock .latching none)).locker n).moving = true) ∧
      (∃ n ∈ moduleLockers 1, ((hall.setLocker 8 (lock .locked (some 9))).locker n).holder ≠ none) := by decide +kernel

/-- Addresses outside the range, a configuration that stays, and two commands of the module in the queue. -/
theorem witness_SetModulesFitsThePositions_edges :
    let q (a : Nat) : ModulesRequest := { addr := a, configured := true, holdOnForce := true, kinds := [] }
    let cabins : ModulesRequest :=
      { addr := 129, configured := true, holdOnForce := true, kinds := [.staff, .single, .single, .family] }
    parseModules (modulesBody (q 0)) = some (q 0) ∧
      (parseModules (modulesBody { cabins with addr := 145 })).map (·.addr) = some 145 ∧
      parseModules (modulesBody cabins) = some cabins ∧ hall.configured 129 = true ∧
      parseModules (modulesBody (q 1)) = some (q 1) ∧
      busy.field.queue.filter (fun c => c.addr == 1) ≠ [] ∧ busy.configured 1 = true := by decide +kernel

theorem witness_ServiceHoldRefusesPresentations :
    let s := hall.setModule 1 { hall.module 1 with held := true }
    (ask .cp2 .holdModule [129#8] hall).taking .cp2 .holdModule (rq .cp2 .holdModule [129#8] hall) ∧
      (ask .cp2 .releaseModule [1#8] s).taking .cp2 .releaseModule (rq .cp2 .releaseModule [1#8] s) ∧
      parseNumber 1 [129#8] = some 129 ∧ hall.configured 129 = true ∧ hall.configured 144 = false ∧
      (s.handOver [.event 1 (.present 2 77)]).field.handover = .event 1 (.present 2 77) :: [] ∧
      (s.handOver [.event 1 (.present 2 77)]).field.waitingHeld = true := by decide +kernel

/-- Addresses outside the range, each item that may wait, and a forced door ahead of a presentation. -/
theorem witness_ServiceHoldRefusesPresentations_items :
    let items : List HandItem := [.event 1 (.doorOpen 7), .event 1 (.present 2 77)]
    let s := (hand items hall).setLocker 8 (lock .locked (some 9))
    parseNumber 1 [0#8] = some 0 ∧ parseNumber 1 [145#8] = some 145 ∧ hall.field.handover = [] ∧
      s.field.handover = .event 1 (.doorOpen 7) :: .event 1 (.present 2 77) :: [] ∧
      s.grantingItem (.event 1 (.doorOpen 7)) ∧ placeAt 1 7 = .locker 8 ∧ (s.locker 8).state = .locked ∧
      (s.moduleSetting 1).holdOnForce = true := by decide +kernel

/-- No slot of the hall holds a visitor. -/
theorem hall_holds_no_visitor (k : Nat) : hall.holdsVisitor k = false := by
  unfold State.holdsVisitor
  rw [hall_band]
  rfl

theorem witness_TheDayClockCountsAndIsSet :
    (clockAt 86399 hall).supply.clock < 86400 ∧ hall.supply.retention = true ∧
      ({ hall with supply.retention := false } : State).supply.retention = false ∧
      (ask .cp2 .trimClock (trimBody (-128)) hall).taking .cp2 .trimClock (rq .cp2 .trimClock (trimBody (-128)) hall) ∧
      parseTrim (trimBody (-128)) = some (-128) ∧
      (ask .cp2 .setClock (bytesOf 3 86399) hall).granting .cp2 .setClock (rq .cp2 .setClock (bytesOf 3 86399) hall) ∧
      parseNumber 3 (bytesOf 3 86399) = some 86399 ∧ (put 9 (visitor 77 0 .revoked) hall).holdsVisitor 9 = true ∧
      ∀ k, (ask .cp2 .setClock (bytesOf 3 86399) hall).holdsVisitor k = false :=
  ⟨by decide +kernel, by decide +kernel, by decide +kernel, by decide +kernel, by decide +kernel, by decide +kernel,
    by decide +kernel, by decide +kernel, hall_holds_no_visitor⟩

/-- The lowest time above the range. -/
theorem witness_TheDayClockCountsAndIsSet_range :
    (ask .cp2 .setClock (bytesOf 3 86400) hall).granting .cp2 .setClock (rq .cp2 .setClock (bytesOf 3 86400) hall) ∧
      parseNumber 3 (bytesOf 3 86400) = some 86400 := by decide +kernel

theorem witness_SaveWritesTheSnapshot :
    let s := ask .cp2 .saveSettings [] hall
    let t := after (.saveSettings .cp2) s
    s.taking .cp2 .saveSettings (rq .cp2 .saveSettings [] hall) ∧ s.supply.save = none ∧
      t.supply.save = some { snapshot := hall.settings, replyTo := some .cp2 } ∧
      (t.port .cp2).outstanding = some { rq .cp2 .saveSettings [] hall with taken := true } := by decide +kernel

/-! ### Witnesses: the hand-over list -/

theorem witness_LookupRefusesBeforeThePlaceRules :
    let item := HandItem.event 1 (.present 7 77)
    let s := hand [item] hall
    let stopping := (put 9 (visitor 77 0 .active) s).setWatch 3 stopWatch
    s.grantingItem item ∧ s.findSerial 77 = .error .unknownBand ∧
      (put 9 (visitor 77 0 .revoked) s).grantingItem item ∧
      (put 9 (visitor 77 0 .revoked) s).findSerial 77 = .ok (9, visitor 77 0 .revoked) ∧ stopping.grantingItem item ∧
      stopping.findSerial 77 = .ok (9, visitor 77 0 .active) ∧ stopping.stopped 77 = true := by decide +kernel

/-- A presentation of serial 77 at position 7 of module 1, locker 8. -/
def presentingAt (b : Band) (l : Locker) (s : State) : State :=
  (put 9 b (hand [.event 1 (.present 7 77)] s)).setLocker 8 l

/-- One state for each of the eight checks, and one that passes them. -/
theorem witness_FreeLockerPresentationIsCheckedInOrder :
    let b := visitor 77 0 .active
    let free := Locker.blank .free 0
    let s := presentingAt b free hall
    s.grantingItem (.event 1 (.present 7 77)) ∧ placeAt 1 7 = .locker 8 ∧ s.findSerial 77 = .ok (9, b) ∧
      b.state ≠ .revoked ∧ s.stopped 77 = false ∧ (s.locker 8).state = .free ∧ (s.locker 8).door ≠ .opened ∧
      ((presentingAt b { free with door := .opened } hall).locker 8).door = .opened ∧
      ({ s with supply.supply := .hold } : State).supply.supply = .hold ∧ s.supply.supply ≠ .hold ∧
      (visitor 77 0 (.owing 1)).state ≠ .active ∧
      (put 12 (visitor 5 0 .revoked) s).leaderRevoked { b with role := .member 12 } = true ∧ s.leaderRevoked b = false ∧
      1 ≤ (put 9 { b with lockers := [4] } s).heldBy 9 ∧ s.heldBy 9 < 1 ∧
      (s.zoneOf 8 = some 0 ∧ b.rank ≤ (s.zone 0).rank ∧ (s.zone 0).groupOnly = false) ∧
      ({ s with settings.zones := Vector.replicate 16 Zone.factoryOther } : State).zoneOf 8 = none ∧
      s.field.queue.length < 32 ∧ 32 ≤ ({ s with field.queue := busy.field.queue } : State).field.queue.length := by
  decide +kernel

/-- Each state of Table 3-4 with a band of each class. -/
theorem witness_LockerPresentationByStateAndClass :
    let b := visitor 77 0 .active
    let m := staff 77 0
    let states : List LockerState := [.reserved, .latching, .locked, .unlatching, .released, .opened, .closing, .fault, .forced]
    (∀ st ∈ states,
      let s := presentingAt b (lock st (some 9)) hall
      s.grantingItem (.event 1 (.present 7 77)) ∧ s.findSerial 77 = .ok (9, b) ∧ s.stopped 77 = false ∧
        (s.locker 8).state = st ∧ (s.locker 8).holder = some 9 ∧ s.field.queue.length < 32) ∧
      (∀ st ∈ LockerState.orphaned :: .outOfService :: .unfitted :: states,
        let s := presentingAt m (lock st none) hall
        s.grantingItem (.event 1 (.present 7 77)) ∧ s.findSerial 77 = .ok (9, m) ∧ s.stopped 77 = false ∧
          (s.locker 8).state = st ∧ (s.locker 8).holder = none) ∧
      m.kind = .staff ∧ m.rank = 0 ∧ b.kind ≠ .staff ∧ placeAt 1 7 = .locker 8 := by decide +kernel

/-- A presentation of serial 77 at position 3 of module 129, cabin 4. -/
def presentingIn (b : Band) (r : Cabin) : State :=
  (put 9 b (hand [.event 129 (.present 3 77)] hall)).setCabin 4 r

theorem witness_CabinPresentationIsDecided :
    let b := visitor 77 0 .active
    let s := presentingIn b (booth .vacant none none)
    s.grantingItem (.event 129 (.present 3 77)) ∧ placeAt 129 3 = .cabin 4 ∧ s.findSerial 77 = .ok (9, b) ∧
      b.state ≠ .revoked ∧ s.stopped 77 = false ∧ (s.cabin 4).state = .vacant ∧ (s.cabin 4).command = none ∧
      (s.cabin 4).door ≠ .opened ∧
      ((presentingIn b { booth .vacant none none with door := .opened }).cabin 4).door = .opened ∧ b.cabin = none ∧
      (presentingIn (visitor 77 0 (.cleared 5)) (booth .vacant none none)).findSerial 77 =
        .ok (9, visitor 77 0 (.cleared 5)) ∧
      (presentingIn { b with cabin := some 1 } (booth .vacant none none)).findSerial 77 = .ok (9, { b with cabin := some 1 }) ∧
      s.cabinKind 4 = .single ∧
      ({ s with settings.cabinKinds := Vector.replicate 64 .staff } : State).cabinKind 4 = .staff ∧ ¬b.rank ≤ 1 ∧
      ((presentingIn b (booth .occupied (some 9) none)).cabin 4).occupant = some 9 ∧
      ((presentingIn b (booth .occupied (some 8) none)).cabin 4).occupant ≠ some 9 ∧
      ((presentingIn b (booth .vacant none (some .latch))).cabin 4).command ≠ none ∧
      ((presentingIn b (booth .unfitted none none)).cabin 4).state = .unfitted := by decide +kernel

/-- A door or handle event at module 1 position 7 or module 129 position 3, in one state of locker 8 and cabin 4. -/
theorem witness_DoorAndHandleEvents :
    placeAt 1 7 = .locker 8 ∧ placeAt 129 3 = .cabin 4 ∧
      (∀ e ∈ [Event.doorOpen 7, .doorClosed 7], (hand [.event 1 e] hall).grantingItem (.event 1 e)) ∧
      (∀ e ∈ [Event.doorOpen 3, .doorClosed 3, .handle 3], (hand [.event 129 e] hall).grantingItem (.event 129 e)) ∧
      (∀ st ∈ [LockerState.released, .closing, .locked, .orphaned, .opened, .free],
        ((hall.setLocker 8 (lock st none)).locker 8).state = st) ∧
      (∀ st ∈ [CabinState.occupied, .latching, .unlatching, .vacant],
        ((hall.setCabin 4 (booth st (some 9) none)).cabin 4).state = st) := by decide +kernel

/-- A command for locker 8. -/
def lockerCommand (a : Action) : Command := { addr := 1, pos := 7, action := a, target := .locker 8 }

/-- A command for cabin 4. -/
def cabinCommand (a : Action) : Command := { addr := 129, pos := 3, action := a, target := .cabin 4 }

theorem witness_CommandOutcomesAtALocker :
    (∀ r ∈ [CommandResult.done, .doorOpen, .jammed, .failed],
      (hand [.outcome (lockerCommand .latch) r] hall).grantingItem (.outcome (lockerCommand .latch) r)) ∧
      (∀ r ∈ [CommandResult.done, .jammed, .failed],
        (hand [.outcome (lockerCommand .unlatch) r] hall).grantingItem (.outcome (lockerCommand .unlatch) r)) ∧
      (∀ o ∈ [LockerState.reserved, .forced, .closing],
        let l := { lock .latching (some 9) with origin := some o }
        ((hall.setLocker 8 l).locker 8).origin = some o ∧ ((hall.setLocker 8 l).locker 8).fresh = false) ∧
      ((hall.setLocker 8 { lock .latching (some 9) with fresh := true }).locker 8).fresh = true ∧
      ((hall.setLocker 8 { lock .unlatching none with release := true }).locker 8).release = true ∧
      ((hall.setLocker 8 (lock .unlatching (some 9))).locker 8).state = .unlatching := by decide +kernel

theorem witness_CommandOutcomesAtACabin :
    (∀ r ∈ [CommandResult.done, .doorOpen, .jammed, .failed],
      (hand [.outcome (cabinCommand .latch) r] hall).grantingItem (.outcome (cabinCommand .latch) r)) ∧
      (∀ r ∈ [CommandResult.done, .jammed, .failed],
        (hand [.outcome (cabinCommand .unlatch) r] hall).grantingItem (.outcome (cabinCommand .unlatch) r)) ∧
      (∀ st ∈ [CabinState.latching, .vacant, .unlatching],
        ((hall.setCabin 4 (booth st (some 9) none)).cabin 4).state = st) := by decide +kernel

/-- Late outcomes at a VACANT and at an UNFITTED cabin, and a full queue for the correction. -/
theorem witness_CommandOutcomesAtACabin_late :
    (∀ st ∈ [CabinState.vacant, .unfitted],
      ((hall.setCabin 4 (booth st none (some .unlatch))).cabin 4).state = st) ∧
      32 ≤ ({ hall with field.queue := busy.field.queue } : State).field.queue.length := by decide +kernel

theorem witness_ReportBringsAModuleIntoAgreement :
    let lockers : HandItem := .report 1 (List.replicate 8 { engaged := true, doorOpen := false }) true
    let cabins : HandItem := .report 144 (List.replicate 4 { engaged := false, doorOpen := true }) false
    (hand [lockers] hall).grantingItem lockers ∧ (hand [cabins] hall).grantingItem cabins ∧ positionCount 1 = 8 ∧
      positionCount 144 = 4 ∧ placeAt 1 7 = .locker 8 ∧ placeAt 144 3 = .cabin 64 := by decide +kernel

/-- A command on its way in the queue, one whose outcome waits in the list, and none. -/
theorem witness_ReportBringsAModuleIntoAgreement_marks :
    ({ hall with field.queue := [lockerCommand .latch] } : State).commandWaits 1 7 = true ∧
      (hand [.outcome (lockerCommand .latch) .failed] hall).commandWaits 1 7 = true ∧ hall.commandWaits 1 7 = false := by
  decide +kernel

/-- Every state of a locker stands somewhere; both queues of R134. -/
theorem witness_LockersAgreeWithTheirReading :
    (∀ st ∈ [LockerState.unfitted, .free, .reserved, .latching, .locked, .unlatching, .released, .opened, .closing, .fault,
        .forced, .orphaned, .outOfService],
      ((hall.setLocker 1024 (lock st none)).locker 1024).state = st) ∧
      ((hall.setLocker 1 { lock .unlatching none with release := true, origin := some .outOfService }).locker 1).release =
        true ∧
      ((hall.setLocker 1 { lock .latching none with origin := some .reserved }).locker 1).master = false ∧
      hall.field.queue.length < 32 ∧ 32 ≤ busy.field.queue.length := by decide +kernel

theorem witness_CabinAgreesByTheTable :
    (∀ st ∈ [CabinState.unfitted, .vacant, .latching, .occupied, .unlatching, .outOfService],
      ((hall.setCabin 64 (booth st none none)).cabin 64).state = st ∧
        ((hall.setCabin 64 (booth st none none)).cabin 64).command = none ∧
        ((hall.setCabin 64 (booth st (some 9) (some .latch))).cabin 64).command ≠ none) := by decide +kernel

/-! ### Witnesses: the sweep and the loop -/

/-- The hall with the sweep at an index. -/
def sweepAt (index : Nat) (s : State) : State := { s with sweep := { index := index, remaining := 3136 - index, waiting := false } }

/-- Ages one second before a window runs out and as it does, at lockers 8 and 1,024. -/
theorem witness_SweepStepsAndExpiresLockerWindows :
    (sweepAt 8 hall).mayGrant .sweep = true ∧ (sweepAt 3135 hall).sweep.remaining = 1 ∧
      1 < (sweepAt 3134 hall).sweep.remaining ∧
      (let s := sweepAt 1024 (hall.setLocker 1024 { lock .released (some 9) with since := 4992 })
       (s.locker 1024).state = .released ∧ s.settings.windows.opening ≤ (s.now + 86400 - 4992) % 86400) ∧
      (let s := sweepAt 8 (hall.setLocker 8 { lock .closing (some 9) with since := 4955, master := true })
       (s.locker 8).master = true ∧ s.settings.windows.relock ≤ (s.now + 86400 - 4955) % 86400) ∧
      (let s := sweepAt 8 (hall.setLocker 8 { lock .closing (some 9) with since := 4956 })
       (s.locker 8).master = false ∧ (s.now + 86400 - 4956) % 86400 < s.settings.windows.relock) ∧
      (let s := sweepAt 8 (hall.setLocker 8 { lock .reserved (some 9) with since := 4100 })
       (s.locker 8).state = .reserved ∧ s.settings.windows.reservation ≤ (s.now + 86400 - 4100) % 86400) := by
  decide +kernel

/-- The sweep granted last while a port waits. -/
theorem witness_sweep_step_that_waits :
    let s := ask .cp2 .setClock [] (hall.granted .sweep)
    s.running = true ∧ s.mayGrant .sweep = false ∧ (suppliedAs .down false).running = false := by decide +kernel

/-- A cabin at its limit, one second short of it, and at twice it; a CLEARED visitor at the leave window and past 12 h. -/
theorem witness_SweepReportsOverholdLeaveAndLongStay :
    (let s := sweepAt 1088 (hall.setCabin 64 { booth .occupied (some 9) none with since := 3800 })
     s.mayGrant .sweep = true ∧ s.sweep.index = 1024 + 64 ∧ (s.cabin 64).state = .occupied ∧ (s.cabin 64).stage = 0 ∧
       s.cabinKind 64 = .single ∧ s.settings.windows.limitSingle = (s.now + 86400 - 3800) % 86400) ∧
      (let s := sweepAt 1088 (hall.setCabin 64 { booth .occupied (some 9) none with since := 2600, stage := 1 })
       (s.cabin 64).stage = 1 ∧ 2 * s.settings.windows.limitSingle = (s.now + 86400 - 2600) % 86400) ∧
      (let s := sweepAt 3135 (put 2047 (visitor 77 48200 (.cleared 4400)) hall)
       s.mayGrant .sweep = true ∧ s.sweep.index = 1088 + 2047 ∧ s.band 2047 = some (visitor 77 48200 (.cleared 4400)) ∧
         s.settings.windows.leave ≤ (s.now + 86400 - 4400) % 86400 ∧ (s.now + 86400 - 48200) % 86400 = 43200) ∧
      (visitor 77 48200 .active).kind = .visitor (account 120 0) ∧ (account 120 0).longStay = false := by decide +kernel

/-- The hall with a command queued. -/
def withCommand (a : Action) : State := { hall with field.queue := [lockerCommand a] }

theorem witness_TurnsAlternateAlongTheWalk :
    hall.mayBegin = true ∧ ({ hall with field.broadcast := some .hold } : State).mayBegin = true ∧
      hall.field.broadcast = none ∧ hall.field.lastTurn = .command ∧ hall.nextDue = some (1, 0) ∧
      ({ withCommand .latch with field.lastTurn := .poll } : State).field.queue = lockerCommand .latch :: [] ∧
      ({ hall with field.pollPosition := 130 } : State).nextDue = some (1, 1) ∧
      (let s := hall.setModule 1 { hall.module 1 with silent := true }
       { s with field.pollPosition := 130, field.cycle := 15 }.nextDue = some (1, 0)) ∧
      ({ hall with settings := Settings.factory } : State).nextDue = none := by decide +kernel

/-- Nothing configured; every module SILENT, before a cycle with count 0 and before one without. -/
theorem witness_TurnsAlternateAlongTheWalk_cycles :
    let quiet (a : Nat) (s : State) : State := s.setModule a { s.module a with silent := true }
    let s := { quiet 129 (quiet 1 hall) with field.pollPosition := 130 }
    (∀ x : Fin 144, ({ hall with settings := Settings.factory } : State).configured (x.val + 1) = false) ∧
      { s with field.cycle := 15 }.nextDue = some (1, 0) ∧ { s with field.cycle := 3 }.nextDue = some (1, 0) ∧
      ({ s with field.pollPosition := 2, field.cycle := 0 } : State).nextDue = some (129, 0) := by decide +kernel

/-- Each thing that keeps an exchange from beginning; a part that may begin one and has none to begin. -/
theorem witness_TurnsAlternateAlongTheWalk_begin :
    (suppliedAs .down false).mayBegin = false ∧ ({ hall with field.exchange := some default } : State).mayBegin = false ∧
      (hand [.event 1 (.doorOpen 3)] hall).mayBegin = false ∧ ({ hall with field.startDelay := true } : State).mayBegin = false ∧
      ({ hall with settings := Settings.factory } : State).turn = none := by decide +kernel

theorem witness_ExchangesBeginWithTheirFrame :
    hall.turn = some (.poll 1 0) ∧ (hall.module 1).resync = false ∧
      ((hall.setModule 1 (Module.blank true)).module 1).resync = true ∧
      ({ hall with field.pollPosition := 129 } : State).turn = some (.poll 129 0) ∧
      ({ withCommand .latch with field.lastTurn := .poll } : State).turn = some (.command (lockerCommand .latch)) ∧
      ({ withCommand .unlatch with field.lastTurn := .poll } : State).turn = some (.command (lockerCommand .unlatch)) ∧
      ({ hall with field.broadcast := some .hold } : State).turn = some (.broadcast .hold) ∧
      ({ hall with field.broadcast := some .clear } : State).turn = some (.broadcast .clear) ∧ hall.running = true := by
  decide +kernel

/-- The first lock module and the last cabin module, with an indication pending at the last position. -/
theorem witness_ExchangesBeginWithTheirFrame_edges :
    (hall.pollFrame 1).length = 13 ∧ (hall.pollFrame 144).length = 9 ∧
      (tableGet ((hall.indicate 1 7 .amber).module 1).positions Position.blank 7).shown = some .amber := by decide +kernel

/-- The exchange of a kind with module 1. -/
def exchangeOf (k : ExchangeKind) : Exchange := { kind := k, addr := 1, attempt := 3, frame := [], renewed := [] }

/-- Events at the last positions, with the greatest serial; too many events, and too few bytes. -/
theorem witness_reply_data_clauses :
    Event.fits 128 (.present 7 4294967295) ∧ Event.fits 144 (.handle 3) ∧ Event.fits 1 (.doorOpen 7) ∧
      (exchangeOf .poll).kind = .poll ∧ 4 < (5#8).toNat ∧ [0#8].length ≠ 6 * (1#8).toNat ∧
      (exchangeOf .readState).kind = .readState ∧
      (exchangeOf (.command (lockerCommand .unlatch))).kind = .command (lockerCommand .unlatch) := by
  refine ⟨⟨by decide, by decide⟩, ⟨by decide, by decide⟩, ?_, rfl, by decide, by decide, rfl, rfl⟩
  unfold Event.fits
  decide

theorem witness_ValidReplyEndsTheExchangeWhole :
    let s := { hall with field.exchange := some (exchangeOf .poll) }
    s.running = true ∧ s.field.exchange = some (exchangeOf .poll) ∧ (s.module 1).silent = false ∧ s.field.handover = [] ∧
      (s.indicate 1 7 .red).field.exchange = some { exchangeOf .poll with renewed := [7] } ∧
      checkReply (exchangeOf .poll) (loopFrame 1 0x81 ([1#8, 1#8, 1#8, 7#8] ++ bytesOf 4 77)) =
        some (.poll true [.present 7 77]) ∧
      checkReply (exchangeOf (.command (lockerCommand .latch))) (loopFrame 1 0x82 [1#8]) =
        some (.outcome (lockerCommand .latch) .doorOpen) ∧
      checkReply (exchangeOf .readState) (loopFrame 1 0x84 (List.replicate 8 1#8)) =
        some (.readings (List.replicate 8 { engaged := true, doorOpen := false })) ∧
      ((s.setModule 1 { s.module 1 with silent := true }).module 1).silent = true := by decide +kernel

/-- The same with an item still on the list: the events join it. -/
theorem witness_ValidReplyEndsTheExchangeWhole_behind :
    let s := { hand [.event 1 (.doorOpen 3)] hall with field.exchange := some (exchangeOf .poll) }
    let t := after (.moduleReply (loopFrame 1 0x81 ([0#8, 1#8, 1#8, 7#8] ++ bytesOf 4 77))) s
    s.field.handover ≠ [] ∧ t.field.handover = [.event 1 (.doorOpen 3), .event 1 (.present 7 77)] := by decide +kernel

/-- An indication that stays over a failed exchange and goes with the third. -/
theorem witness_FailedAttemptsSilenceTheModule_indications :
    let s := hall.indicate 1 7 .red
    let fails (n : Nat) : State :=
      { s.setModule 1 { s.module 1 with failures := n } with field.exchange := some (exchangeOf .poll) }
    let shown (t : State) := (tableGet (t.module 1).positions Position.blank 7).shown
    shown (fails 1) = some .red ∧ shown (after .attemptTimeout (fails 1)) = some .red ∧
      shown (after .attemptTimeout (fails 2)) = none := by decide +kernel

theorem witness_FailedAttemptsSilenceTheModule :
    let x := exchangeOf (.command (lockerCommand .latch))
    let s := { hall with field.exchange := some x }
    s.running = true ∧ s.field.exchange = some x ∧ checkReply x [] = none ∧
      checkReply x (loopFrame 2 0x82 [0#8]) = none ∧ ({ x with attempt := 2 } : Exchange).attempt < 3 ∧
      (s.module 1).failures + 1 < 3 ∧ 3 ≤ ((s.setModule 1 { s.module 1 with failures := 2 }).module 1).failures + 1 ∧
      (s.module 1).silent = false ∧ ((s.setModule 1 { s.module 1 with silent := true }).module 1).silent = true := by
  decide +kernel

/-! ### Witnesses: supply and starts -/

theorem witness_SupplyMovesThroughItsStates :
    hall.supply.supply = .normal ∧ (suppliedAs .hold true).supply.supply ≠ .normal ∧
      (suppliedAs .hold true).supply.supply = .hold ∧ (suppliedAs .hold true).supply.restoring = true ∧
      (suppliedAs .hold false).supply.supply ≠ .down := by decide +kernel

theorem witness_LostRetentionEndsInTheResetState :
    let s := suppliedAs .down true
    s.supply.supply = .down ∧ s.supply.restoring = true ∧
      ({ s with supply.retention := false } : State).supply.retention = false ∧ s.supply.store = none ∧
      ({ s with supply.store := some hall.settings } : State).supply.store = some hall.settings := by decide +kernel

theorem witness_WarmStartKeepsTheTables_indications :
    let s := (suppliedAs .down true).indicate 2 7 .red
    s.configured 2 = false ∧ (tableGet (s.module 2).positions Position.blank 7).shown = some .red ∧
      (tableGet ((after (.returnFromDown (straps false)) s).module 2).positions Position.blank 7).shown = none := by
  decide +kernel

theorem witness_WarmStartKeepsTheTables :
    let s := suppliedAs .down true
    let t := after .resetAsserted { hall with supply.save := some { snapshot := hall.settings, replyTo := some .cp2 } }
    s.supply.supply = .down ∧ s.supply.restoring = true ∧ s.supply.retention = true ∧ s.configured 129 = true ∧
      t.supply.resetHeld = true ∧ t.supply.supply ≠ .down ∧ (straps false).clearClosed = false ∧
      t.supply.save.isSome = true := by decide +kernel

/-- A request of each kind at its place, another of each port at one slot, and places that none has written. -/
theorem witness_WarmStartKeepsTheTables_undo :
    let u : Undo := { port := .cp0, before := .watch 3 stopWatch }
    let v : Undo := { port := .cp2, before := .enabled 3 true }
    let w : Undo := { port := .cp1, before := .clock (-128) }
    let s : State := { suppliedAs .down true with undo := [u, v, w] }
    let one (b : Before) : State := { suppliedAs .down true with undo := [{ port := .cp2, before := b }] }
    let back (b : Before) : State := (one b).undoTaken
    hall.undo = [] ∧ s.undo = [u] ++ v :: [w] ∧ v.before.samePlace w.before = false ∧
      u.before.samePlace v.before = true ∧ s.supply.clock < 86400 ∧ s.undoTaken.supply.clock = s.supply.clock + 60 ∧
      (s.undoTaken.watch 3).enabled = true ∧ s.undoTaken.watch 0 = s.watch 0 ∧
      (∀ b : Before, (one b).undo = [] ++ { port := .cp2, before := b } :: []) ∧
      (back (.watch 3 stopWatch)).watch 3 = stopWatch ∧
      (back (.port .cp1 { rank := 1, permitted := 0 })).settings.cp1.rank = 1 ∧
      (back (.threshold .cp2 8)).settings.thresholds.get .cp2 = 8 ∧
      (back (.priority .settingsLost 7)).settings.priorities[14]? = some 7 ∧
      (back (.alarms none [listed 1] true)).notices.alarms = [listed 1] ∧
      ((back (.held 144 true)).module 144).held = true :=
  ⟨by decide +kernel, rfl, by decide +kernel, by decide +kernel, by decide +kernel, by decide +kernel, by decide +kernel,
    by decide +kernel, fun _ => rfl, by decide +kernel, by decide +kernel, by decide +kernel, by decide +kernel,
    by decide +kernel, by decide +kernel⟩

theorem witness_ResetPulseStopsAndColdStarts :
    hall.running = true ∧ (suppliedAs .down false).supply.supply = .down ∧
      (after .resetAsserted hall).supply.resetHeld = true ∧ (after .resetAsserted hall).supply.supply ≠ .down ∧
      (straps true).clearClosed = true := by decide +kernel

end Sys2Proof.Tests
end

section
/-! PROOFS. The field engine's waiting item granted: what `exec` answers for each row of an item, in terms of the block that
handles it (R6, R27, R119). -/

namespace Sys2Proof.Machine

/-! ### The rows of the waiting item -/

theorem exec_present_eq (s : State) : exec .present s = execPresent s := rfl
theorem exec_latchDone_eq (s : State) : exec .latchDone s = execLatchDone s := rfl
theorem exec_latchDoorOpen_eq (s : State) : exec .latchDoorOpen s = execLatchDoorOpen s := rfl
theorem exec_latchJammed_eq (s : State) : exec .latchJammed s = execLatchJammed s := rfl
theorem exec_latchFailed_eq (s : State) : exec .latchFailed s = execLatchFailed s := rfl
theorem exec_unlatchDone_eq (s : State) : exec .unlatchDone s = execUnlatchDone s := rfl
theorem exec_unlatchJammed_eq (s : State) : exec .unlatchJammed s = execUnlatchJammed s := rfl
theorem exec_unlatchFailed_eq (s : State) : exec .unlatchFailed s = execUnlatchFailed s := rfl

namespace State

/-- An outcome granted in the row of its action and result: handled at its target, then off the list. -/
theorem grantOutcome_granting {s : State} {cmd : Command} {r : CommandResult} {a : Action} {place : Place}
    (f : Place → State → State) (ha : cmd.action = a) (ht : cmd.target = place) (hg : s.grantingItem (.outcome cmd r)) :
    s.grantOutcome a r f = (f place (s.granted .field)).popHead :=
  grantItem_granting hg (by simp [ha, ht])

/-- A presentation by a band that the lookup lets through (R6, R153): the place's rules decide from the state with last_place
written, and the reader shows what they answer. -/
theorem exec_present_found {addr pos serial slot : Nat} {b : Band} {place : Place} {s t : State} {ind : Indication}
    (hg : s.grantingItem (.event addr (.present pos serial))) (hp : placeAt addr pos = place)
    (hf : s.findSerial serial = .ok (slot, b)) (hr : b.state ≠ .revoked) (hs : s.stopped serial = false)
    (hd : ((s.granted .field).seenAt slot b place).presentAt place slot b = (t, ind)) :
    exec .present s = .next (t.shown addr pos serial ind) := by
  obtain ⟨-, -, hband⟩ := findSerial_ok hf
  have hseen := updBand_seenAt (s := s.granted .field) place (b := b) (slot := slot) (by simpa using hband)
  have hdecided : (s.granted .field).decidePresentation place serial = (t, ind) := by
    simp only [decidePresentation, findSerial_granted, granted_stopped, hf, hr, hs, hseen, hd]
    rfl
  rw [exec_present_eq, execPresent, grantItem_granting hg rfl]
  simp only [presentation, shown, hp, hdecided]

end State

end Sys2Proof.Machine
end

section
/-! PROOFS. Presentations at lockers (R42 to R47, Tables 3-4 and 3-5). -/

namespace Sys2Proof.Machine

/-! ### Readings of a band -/

theorem Role.capacity_eq (r : Role) : r.capacity = if r = .none then 1 else 2 := by
  cases r <;> simp [Role.capacity]

theorem Band.holderSlot_eq (b : Band) (slot : Nat) :
    b.holderSlot slot = match b.role with
      | .member l => l
      | _ => slot := by
  cases h : b.role <;> simp [Band.holderSlot, Band.leaderSlot, h]

theorem Band.leaderSlot_eq_some_iff (b : Band) (h : Nat) : b.leaderSlot = some h ↔ b.role = .member h := by
  cases hr : b.role <;> simp [Band.leaderSlot, hr]

theorem Band.inGroup_iff (b : Band) : b.inGroup = true ↔ b.role ≠ .none := by
  simp [Band.inGroup]

theorem Band.isMaster_iff (b : Band) : b.isMaster = true ↔ b.kind = .staff ∧ b.rank = 0 := by
  cases hk : b.kind <;> simp [Band.isMaster, Band.isVisitor, hk]

namespace State

/-- A locker that is not UNFITTED is one of the table's. -/
theorem locker_range {s : State} {n : Nat} (h : (s.locker n).state ≠ .unfitted) : 1 ≤ n ∧ n ≤ 1024 := by
  by_contra hn
  exact h (by rw [locker_of_gt s (by omega)]; rfl)

/-! ### What last_place leaves alone -/

/-- What reads only a part of the records that last_place is no part of reads the same once it is set. -/
theorem seenAt_band_map {α : Type} {s : State} {slot : Nat} {b : Band} (p : Place) (h : s.band slot = some b) (f : Band → α)
    (hf : f { b with lastPlace := some { place := p, time := s.now } } = f b) (k : Nat) :
    ((s.seenAt slot b p).band k).map f = (s.band k).map f := by
  rw [seenAt_band p h]
  split
  · subst_vars; simp [h, hf]
  · rfl

theorem seenAt_heldBy {s : State} {slot : Nat} {b : Band} (p : Place) (h : s.band slot = some b) (k : Nat) :
    (s.seenAt slot b p).heldBy k = s.heldBy k := by
  simp only [heldBy, seenAt_band_map p h (·.lockers.length) rfl]

theorem isRevoked_eq (s : State) (k : Nat) : s.isRevoked k = ((s.band k).map fun b => b.state == .revoked).any id := by
  cases h : s.band k <;> simp [isRevoked, h]

theorem seenAt_isRevoked {s : State} {slot : Nat} {b : Band} (p : Place) (h : s.band slot = some b) (k : Nat) :
    (s.seenAt slot b p).isRevoked k = s.isRevoked k := by
  simp only [isRevoked_eq, seenAt_band_map p h (fun b => b.state == .revoked) rfl]

theorem leaderRevoked_eq (s : State) (b : Band) : s.leaderRevoked b = b.leaderSlot.any s.isRevoked := by
  cases h : b.leaderSlot <;> simp [leaderRevoked, isRevoked, h]

theorem seenAt_leaderRevoked {s : State} {slot : Nat} {b : Band} (p : Place) (h : s.band slot = some b) (c : Band) :
    (s.seenAt slot b p).leaderRevoked c = s.leaderRevoked c := by
  simp only [leaderRevoked_eq, funext (seenAt_isRevoked p h)]

/-! ### The class of a band (R42) -/

/-- The band belongs to the group of the locker's holder: it is the holder, or a member whose leader holds the locker and is not
REVOKED. -/
def inHolderGroup (s : State) (l : Locker) (slot : Nat) (b : Band) : Prop :=
  ∃ h, l.holder = some h ∧ (slot = h ∨ (b.role = .member h ∧ ∀ hb, s.band h = some hb → hb.state ≠ .revoked))

theorem isRevoked_eq_false_iff (s : State) (k : Nat) :
    s.isRevoked k = false ↔ ∀ b, s.band k = some b → b.state ≠ .revoked := by
  cases h : s.band k <;> simp [isRevoked, h]

theorem bandClass_group {s : State} {l : Locker} {slot : Nat} {b : Band} (h : s.inHolderGroup l slot b) :
    s.bandClass l slot b = .group := by
  obtain ⟨k, hk, hin⟩ := h
  rw [← isRevoked_eq_false_iff, ← Band.leaderSlot_eq_some_iff] at hin
  simp [bandClass, hk, hin]

theorem bandClass_not_group {s : State} {l : Locker} {slot : Nat} {b : Band} (h : ¬s.inHolderGroup l slot b) :
    s.bandClass l slot b = if b.isMaster then .master else .other := by
  have hout : ∀ k, l.holder = some k → ¬(slot = k ∨ (b.leaderSlot = some k ∧ s.isRevoked k = false)) := by
    intro k hk hin
    rw [isRevoked_eq_false_iff, Band.leaderSlot_eq_some_iff] at hin
    exact h ⟨k, hk, hin⟩
  cases hk : l.holder with
  | none => simp [bandClass, hk]
  | some k =>
    have := hout k hk
    simp_all [bandClass]

theorem seenAt_bandClass {s : State} {slot : Nat} {b : Band} (p : Place) (h : s.band slot = some b) (l : Locker) (k : Nat)
    (c : Band) : (s.seenAt slot b p).bandClass l k c = s.bandClass l k c := by
  simp only [bandClass, seenAt_isRevoked p h]

/-! ### Room in the command queue (R42, R55) -/

theorem ifRoom_of_room {s : State} (f : State → State) (h : s.field.queue.length < 32) : s.ifRoom f = (f s, .green) := by
  simp [ifRoom, queueFull, Config.queueCapacity, Nat.not_le.2 h]

theorem ifRoom_of_full {s : State} (f : State → State) (h : 32 ≤ s.field.queue.length) : s.ifRoom f = (s, .amber) := by
  simp [ifRoom, queueFull, Config.queueCapacity, h]

@[simp] theorem seenAt_field (s : State) (slot : Nat) (b : Band) (p : Place) : (s.seenAt slot b p).field = s.field :=
  setBand_field s slot _

/-! ### A FREE locker (R43) -/

/-- Check 6 of R43: the locker lies in a present zone whose rank and group_only conditions the band meets. -/
theorem mayBind_iff (s : State) (n : Nat) (b : Band) :
    s.mayBind n b = true ↔
      ∃ z, s.zoneOf n = some z ∧ b.rank ≤ (s.zone z).rank ∧ ((s.zone z).groupOnly = false ∨ b.role ≠ .none) := by
  cases h : s.zoneOf n <;> simp [mayBind, h, Band.inGroup_iff]

theorem seenAt_mayBind (s : State) (slot : Nat) (b : Band) (p : Place) (n : Nat) (c : Band) :
    (s.seenAt slot b p).mayBind n c = s.mayBind n c := by
  simp only [mayBind, seenAt_zoneOf, seenAt_zone]

/-- Check 5 of R43. -/
theorem listFull_iff (s : State) (slot : Nat) (b : Band) :
    s.listFull slot b = true ↔ (if b.role = .none then 1 else 2) ≤ s.heldBy (b.holderSlot slot) := by
  simp [listFull, Role.capacity_eq]

theorem seenAt_listFull {s : State} {slot : Nat} {b : Band} (p : Place) (h : s.band slot = some b) (k : Nat) (c : Band) :
    (s.seenAt slot b p).listFull k c = s.listFull k c := by
  simp only [listFull, seenAt_heldBy p h]

@[simp] theorem granted_mayBind (s : State) (r : Requester) (n : Nat) (b : Band) :
    (s.granted r).mayBind n b = s.mayBind n b := rfl

@[simp] theorem granted_listFull (s : State) (r : Requester) (k : Nat) (b : Band) :
    (s.granted r).listFull k b = s.listFull k b := rfl

/-- The checks of R43 as they read the state before the grant, whose last_place and turn they do not depend on. -/
theorem presentFree_checks {s : State} {slot : Nat} {b : Band} (r : Requester) (p : Place) (h : s.band slot = some b)
    (n : Nat) :
    let seen := (s.granted r).seenAt slot b p
    seen.presentFree n slot b =
      if (s.locker n).door = .opened then (seen, .amber)
      else if s.supply.supply = .hold then (seen, .amber)
      else if b.state ≠ .active then (seen, .red)
      else if s.leaderRevoked b = true then (seen, .red)
      else if s.listFull slot b = true then (seen, if b.role = .none then .amber else .red)
      else if s.mayBind n b = false then (seen, .red)
      else seen.ifRoom fun t => t.bindFresh n (b.holderSlot slot) := by
  have hg : (s.granted r).band slot = some b := by rw [granted_band, h]
  simp [presentFree, seenAt_leaderRevoked p hg, seenAt_listFull p hg, seenAt_mayBind]

@[simp] theorem updBand_locker (s : State) (k : Nat) (f : Band → Band) (n : Nat) :
    (s.updBand k f).locker n = s.locker n := by
  unfold updBand
  split
  · exact setBand_locker s k _ n
  · rfl

@[simp] theorem useZone_locker (s : State) (n m : Nat) : (s.useZone n).locker m = s.locker m := by
  unfold useZone
  split <;> rfl

/-- Check 8 of R43: the binding, and the LATCH of the locker it made. -/
theorem bindFresh_eq {s : State} {n : Nat} (holder : Nat) (hn : 1 ≤ n ∧ n ≤ 1024) :
    s.bindFresh n holder =
      (((s.bindLocker n holder).useZone n).setLocker n
        { s.locker n with state := .latching, holder := some holder, origin := some (s.locker n).state, fresh := true,
                          master := false }).queueCommand ((n - 1) / 8 + 1) ((n - 1) % 8) .latch := by
  have hl : ((s.bindLocker n holder).useZone n).locker n = { s.locker n with holder := some holder } := by
    simp [bindLocker, setLocker_locker_self s _ hn]
  simp [bindFresh, latchLocker, hl, queueLocker, lockerAt, Locker.startLatch]

end State

/-- Settles O42: the checks of R43 read the state of the grant, in the order of `presentFree`. -/
theorem freeLockerPresentationIsCheckedInOrder : Obligations.FreeLockerPresentationIsCheckedInOrder := by
  unfold Obligations.FreeLockerPresentationIsCheckedInOrder
  intro addr pos serial n slot b s hg hp hf hr hs hfree seen answers holder room fits
  obtain ⟨-, -, hband⟩ := State.findSerial_ok hf
  have hlocker : seen.locker n = s.locker n := State.seenAt_locker _ _ _ _ _
  have hqueue : seen.field.queue = s.field.queue := by rw [State.seenAt_field, State.granted_field]
  have decided {t : State} {ind : Indication} (hd : seen.presentFree n slot b = (t, ind)) :
      exec .present s = .next (t.shown addr pos serial ind) := by
    refine State.exec_present_found hg hp hf hr hs (.trans ?_ hd)
    simp only [State.presentAt, State.presentLocker, State.seenAt_locker, State.granted_locker, hfree]
    rfl
  have hholder : b.holderSlot slot = holder := Band.holderSlot_eq b slot
  have hlist : s.listFull slot b = true ↔ room ≤ s.heldBy holder := hholder ▸ State.listFull_iff s slot b
  have hrights : s.mayBind n b = true ↔ fits := State.mayBind_iff s n b
  rw [State.presentFree_checks .field (.locker n) hband n] at decided
  refine ⟨fun hopen => decided (if_pos hopen), fun hshut => ?_⟩
  rw [if_neg hshut] at decided
  refine ⟨fun hhold => decided (if_pos hhold), fun hsupply => ?_⟩
  rw [if_neg hsupply] at decided
  refine ⟨fun hinactive => decided (if_pos hinactive), fun hactive => ?_⟩
  rw [if_neg (not_not_intro hactive)] at decided
  refine ⟨fun hrevoked => decided (if_pos hrevoked), fun hleader => ?_⟩
  rw [if_neg (Bool.eq_false_iff.1 hleader)] at decided
  refine ⟨fun hheld => decided (if_pos (hlist.2 hheld)), fun hspace => ?_⟩
  rw [if_neg (mt hlist.1 (Nat.not_le.2 hspace))] at decided
  refine ⟨fun hbarred => decided (if_pos (Bool.eq_false_iff.2 (mt hrights.1 hbarred))), fun hfits => ?_⟩
  rw [if_neg (ne_false_of_eq_true (hrights.2 hfits))] at decided
  refine ⟨fun hfull => decided (State.ifRoom_of_full _ (hqueue ▸ hfull)), fun hroom => ?_⟩
  have hn := State.locker_range (s := s) (n := n) (by simp [hfree])
  have hbound := decided (State.ifRoom_of_room _ (hqueue ▸ hroom))
  rw [State.bindFresh_eq _ hn, hlocker, hfree, hholder] at hbound
  exact hbound

end Sys2Proof.Machine
end

section
/-! PROOFS. Presentations at a locker that is not FREE: the rows of Tables 3-4 and 3-5 (R44 to R47). -/

namespace Sys2Proof.Machine

namespace State

/-! ### The class of a band and the setting of last_place -/

theorem bandClass_eq_group_iff (s : State) (l : Locker) (slot : Nat) (b : Band) :
    s.bandClass l slot b = .group ↔ s.inHolderGroup l slot b := by
  refine ⟨fun h => ?_, bandClass_group⟩
  by_contra hout
  rw [bandClass_not_group hout] at h
  split at h <;> cases h

theorem seenAt_inHolderGroup {s : State} {slot : Nat} {b : Band} (p : Place) (h : s.band slot = some b) (l : Locker) (k : Nat)
    (c : Band) : (s.seenAt slot b p).inHolderGroup l k c ↔ s.inHolderGroup l k c := by
  rw [← bandClass_eq_group_iff, ← bandClass_eq_group_iff, seenAt_bandClass p h]

/-! ### Commands queued for a locker -/

theorem latchLocker_eq {s : State} {n : Nat} {l : Locker} (fresh : Bool) (hl : s.locker n = l) :
    s.latchLocker n fresh =
      (s.setLocker n { l with state := .latching, origin := some l.state, fresh := fresh, master := false }).queueCommand
        ((n - 1) / 8 + 1) ((n - 1) % 8) .latch := by
  rw [← hl]; rfl

theorem unlatchLocker_eq {s : State} {n : Nat} {l : Locker} (master release : Bool) (hl : s.locker n = l) :
    s.unlatchLocker n master release =
      (s.setLocker n { l with state := .unlatching, origin := some l.state, master := master,
                              release := release }).queueCommand ((n - 1) / 8 + 1) ((n - 1) % 8) .unlatch := by
  rw [← hl]; rfl

/-! ### The rows of Table 3-4 -/

section Rows

variable {s : State} {n slot : Nat} {l : Locker} {b : Band}

/-- R47: while a command is out, AMBER to every class. -/
theorem presentLocker_moving (hl : s.locker n = l) (hst : l.state = .latching ∨ l.state = .unlatching) :
    s.presentLocker n slot b = (s, .amber) := by
  subst hl
  obtain hst | hst := hst <;> simp only [presentLocker, hst]

/-- R44, R46: the group latches its reservation, or relatches the locker it has opened. -/
theorem presentLocker_relatches (hl : s.locker n = l) (hst : l.state ∈ [.reserved, .released, .closing])
    (hdoor : l.state = .reserved → l.door ≠ .opened)
    (hg : s.inHolderGroup l slot b) :
    s.presentLocker n slot b = s.ifRoom fun t => t.latchLocker n false := by
  subst hl
  simp only [List.mem_cons, List.not_mem_nil, or_false] at hst
  obtain hst | hst | hst := hst
  · simp only [presentLocker, hst, bandClass_group hg, if_neg (hdoor hst)]
  · simp only [presentLocker, hst, bandClass_group hg]
  · simp only [presentLocker, hst, bandClass_group hg]

/-- R44: the guest still loads a reserved locker whose door is open. -/
theorem presentLocker_loading (hl : s.locker n = l) (hst : l.state = .reserved) (hdoor : l.door = .opened)
    (hg : s.inHolderGroup l slot b) : s.presentLocker n slot b = (s, .amber) := by
  subst hl
  simp only [presentLocker, hst, bandClass_group hg, if_pos hdoor]

/-- R44, R46: where the latch is free, a band outside the group has nothing to open. -/
theorem presentLocker_outsider (hl : s.locker n = l) (hst : l.state ∈ [.reserved, .released, .closing, .opened, .forced])
    (hg : ¬s.inHolderGroup l slot b) : s.presentLocker n slot b = (s, .red) := by
  subst hl
  simp only [List.mem_cons, List.not_mem_nil, or_false] at hst
  have hcls := bandClass_not_group hg
  cases hm : b.isMaster <;> obtain hst | hst | hst | hst | hst := hst <;>
    simp [presentLocker, hst, hcls, hm]

/-- R45: the group opens its locker. -/
theorem presentLocker_opens (hl : s.locker n = l) (hst : l.state = .locked) (hg : s.inHolderGroup l slot b) :
    s.presentLocker n slot b = s.ifRoom fun t => t.unlatchLocker n false false := by
  subst hl
  simp only [presentLocker, hst, bandClass_group hg]

/-- R46, Table 3-4: the group is asked to close the door, or to call the staff. -/
theorem presentLocker_group_waits (hl : s.locker n = l) (hst : l.state ∈ [.opened, .forced, .fault])
    (hg : s.inHolderGroup l slot b) : s.presentLocker n slot b = (s, .amber) := by
  subst hl
  simp only [List.mem_cons, List.not_mem_nil, or_false] at hst
  obtain hst | hst | hst := hst <;> simp only [presentLocker, hst, bandClass_group hg]

/-- R45: the master class opens a LOCKED locker, its holder kept. -/
theorem presentLocker_master_locked (hl : s.locker n = l) (hst : l.state = .locked) (hg : ¬s.inHolderGroup l slot b)
    (hm : b.isMaster = true) : s.presentLocker n slot b = s.ifRoom (masterOpen n false b) := by
  subst hl
  simp only [presentLocker, hst, bandClass_not_group hg, hm, if_true]

/-- Table 3-4: the master class opens a FAULT or ORPHANED locker, which it frees where nobody holds it. -/
theorem presentLocker_master_frees (hl : s.locker n = l)
    (hst : l.state = .fault ∨ (l.state = .orphaned ∧ l.holder = none))
    (hg : ¬s.inHolderGroup l slot b) (hm : b.isMaster = true) :
    s.presentLocker n slot b = s.ifRoom (masterOpen n l.holder.isNone b) := by
  subst hl
  obtain hst | ⟨hst, hholder⟩ := hst
  · simp only [presentLocker, hst, bandClass_not_group hg, hm, if_true]
  · simp only [presentLocker, hst, hm, if_true, hholder, Option.isNone_none]

/-- R45, Table 3-4: the other class opens nothing. -/
theorem presentLocker_other (hl : s.locker n = l) (hst : l.state ∈ [.locked, .fault, .orphaned])
    (hg : ¬s.inHolderGroup l slot b) (hm : b.isMaster = false) : s.presentLocker n slot b = (s, .red) := by
  subst hl
  simp only [List.mem_cons, List.not_mem_nil, or_false] at hst
  obtain hst | hst | hst := hst <;> simp [presentLocker, hst, bandClass_not_group hg, hm]

/-- Table 3-4: a locker out of use answers RED. -/
theorem presentLocker_unusable (hl : s.locker n = l) (hst : l.state ∈ [.outOfService, .unfitted]) :
    s.presentLocker n slot b = (s, .red) := by
  subst hl
  simp only [List.mem_cons, List.not_mem_nil, or_false] at hst
  obtain hst | hst := hst <;> simp only [presentLocker, hst]

end Rows

end State

/-- Settles O43: each clause is a row of Table 3-4, read in the state the lookup leaves. -/
theorem lockerPresentationByStateAndClass : Obligations.LockerPresentationByStateAndClass := by
  unfold Obligations.LockerPresentationByStateAndClass
  intro addr pos serial n slot b s hg hp hf hr hs l seen answers queued room group master
  obtain ⟨-, -, hband⟩ := State.findSerial_ok hf
  have hlocker : seen.locker n = l := State.seenAt_locker _ _ _ _ _
  have decided {t : State} {ind : Indication} (hd : seen.presentLocker n slot b = (t, ind)) :
      exec .present s = .next (t.shown addr pos serial ind) := State.exec_present_found hg hp hf hr hs hd
  have hgroup : seen.inHolderGroup l slot b ↔ group :=
    State.seenAt_inHolderGroup (s := s.granted .field) (.locker n) hband l slot b
  have hmaster : b.isMaster = true ↔ master := b.isMaster_iff
  have hqueue : seen.field.queue = s.field.queue := by rw [State.seenAt_field, State.granted_field]
  have hroom {f : State → State} (h : room) : seen.ifRoom f = (f seen, .green) := State.ifRoom_of_room f (hqueue ▸ h)
  have hfull {f : State → State} (h : ¬room) : seen.ifRoom f = (seen, .amber) :=
    State.ifRoom_of_full f (hqueue ▸ Nat.not_lt.1 h)
  have hlatch : seen.latchLocker n false =
      queued { l with state := .latching, origin := some l.state, fresh := false, master := false } .latch :=
    State.latchLocker_eq false hlocker
  have hunlatch (m r : Bool) : seen.unlatchLocker n m r =
      queued { l with state := .unlatching, origin := some l.state, master := m, release := r } .unlatch :=
    State.unlatchLocker_eq m r hlocker
  refine ⟨fun hst => decided (State.presentLocker_moving hlocker hst),
    fun hst => ⟨?loading, ?relatched, ?relatch_full, ?free_outsider⟩,
    fun hst => ⟨?opened_by_group, ?opened_by_master, ?locked_full, ?locked_other⟩,
    fun hst => ⟨?open_group, ?open_outsider⟩,
    fun hst => ⟨?fault_group, ?fault_master, ?fault_full, ?fault_other⟩,
    fun hst => decided (State.presentLocker_unusable hlocker hst)⟩
  case loading =>
    exact fun hg hres hdoor => decided (State.presentLocker_loading hlocker hres hdoor (hgroup.2 hg))
  case relatched =>
    intro hg hdoor hspace
    have hnext := decided ((State.presentLocker_relatches hlocker hst hdoor (hgroup.2 hg)).trans (hroom hspace))
    rwa [hlatch] at hnext
  case relatch_full =>
    exact fun hg hdoor hspace =>
      decided ((State.presentLocker_relatches hlocker hst hdoor (hgroup.2 hg)).trans (hfull hspace))
  case free_outsider =>
    exact fun hout =>
      decided (State.presentLocker_outsider hlocker (List.mem_append_left [LockerState.opened, .forced] hst) (mt hgroup.1 hout))
  case opened_by_group =>
    intro hg hspace
    have hnext := decided ((State.presentLocker_opens hlocker hst (hgroup.2 hg)).trans (hroom hspace))
    rwa [hunlatch, hst] at hnext
  case opened_by_master =>
    intro hout hm hspace
    have hnext := decided
      ((State.presentLocker_master_locked hlocker hst (mt hgroup.1 hout) (hmaster.2 hm)).trans (hroom hspace))
    rwa [State.masterOpen, hunlatch, hst] at hnext
  case locked_full =>
    intro hin hspace
    by_cases hg : group
    · exact decided ((State.presentLocker_opens hlocker hst (hgroup.2 hg)).trans (hfull hspace))
    · have hm := hmaster.2 (hin.resolve_left hg)
      exact decided ((State.presentLocker_master_locked hlocker hst (mt hgroup.1 hg) hm).trans (hfull hspace))
  case locked_other =>
    exact fun hout hother =>
      decided (State.presentLocker_other hlocker (by simp [hst]) (mt hgroup.1 hout)
        (Bool.eq_false_iff.2 (mt hmaster.1 hother)))
  case open_group =>
    exact fun hg => decided (State.presentLocker_group_waits hlocker (List.mem_append_left [LockerState.fault] hst) (hgroup.2 hg))
  case open_outsider =>
    exact fun hout =>
      decided (State.presentLocker_outsider hlocker (List.mem_append_right [LockerState.reserved, .released, .closing] hst)
        (mt hgroup.1 hout))
  case fault_group =>
    rintro ⟨h, hh, hin⟩
    obtain hst | ⟨-, hnone⟩ := hst
    · exact decided (State.presentLocker_group_waits hlocker (by simp [hst]) (hgroup.2 ⟨h, hh, hin⟩))
    · rw [hnone] at hh
      cases hh
  case fault_master =>
    intro hout hm hspace
    have hnext := decided
      ((State.presentLocker_master_frees hlocker hst (mt hgroup.1 hout) (hmaster.2 hm)).trans (hroom hspace))
    rwa [State.masterOpen, hunlatch] at hnext
  case fault_full =>
    exact fun hout hm hspace =>
      decided ((State.presentLocker_master_frees hlocker hst (mt hgroup.1 hout) (hmaster.2 hm)).trans (hfull hspace))
  case fault_other =>
    intro hout hother
    refine decided (State.presentLocker_other hlocker ?_ (mt hgroup.1 hout) (Bool.eq_false_iff.2 (mt hmaster.1 hother)))
    obtain hst | ⟨hst, -⟩ := hst <;> simp [hst]

end Sys2Proof.Machine
end

section
/-! PROOFS. Command outcomes at a locker (R40, R48 to R52). -/

namespace Sys2Proof.Machine

/-! ### A locker record under an outcome -/

/-- The record with the door and latch fields that an outcome sets (R40). -/
def Locker.afterOutcome (l : Locker) (a : Action) (r : CommandResult) : Locker :=
  { l with door := outcomeDoor a r l.door, latch := outcomeLatch a r l.latch }

@[simp] theorem Locker.afterOutcome_state (l : Locker) (a : Action) (r : CommandResult) :
    (l.afterOutcome a r).state = l.state := rfl

@[simp] theorem Locker.afterOutcome_holder (l : Locker) (a : Action) (r : CommandResult) :
    (l.afterOutcome a r).holder = l.holder := rfl

@[simp] theorem Locker.afterOutcome_fresh (l : Locker) (a : Action) (r : CommandResult) :
    (l.afterOutcome a r).fresh = l.fresh := rfl

@[simp] theorem Locker.afterOutcome_release (l : Locker) (a : Action) (r : CommandResult) :
    (l.afterOutcome a r).release = l.release := rfl

@[simp] theorem Locker.afterOutcome_origin (l : Locker) (a : Action) (r : CommandResult) :
    (l.afterOutcome a r).origin = l.origin := rfl

/-- An UNLATCH tells nothing of the door (R40). -/
theorem Locker.afterOutcome_unlatch (l : Locker) (r : CommandResult) :
    l.afterOutcome .unlatch r = { l with latch := outcomeLatch .unlatch r l.latch } := by
  cases r <;> rfl

@[simp] theorem Locker.afterOutcome_unlatch_door (l : Locker) (r : CommandResult) :
    (l.afterOutcome .unlatch r).door = l.door := by
  rw [afterOutcome_unlatch]

/-- Entering a state that clears master (R39). -/
theorem Locker.enter_of_clears {l : Locker} {st : LockerState} (now : Nat) (h : st = .locked ∨ st = .free ∨ st = .orphaned) :
    l.enter st now =
      { l with state := st, since := now, origin := none, fresh := false, release := false, master := false } := by
  simp [Locker.enter, h]

/-- Entering a state that keeps master, or with master clear already (R39). -/
theorem Locker.enter_of_keeps {l : Locker} {st : LockerState} (now : Nat)
    (h : (st ≠ .locked ∧ st ≠ .free ∧ st ≠ .orphaned) ∨ l.master = false) :
    l.enter st now = { l with state := st, since := now, origin := none, fresh := false, release := false } := by
  obtain ⟨h1, h2, h3⟩ | h := h
  · simp [Locker.enter, h1, h2, h3]
  · simp [Locker.enter, h]

namespace State

/-! ### Writing one locker -/

theorem lockerFields_eq (s : State) (n : Nat) (a : Action) (r : CommandResult) :
    s.lockerFields n a r = s.setLocker n ((s.locker n).afterOutcome a r) := rfl

theorem lockerFields_locker {s : State} {n : Nat} (a : Action) (r : CommandResult) (hn : 1 ≤ n ∧ n ≤ 1024) :
    (s.lockerFields n a r).locker n = (s.locker n).afterOutcome a r :=
  setLocker_locker_self s _ hn

@[simp] theorem lockerFields_now (s : State) (n : Nat) (a : Action) (r : CommandResult) :
    (s.lockerFields n a r).now = s.now := setLocker_now s n _

/-- The holder's serial reads the holder alone of the locker's record. -/
theorem setLocker_holderSerial {s : State} {n : Nat} {l : Locker} (hn : 1 ≤ n ∧ n ≤ 1024)
    (hl : l.holder = (s.locker n).holder) : (s.setLocker n l).holderSerial n = s.holderSerial n := by
  have hserial : (s.setLocker n l).serialOf = s.serialOf := funext (setLocker_serialOf s n l)
  rw [holderSerial, setLocker_locker_self s l hn, hl, hserial]
  rfl

theorem lockerFields_holderSerial {s : State} {n : Nat} (a : Action) (r : CommandResult) (hn : 1 ≤ n ∧ n ≤ 1024) :
    (s.lockerFields n a r).holderSerial n = s.holderSerial n := setLocker_holderSerial hn rfl

/-- An outcome whose fields are set and which then enters a state writes the record once. -/
theorem lockerFields_enterLocker {s : State} {n : Nat} (a : Action) (r : CommandResult) (st : LockerState)
    (hn : 1 ≤ n ∧ n ≤ 1024) :
    (s.lockerFields n a r).enterLocker n st = s.setLocker n (((s.locker n).afterOutcome a r).enter st s.now) := by
  rw [enterLocker, lockerFields_locker a r hn, lockerFields_now, lockerFields_eq, setLocker_setLocker]

theorem updBand_setLocker (s : State) (k n : Nat) (f : Band → Band) (l : Locker) :
    (s.updBand k f).setLocker n l = (s.setLocker n l).updBand k f := by
  cases h : s.band k with
  | none => rw [updBand_none f h, updBand_none f (by rw [setLocker_band, h])]
  | some b => rw [updBand_some f h, updBand_some f (by rw [setLocker_band, h]), setBand_setLocker]

/-- What unbinding does to the record of the holder, when there is one (R38). -/
def leaveHolder (s : State) (n : Nat) (holder : Option Nat) : State :=
  match holder with
  | none => s
  | some h => s.updBand h fun b => { b with lockers := b.lockers.erase n }

theorem unbindLocker_eq (s : State) (n : Nat) :
    s.unbindLocker n =
      (s.setLocker n { s.locker n with holder := none, master := false }).leaveHolder n (s.locker n).holder := by
  rfl

theorem leaveHolder_setLocker (s : State) (n m : Nat) (holder : Option Nat) (l : Locker) :
    (s.leaveHolder n holder).setLocker m l = (s.setLocker m l).leaveHolder n holder := by
  cases holder with
  | none => rfl
  | some h => exact updBand_setLocker s h m _ l

@[simp] theorem leaveHolder_locker (s : State) (n m : Nat) (holder : Option Nat) :
    (s.leaveHolder n holder).locker m = s.locker m := by
  cases holder with
  | none => rfl
  | some h => exact updBand_locker s h _ m

@[simp] theorem updBand_now (s : State) (k : Nat) (f : Band → Band) : (s.updBand k f).now = s.now := by
  unfold updBand
  split
  · exact setBand_now s k _
  · rfl

@[simp] theorem leaveHolder_now (s : State) (n : Nat) (holder : Option Nat) : (s.leaveHolder n holder).now = s.now := by
  cases holder with
  | none => rfl
  | some h => exact updBand_now s h _

/-- A locker whose fields are set, which is unbound and then enters a state: the holder leaves, and the record is written once. -/
theorem lockerFields_unbind_enter {s : State} {n : Nat} (a : Action) (r : CommandResult) (st : LockerState)
    (hn : 1 ≤ n ∧ n ≤ 1024) :
    ((s.lockerFields n a r).unbindLocker n).enterLocker n st =
      (s.unbindLocker n).setLocker n
        ({ (s.locker n).afterOutcome a r with holder := none, master := false }.enter st s.now) := by
  rw [enterLocker, unbindLocker_eq, unbindLocker_eq, leaveHolder_locker, setLocker_locker_self _ _ hn, leaveHolder_now,
    setLocker_now, lockerFields_now, leaveHolder_setLocker, leaveHolder_setLocker, lockerFields_locker a r hn,
    lockerFields_eq, setLocker_setLocker, setLocker_setLocker, setLocker_setLocker]
  rfl

/-! ### What each outcome makes of a LATCHING locker (R48 to R50) -/

section Latching

variable {s : State} {n : Nat} {l : Locker}

theorem lockerLatchDone_eq (hn : 1 ≤ n ∧ n ≤ 1024) (hl : s.locker n = l) (hst : l.state = .latching) :
    s.lockerLatchDone n =
      s.setLocker n ((l.afterOutcome .latch .done).enter (if l.holder = none then .orphaned else .locked) s.now) := by
  simp only [lockerLatchDone, lockerFields_locker _ _ hn, lockerFields_enterLocker _ _ _ hn, hl,
    Locker.afterOutcome_state, Locker.afterOutcome_holder, hst, if_true]
  cases l.holder <;> rfl

/-- R49: a binding just made is undone. -/
theorem lockerLatchDoorOpen_fresh (hn : 1 ≤ n ∧ n ≤ 1024) (hl : s.locker n = l) (hst : l.state = .latching)
    (hfresh : l.fresh = true) :
    s.lockerLatchDoorOpen n =
      (s.unbindLocker n).setLocker n
        ({ l.afterOutcome .latch .doorOpen with holder := none, master := false }.enter .free s.now) := by
  simp only [lockerLatchDoorOpen, lockerFields_locker _ _ hn, lockerFields_unbind_enter _ _ _ hn, hl,
    Locker.afterOutcome_state, Locker.afterOutcome_fresh, hst, hfresh, if_true]

/-- R49: a reservation stands again, its window still counting from the assignment. -/
theorem lockerLatchDoorOpen_reserved (hn : 1 ≤ n ∧ n ≤ 1024) (hl : s.locker n = l) (hst : l.state = .latching)
    (hfresh : l.fresh = false) (horigin : l.origin = some .reserved) :
    s.lockerLatchDoorOpen n =
      s.setLocker n { (l.afterOutcome .latch .doorOpen).enter .reserved s.now with since := l.since } := by
  simp only [lockerLatchDoorOpen, lockerFields_locker _ _ hn, lockerFields_now, hl, Locker.afterOutcome_state,
    Locker.afterOutcome_fresh, Locker.afterOutcome_origin, hst, hfresh, horigin, if_true]
  rw [if_neg Bool.false_ne_true, lockerFields_eq, setLocker_setLocker]
  rfl

/-- R49: any other locker stands open, FORCED where it was so. -/
theorem lockerLatchDoorOpen_other (hn : 1 ≤ n ∧ n ≤ 1024) (hl : s.locker n = l) (hst : l.state = .latching)
    (hfresh : l.fresh = false) (horigin : l.origin ≠ some .reserved) :
    s.lockerLatchDoorOpen n =
      s.setLocker n ((l.afterOutcome .latch .doorOpen).enter
        (if l.origin = some .forced then .forced else .opened) s.now) := by
  simp only [lockerLatchDoorOpen, lockerFields_locker _ _ hn, lockerFields_enterLocker _ _ _ hn, hl,
    Locker.afterOutcome_state, Locker.afterOutcome_fresh, Locker.afterOutcome_origin, hst, hfresh, if_neg horigin,
    if_true]
  by_cases hforced : l.origin = some .forced <;> simp [hforced]

theorem lockerLatchFails_eq (r : CommandResult) (hn : 1 ≤ n ∧ n ≤ 1024) (hl : s.locker n = l) (hst : l.state = .latching) :
    s.lockerLatchFails r n =
      (s.setLocker n ((l.afterOutcome .latch r).enter .fault s.now)).notify .lockerFault (some (.locker n))
        (s.holderSerial n) := by
  simp only [lockerLatchFails, lockerFields_locker _ _ hn, lockerFields_enterLocker _ _ _ hn,
    lockerFields_holderSerial _ _ hn, hl, Locker.afterOutcome_state, hst, if_true]

end Latching

/-! ### What each outcome makes of an UNLATCHING locker (R51, R52) -/

section Unlatching

variable {s : State} {n : Nat} {l : Locker}

/-- R51: the release asked for takes place. -/
theorem lockerUnlatchDone_release (hn : 1 ≤ n ∧ n ≤ 1024) (hl : s.locker n = l) (hst : l.state = .unlatching)
    (hrelease : l.release = true) :
    s.lockerUnlatchDone n =
      (s.unbindLocker n).setLocker n
        ({ l.afterOutcome .unlatch .done with holder := none, master := false }.enter
          (if l.origin = some LockerState.outOfService then .outOfService else .free) s.now) := by
  simp only [lockerUnlatchDone, lockerFields_locker _ _ hn, lockerFields_unbind_enter _ _ _ hn, hl,
    Locker.afterOutcome_state, Locker.afterOutcome_release, Locker.afterOutcome_origin, hst, hrelease, if_true]

/-- R51: the locker stays bound, open as its door is recorded. -/
theorem lockerUnlatchDone_bound (hn : 1 ≤ n ∧ n ≤ 1024) (hl : s.locker n = l) (hst : l.state = .unlatching)
    (hrelease : l.release = false) :
    s.lockerUnlatchDone n =
      s.setLocker n ((l.afterOutcome .unlatch .done).enter (if l.door = .opened then .opened else .released) s.now) := by
  simp only [lockerUnlatchDone, lockerFields_locker _ _ hn, lockerFields_enterLocker _ _ _ hn, hl,
    Locker.afterOutcome_state, Locker.afterOutcome_release, Locker.afterOutcome_unlatch_door, hst, hrelease, if_true]
  by_cases hdoor : l.door = .opened <;> simp [hdoor]

theorem unlatchReturn_eq (l : Locker) :
    unlatchReturn l =
      if l.holder ≠ none then .locked else if l.origin = some .outOfService then .outOfService else .orphaned := by
  cases h : l.holder <;> simp [unlatchReturn, h]

/-- R52, first in every case: master is cleared with the fields set, and LOCKER_FAULT raised; then the door decides. -/
theorem lockerUnlatchFails_eq (r : CommandResult) (hn : 1 ≤ n ∧ n ≤ 1024) (hl : s.locker n = l)
    (hst : l.state = .unlatching) :
    s.lockerUnlatchFails r n =
      let faulted := (s.setLocker n { l.afterOutcome .unlatch r with master := false }).notify .lockerFault
        (some (.locker n)) (s.holderSerial n)
      if l.door = .opened then faulted.forceLocker n else faulted.enterLocker n (unlatchReturn l) := by
  simp only [lockerUnlatchFails, lockerFields_locker _ _ hn, lockerFields_holderSerial _ _ hn, hl,
    Locker.afterOutcome_state, Locker.afterOutcome_unlatch_door, hst, if_true]
  rw [lockerFields_eq, setLocker_setLocker]
  rfl

/-- A state entered behind a notice: the record is written once, and the notice stands behind it. -/
theorem notify_enterLocker (k : NoticeKind) (place : Option Place) (serial : Option Nat) (st : LockerState)
    (hn : 1 ≤ n ∧ n ≤ 1024) :
    ((s.setLocker n l).notify k place serial).enterLocker n st =
      (s.setLocker n (l.enter st s.now)).notify k place serial := by
  rw [enterLocker, notify_locker, setLocker_locker_self s l hn, notify_now, setLocker_now, notify_setLocker,
    setLocker_setLocker]

/-- R52: the door recorded open makes a failed opening a forced one. -/
theorem lockerUnlatchFails_opened (r : CommandResult) (hn : 1 ≤ n ∧ n ≤ 1024) (hl : s.locker n = l)
    (hst : l.state = .unlatching) (hdoor : l.door = .opened) :
    s.lockerUnlatchFails r n =
      (((s.setLocker n ({ l.afterOutcome .unlatch r with master := false }.enter .forced s.now)).notify .lockerFault
        (some (.locker n)) (s.holderSerial n)).notify .lockerForced (some (.locker n)) (s.holderSerial n)).holdOnForce
          ((n - 1) / 8 + 1) := by
  have hserial (k : NoticeKind) (place : Option Place) (serial : Option Nat) :
      ((s.setLocker n { l.afterOutcome .unlatch r with master := false }).notify k place serial).holderSerial n =
        s.holderSerial n := setLocker_holderSerial hn (by rw [hl]; rfl)
  rw [lockerUnlatchFails_eq r hn hl hst, if_pos hdoor, forceLocker, notify_enterLocker _ _ _ _ hn, hserial]
  rfl

/-- R52: otherwise the locker returns to where it was bound, or out of service, or ORPHANED. -/
theorem lockerUnlatchFails_shut (r : CommandResult) (hn : 1 ≤ n ∧ n ≤ 1024) (hl : s.locker n = l)
    (hst : l.state = .unlatching) (hdoor : l.door ≠ .opened) :
    s.lockerUnlatchFails r n =
      (s.setLocker n ({ l.afterOutcome .unlatch r with master := false }.enter (unlatchReturn l) s.now)).notify
        .lockerFault (some (.locker n)) (s.holderSerial n) := by
  rw [lockerUnlatchFails_eq r hn hl hst, if_neg hdoor, notify_enterLocker _ _ _ _ hn]

end Unlatching

end State

/-- Settles O46, outcome by outcome: the equation of its handling at the locker, under the grant. -/
theorem commandOutcomesAtALocker : Obligations.CommandOutcomesAtALocker := by
  unfold Obligations.CommandOutcomesAtALocker
  constructor
  · intro cmd n s haction htarget h1 h2 hst l g entered
    have hn : 1 ≤ n ∧ n ≤ 1024 := ⟨h1, h2⟩
    have hl : g.locker n = l := State.granted_locker s .field n
    have granted {r : CommandResult} {f : Place → State → State} (hg : s.grantingItem (.outcome cmd r)) :
        s.grantOutcome .latch r f = (f (.locker n) g).popHead := State.grantOutcome_granting f haction htarget hg
    refine ⟨fun hg => ?done, fun hg => ⟨fun hfresh => ?fresh, fun hfresh horigin => ?reserved,
      fun hfresh horigin => ?other⟩, fun hg => ?jammed, fun hg => ?failed⟩
    case done =>
      rw [exec_latchDone_eq, execLatchDone, granted hg, State.latchDoneAt, State.lockerLatchDone_eq hn hl hst,
        Locker.enter_of_clears _ (by split <;> simp)]
      rfl
    case fresh =>
      rw [exec_latchDoorOpen_eq, execLatchDoorOpen, granted hg, State.latchDoorOpenAt,
        State.lockerLatchDoorOpen_fresh hn hl hst hfresh]
      rfl
    case reserved =>
      rw [exec_latchDoorOpen_eq, execLatchDoorOpen, granted hg, State.latchDoorOpenAt,
        State.lockerLatchDoorOpen_reserved hn hl hst hfresh horigin]
      rfl
    case other =>
      rw [exec_latchDoorOpen_eq, execLatchDoorOpen, granted hg, State.latchDoorOpenAt,
        State.lockerLatchDoorOpen_other hn hl hst hfresh horigin, Locker.enter_of_keeps _ (.inl (by split <;> simp))]
      rfl
    case jammed =>
      rw [exec_latchJammed_eq, execLatchJammed, granted hg, State.latchFailsAt, State.lockerLatchFails_eq _ hn hl hst]
      rfl
    case failed =>
      rw [exec_latchFailed_eq, execLatchFailed, granted hg, State.latchFailsAt, State.lockerLatchFails_eq _ hn hl hst]
      rfl
  · intro cmd n s haction htarget h1 h2 hst l g entered returns failed
    have hn : 1 ≤ n ∧ n ≤ 1024 := ⟨h1, h2⟩
    have hl : g.locker n = l := State.granted_locker s .field n
    have granted {r : CommandResult} {f : Place → State → State} (hg : s.grantingItem (.outcome cmd r)) :
        s.grantOutcome .unlatch r f = (f (.locker n) g).popHead := State.grantOutcome_granting f haction htarget hg
    have hfails (r : CommandResult) : g.lockerUnlatchFails r n = failed (outcomeLatch .unlatch r l.latch) := by
      by_cases hdoor : l.door = .opened
      · rw [State.lockerUnlatchFails_opened r hn hl hst hdoor, Locker.enter_of_keeps _ (.inr rfl),
          Locker.afterOutcome_unlatch]
        exact (if_pos hdoor).symm
      · rw [State.lockerUnlatchFails_shut r hn hl hst hdoor, Locker.enter_of_keeps _ (.inr rfl),
          Locker.afterOutcome_unlatch, State.unlatchReturn_eq]
        exact (if_neg hdoor).symm
    refine ⟨fun hg => ⟨fun hrelease => ?released, fun hrelease => ?bound⟩, fun hg => ?jammed, fun hg => ?failed⟩
    case released =>
      rw [exec_unlatchDone_eq, execUnlatchDone, granted hg, State.unlatchDoneAt,
        State.lockerUnlatchDone_release hn hl hst hrelease, Locker.enter_of_keeps _ (.inr rfl)]
      rfl
    case bound =>
      rw [exec_unlatchDone_eq, execUnlatchDone, granted hg, State.unlatchDoneAt,
        State.lockerUnlatchDone_bound hn hl hst hrelease, Locker.enter_of_keeps _ (.inl (by split <;> simp))]
      rfl
    case jammed =>
      rw [exec_unlatchJammed_eq, execUnlatchJammed, granted hg, State.unlatchFailsAt, hfails]
      rfl
    case failed =>
      rw [exec_unlatchFailed_eq, execUnlatchFailed, granted hg, State.unlatchFailsAt, hfails]
      rfl

end Sys2Proof.Machine
end

section
/-! PROOFS. Presentations at cabins (R71, R72, Table 4-4). -/

namespace Sys2Proof.Machine

namespace State

/-! ### What the checks of R72 read -/

/-- Check 2 of R72. -/
theorem isClearedBand_iff (b : Band) : isClearedBand b = true ↔ ∃ since, b.state = .cleared since := by
  cases h : b.state <;> simp [isClearedBand, h]

/-- Check 4 of R72, by the kinds of R71. -/
theorem kindFits_iff (s : State) (c : Nat) (b : Band) :
    s.kindFits c b = true ↔
      match s.cabinKind c with
      | .single => True
      | .family => b.role ≠ .none
      | .staff => b.rank ≤ 1 := by
  cases h : s.cabinKind c with
  | single => simp [kindFits, h]
  | family => simp [kindFits, h, Band.inGroup_iff]
  | staff => simp [kindFits, h]

@[simp] theorem seenAt_kindFits (s : State) (slot : Nat) (b : Band) (p : Place) (c : Nat) (d : Band) :
    (s.seenAt slot b p).kindFits c d = s.kindFits c d := by
  simp only [kindFits, seenAt, setBand_cabinKind]

@[simp] theorem granted_kindFits (s : State) (r : Requester) (c : Nat) (b : Band) :
    (s.granted r).kindFits c b = s.kindFits c b := rfl

/-- Last_place written and then another field of the record: one writing of the record. -/
theorem seenAt_setBand (s : State) (slot : Nat) (b : Band) (p : Place) (r : Option Band) :
    (s.seenAt slot b p).setBand slot r = s.setBand slot r := setBand_setBand s slot _ r

/-! ### Commands queued for a cabin -/

section Commands

variable {s : State} {c : Nat} {k : Cabin}

theorem unlatchCabin_eq (hc : 1 ≤ c ∧ c ≤ 64) (hk : s.cabin c = k) :
    s.unlatchCabin c =
      (s.setCabin c { k with state := .unlatching, command := some .unlatch }).queueCommand (128 + (c - 1) / 4 + 1)
        ((c - 1) % 4) .unlatch := by
  simp only [unlatchCabin, queueCabin, cabinAt, setCabin_cabin_self s _ hc, setCabin_setCabin, hk]

/-- Check 6 of R72: the occupation of R68 and the LATCH of R69 write the cabin's record once. -/
theorem enterCabin_eq {slot : Nat} {b : Band} (hc : 1 ≤ c ∧ c ≤ 64) (hk : s.cabin c = k) (hb : s.band slot = some b) :
    s.enterCabin c slot =
      ((s.setBand slot (some { b with cabin := some c })).setCabin c
        { k with state := .latching, occupant := some slot, command := some .latch }).queueCommand
          (128 + (c - 1) / 4 + 1) ((c - 1) % 4) .latch := by
  have hoccupied : s.occupy c slot =
      (s.setBand slot (some { b with cabin := some c })).setCabin c { k with occupant := some slot } := by
    rw [occupy, updBand_some _ ((setCabin_band s c _ slot).trans hb), setBand_setCabin, hk]
  simp only [enterCabin, queueCabin, cabinAt, hoccupied, setCabin_cabin_self _ _ hc, setCabin_setCabin]

end Commands

/-! ### The rows of Table 4-4 -/

section Rows

variable {s : State} {c slot : Nat} {k : Cabin} {b : Band}

theorem presentCabin_vacant (hk : s.cabin c = k) (hst : k.state = .vacant) (hcmd : k.command = none) :
    s.presentCabin c slot b = s.presentVacant c slot b := by
  subst hk
  simp only [presentCabin, hst, hcmd, Option.isNone_none, if_true]

theorem presentCabin_occupant (hk : s.cabin c = k) (hst : k.state = .occupied) (hocc : k.occupant = some slot) :
    s.presentCabin c slot b = s.ifRoom fun t => t.unlatchCabin c := by
  subst hk
  simp only [presentCabin, hst, if_pos hocc]

theorem presentCabin_stranger (hk : s.cabin c = k) (hst : k.state = .occupied) (hocc : k.occupant ≠ some slot) :
    s.presentCabin c slot b = (s, .red) := by
  subst hk
  simp only [presentCabin, hst, if_neg hocc]

/-- While a command is out, at whatever state it finds the cabin, AMBER to everyone. -/
theorem presentCabin_commanded (hk : s.cabin c = k)
    (hst : k.state = .latching ∨ k.state = .unlatching ∨ (k.state = .vacant ∧ k.command ≠ none)) :
    s.presentCabin c slot b = (s, .amber) := by
  subst hk
  obtain hst | hst | ⟨hst, hcmd⟩ := hst
  · simp only [presentCabin, hst]
  · simp only [presentCabin, hst]
  · simp only [presentCabin, hst]
    exact if_neg (mt Option.isNone_iff_eq_none.1 hcmd)

theorem presentCabin_unusable (hk : s.cabin c = k) (hst : k.state = .outOfService ∨ k.state = .unfitted) :
    s.presentCabin c slot b = (s, .red) := by
  subst hk
  obtain hst | hst := hst <;> simp only [presentCabin, hst]

end Rows

/-- The checks of R72 as they read the state before the grant, whose last_place and turn they do not depend on. -/
theorem presentVacant_checks (s : State) (slot : Nat) (b : Band) (r : Requester) (p : Place) (c : Nat) :
    let seen := (s.granted r).seenAt slot b p
    seen.presentVacant c slot b =
      if (s.cabin c).door = .opened then (seen, .amber)
      else if isClearedBand b = true then (seen, .red)
      else if b.cabin ≠ none then (seen, .red)
      else if s.kindFits c b = false then (seen, .red)
      else seen.ifRoom (enterCabin c slot) := by
  simp [presentVacant, Option.isSome_iff_ne_none]

end State

/-- Settles O44: each clause is a row of Table 4-4 and, at a VACANT cabin, a check of `presentVacant`, read in the state the
lookup leaves. -/
theorem cabinPresentationIsDecided : Obligations.CabinPresentationIsDecided := by
  unfold Obligations.CabinPresentationIsDecided
  intro addr pos serial c slot b s hg hp h1 h2 hf hr hs k g answers fits
  have hc : 1 ≤ c ∧ c ≤ 64 := ⟨h1, h2⟩
  obtain ⟨-, -, hband⟩ := State.findSerial_ok hf
  have hseen : (g.seenAt slot b (.cabin c)).cabin c = k := State.seenAt_cabin _ _ _ _ _
  have hqueue : (g.seenAt slot b (.cabin c)).field.queue = s.field.queue := by rw [State.seenAt_field, State.granted_field]
  have decided {t : State} {ind : Indication} (hd : (g.seenAt slot b (.cabin c)).presentCabin c slot b = (t, ind)) :
      exec .present s = .next (t.shown addr pos serial ind) := State.exec_present_found hg hp hf hr hs hd
  refine ⟨fun hst hcmd => ?vacant, fun hst => ⟨fun hocc hroom => ?leaves, fun hocc hfull => ?leave_full,
    fun hocc => decided (State.presentCabin_stranger hseen hst hocc)⟩,
    fun hst => decided (State.presentCabin_commanded hseen hst),
    fun hst => decided (State.presentCabin_unusable hseen hst)⟩
  case leaves =>
    have hnext := decided ((State.presentCabin_occupant hseen hst hocc).trans (State.ifRoom_of_room _ (hqueue ▸ hroom)))
    rwa [State.unlatchCabin_eq hc hseen] at hnext
  case leave_full =>
    exact decided ((State.presentCabin_occupant hseen hst hocc).trans (State.ifRoom_of_full _ (hqueue ▸ hfull)))
  case vacant =>
    have hcleared : State.isClearedBand b = true ↔ ∃ since, b.state = .cleared since := State.isClearedBand_iff b
    have hkind : s.kindFits c b = true ↔ fits := State.kindFits_iff s c b
    rw [State.presentCabin_vacant hseen hst hcmd, State.presentVacant_checks] at decided
    refine ⟨fun hopen => decided (if_pos hopen), fun hshut => ?_⟩
    rw [if_neg hshut] at decided
    refine ⟨fun hleft => decided (if_pos (hcleared.2 hleft)), fun hstays => ?_⟩
    rw [if_neg (mt hcleared.1 (not_exists.2 hstays))] at decided
    refine ⟨fun hinside => decided (if_pos hinside), fun hfree => ?_⟩
    rw [if_neg (not_not_intro hfree)] at decided
    refine ⟨fun hunfit => decided (if_pos (Bool.eq_false_iff.2 (mt hkind.1 hunfit))), fun hfits => ?_⟩
    rw [if_neg (ne_false_of_eq_true (hkind.2 hfits))] at decided
    refine ⟨fun hfull => decided (State.ifRoom_of_full _ (hqueue ▸ hfull)), fun hroom => ?_⟩
    have hrecord := (State.seenAt_band (s := g) (.cabin c) hband slot).trans (if_pos rfl)
    have hentered := decided (State.ifRoom_of_room _ (hqueue ▸ hroom))
    rw [State.enterCabin_eq hc hseen hrecord, State.seenAt_setBand] at hentered
    exact hentered

end Sys2Proof.Machine
end

section
/-! PROOFS. Payments and paid time: PAY (R99 to R101) and ADD_TIME (R102). -/

namespace Sys2Proof.Machine

namespace State

/-- A command that runs a handler on a port, granted: the answer and the state of the handling, replied on the port. -/
theorem exec_granted {i : Instr} {p : PortId} {k : ReqKind} {h : Handler} {r : Request} {s t : State} {a : Answer}
    (hi : exec i s = .next (s.grantRequest p k h)) (hg : s.granting p k r) (hh : h r (s.granted (.port p)) = (a, t)) :
    exec i s = .next (t.answered p r a.code a.data) := by
  rw [hi, grantRequest_granting h hg, hh]

end State

theorem exec_pay_eq (p : PortId) (s : State) : exec (.pay p) s = .next (s.grantRequest p .pay pay) := rfl
theorem exec_addTime_eq (p : PortId) (s : State) : exec (.addTime p) s = .next (s.grantRequest p .addTime addTime) := rfl

theorem exec_pay_granted {p : PortId} {r : Request} {s t : State} {a : Answer} (hg : s.granting p .pay r)
    (h : pay r (s.granted (.port p)) = (a, t)) : exec (.pay p) s = .next (t.answered p r a.code a.data) :=
  State.exec_granted (exec_pay_eq p s) hg h

theorem exec_addTime_granted {p : PortId} {r : Request} {s t : State} {a : Answer} (hg : s.granting p .addTime r)
    (h : addTime r (s.granted (.port p)) = (a, t)) : exec (.addTime p) s = .next (t.answered p r a.code a.data) :=
  State.exec_granted (exec_addTime_eq p s) hg h

/-! ### The checks of PAY in their order (R99), and the payment (R100, R101) -/

section Payments

variable {s : State} {r : Request} {serial amount slot : Nat} {b : Band}

theorem pay_of_zero (hp : parseSerialAmount r.body = some (serial, 0)) : pay r s = refuse .outOfRange s := by
  simp [pay, hp]

theorem pay_of_unfound {c : ResultCode} (hp : parseSerialAmount r.body = some (serial, amount)) (hn : 1 ≤ amount)
    (hf : s.findSerial serial = .error c) : pay r s = refuse c s := by
  simp [pay, hp, Nat.ne_of_gt hn, hf]

/-- Only an ACTIVE or OWING visitor pays. -/
theorem pay_of_wrongState (hp : parseSerialAmount r.body = some (serial, amount)) (hn : 1 ≤ amount)
    (hf : s.findSerial serial = .ok (slot, b))
    (hb : b.kind = .staff ∨ b.state = .revoked ∨ ∃ since, b.state = .cleared since) : pay r s = refuse .wrongState s := by
  simp only [pay, hp, if_neg (Nat.ne_of_gt hn), hf]
  obtain hk | hst | ⟨since, hst⟩ := hb
  · simp only [hk]
  · cases hk : b.kind <;> simp only [hst]
  · cases hk : b.kind <;> simp only [hst]

variable {a : Account}

theorem pay_of_inCabin (hp : parseSerialAmount r.body = some (serial, amount)) (hn : 1 ≤ amount)
    (hf : s.findSerial serial = .ok (slot, b)) (hk : b.kind = .visitor a) (hc : b.cabin ≠ none)
    (hst : b.state = .active ∨ ∃ cents, b.state = .owing cents) : pay r s = refuse .inCabin s := by
  have hin : b.cabin.isSome = true := Option.isSome_iff_ne_none.2 hc
  obtain hst | ⟨cents, hst⟩ := hst <;> simp only [pay, hp, if_neg (Nat.ne_of_gt hn), hf, hk, hst, hin, if_true]

/-- R101: a prepayment. -/
theorem pay_of_active (hp : parseSerialAmount r.body = some (serial, amount)) (hn : 1 ≤ amount)
    (hf : s.findSerial serial = .ok (slot, b)) (hk : b.kind = .visitor a) (hc : b.cabin = none)
    (hst : b.state = .active) :
    pay r s = accept (bytesOf 2 (addCents a.paidCents amount))
      (s.setBand slot (some { b with kind := .visitor { a with paidCents := addCents a.paidCents amount } })) := by
  simp [pay, hp, Nat.ne_of_gt hn, hf, hk, hst, hc]

/-- R100: the amount covers the sum owed, and what is over is the change. -/
theorem pay_of_owing_covered {owed : Nat} (hp : parseSerialAmount r.body = some (serial, amount)) (hn : 1 ≤ amount)
    (hf : s.findSerial serial = .ok (slot, b)) (hk : b.kind = .visitor a) (hc : b.cabin = none)
    (hst : b.state = .owing owed) (hle : owed ≤ amount) :
    pay r s = ({ code := .clear, data := bytesOf 2 (amount - owed) ++ bytesOf 2 (addCents a.paidCents amount) },
      s.setBand slot (some { b with kind := .visitor { a with paidCents := addCents a.paidCents amount },
                                    state := .cleared s.now })) := by
  simp [pay, hp, Nat.ne_of_gt hn, hf, hk, hst, hc, hle]

/-- R100: the amount is less than the sum owed, and the rest stays owed. -/
theorem pay_of_owing_short {owed : Nat} (hp : parseSerialAmount r.body = some (serial, amount)) (hn : 1 ≤ amount)
    (hf : s.findSerial serial = .ok (slot, b)) (hk : b.kind = .visitor a) (hc : b.cabin = none)
    (hst : b.state = .owing owed) (hlt : amount < owed) :
    pay r s = ({ code := .owes, data := bytesOf 2 (owed - amount) ++ bytesOf 2 (addCents a.paidCents amount) },
      s.setBand slot (some { b with kind := .visitor { a with paidCents := addCents a.paidCents amount },
                                    state := .owing (owed - amount) })) := by
  simp [pay, hp, Nat.ne_of_gt hn, hf, hk, hst, hc, Nat.not_le.2 hlt]

end Payments

/-! ### ADD_TIME (R102) -/

section PaidTime

variable {s : State} {r : Request} {serial minutes slot : Nat} {b : Band}

theorem addTime_of_unfound {c : ResultCode} (hp : parseSerialAmount r.body = some (serial, minutes))
    (hf : s.findSerial serial = .error c) : addTime r s = refuse c s := by
  simp [addTime, hp, hf]

theorem addTime_of_wrongState (hp : parseSerialAmount r.body = some (serial, minutes))
    (hf : s.findSerial serial = .ok (slot, b)) (hb : b.kind = .staff ∨ b.state = .revoked) :
    addTime r s = refuse .wrongState s := by
  simp only [addTime, hp, hf]
  obtain hk | hst := hb
  · simp only [hk]
  · cases hk : b.kind <;> simp only [hst, if_true]

theorem Band.addTime_visitor {a : Account} (minutes : Nat) (hk : b.kind = .visitor a) :
    b.addTime minutes =
      { b with state := .active, kind := .visitor { a with paidMinutes := min 720 (a.paidMinutes + minutes) } } := by
  simp [Band.addTime, Band.updAccount, hk, Config.paidMinutesTop]

theorem addTime_of_visitor {a : Account} (hp : parseSerialAmount r.body = some (serial, minutes))
    (hf : s.findSerial serial = .ok (slot, b)) (hk : b.kind = .visitor a) (hst : b.state ≠ .revoked) :
    addTime r s = accept (bytesOf 2 (min 720 (a.paidMinutes + minutes)))
      (s.setBand slot (some { b with state := .active,
                                     kind := .visitor { a with paidMinutes := min 720 (a.paidMinutes + minutes) } })) := by
  simp only [addTime, hp, hf, hk, if_neg hst, Band.addTime_visitor minutes hk, Config.paidMinutesTop]

end PaidTime

/-- Settles O21: each clause is one outcome of `pay` or `addTime`, read in the state of the grant. -/
theorem payAndAddTimeChangeTheAccount : Obligations.PayAndAddTimeChangeTheAccount := by
  unfold Obligations.PayAndAddTimeChangeTheAccount
  refine ⟨?unfound, ?payment, ?time⟩
  case unfound =>
    intro p r serial n c s hp
    exact ⟨fun hg hn => exec_pay_granted hg (pay_of_zero (hn ▸ hp)),
      fun hg hn hf => exec_pay_granted hg (pay_of_unfound hp hn hf),
      fun hg hf => exec_addTime_granted hg (addTime_of_unfound hp hf)⟩
  case payment =>
    intro p r serial amount slot b s hg hp hn hf g
    refine ⟨fun hb => exec_pay_granted hg (pay_of_wrongState hp hn hf hb), fun a hk => ?_⟩
    refine ⟨fun hc hst => exec_pay_granted hg (pay_of_inCabin hp hn hf hk hc hst), fun hc => ⟨?_, ?_, ?_⟩⟩
    · exact fun hst => exec_pay_granted hg (pay_of_active hp hn hf hk hc hst)
    · exact fun owed hst hle => exec_pay_granted hg (pay_of_owing_covered hp hn hf hk hc hst hle)
    · exact fun owed hst hlt => exec_pay_granted hg (pay_of_owing_short hp hn hf hk hc hst hlt)
  case time =>
    intro p r serial minutes slot b s hg hp hf
    exact ⟨fun a hk hst => exec_addTime_granted hg (addTime_of_visitor hp hf hk hst),
      fun hb => exec_addTime_granted hg (addTime_of_wrongState hp hf hb)⟩

end Sys2Proof.Machine
end

section
/-! PROOFS. Settlement: the charge of an overstay (R90 to R93) and what SETTLE makes of each record (R94 to R97). -/

namespace Sys2Proof.Machine

theorem exec_settle_eq (p : PortId) (s : State) : exec (.settle p) s = .next (s.grantRequest p .settle settle) := rfl

theorem exec_settle_granted {p : PortId} {r : Request} {s t : State} {a : Answer} (hg : s.granting p .settle r)
    (h : settle r (s.granted (.port p)) = (a, t)) : exec (.settle p) s = .next (t.answered p r a.code a.data) :=
  State.exec_granted (exec_settle_eq p s) hg h

/-! ### Steps begun (R92) -/

theorem stepsBegun_of_le {e allowance grace : Nat} (u : Nat) (h : e ≤ allowance + grace) :
    stepsBegun e allowance grace u = 0 := if_pos h

/-- Past the grace the steps begun are the overrun divided by the step, rounded up. -/
theorem stepsBegun_of_gt {e allowance grace : Nat} (u : Nat) (h : allowance + grace < e) :
    stepsBegun e allowance grace u = (e - allowance) ⌈/⌉ u := by
  rw [stepsBegun, if_neg (Nat.not_le.2 h), Nat.ceilDiv_eq_add_pred_div]

/-- The last step begun is begun before the overrun ends and not over before it. -/
theorem stepsBegun_bounds {e allowance grace u : Nat} (h : allowance + grace < e) (hu : 0 < u) :
    1 ≤ stepsBegun e allowance grace u ∧ (stepsBegun e allowance grace u - 1) * u < e - allowance ∧
      e - allowance ≤ stepsBegun e allowance grace u * u := by
  have hle (n : Nat) : stepsBegun e allowance grace u ≤ n ↔ e - allowance ≤ n * u := by
    rw [stepsBegun_of_gt u h, ceilDiv_le_iff_le_mul hu, Nat.mul_comm]
  have hpos : 1 ≤ stepsBegun e allowance grace u := by
    by_contra hzero
    have hnone := (hle 0).1 (by omega)
    omega
  refine ⟨hpos, ?_, (hle _).1 le_rfl⟩
  by_contra hover
  have hfewer := (hle _).2 (Nat.not_lt.1 hover)
  omega

/-! ### Holdings (R95) -/

namespace Band

variable {b : Band}

theorem holdings_of_cabin (hc : b.cabin ≠ none) : b.holdings = some .inCabin :=
  if_pos (Option.isSome_iff_ne_none.2 hc)

theorem holdings_of_members (hc : b.cabin = none) (hm : b.members ≠ []) : b.holdings = some .membersInside := by
  simp [holdings, hc, hm]

theorem holdings_of_lockers (hc : b.cabin = none) (hm : b.members = []) (hl : b.lockers ≠ []) :
    b.holdings = some .holdsLocker := by
  simp [holdings, hc, hm, hl]

theorem holdings_of_free (hc : b.cabin = none) (hm : b.members = []) (hl : b.lockers = []) : b.holdings = none := by
  simp [holdings, hc, hm, hl]

end Band

/-! ### SETTLE by the record it finds (R94) -/

section Records

variable {s : State} {r : Request} {serial slot : Nat} {b : Band}

theorem settle_of_unfound {c : ResultCode} (hp : parseNumber 4 r.body = some serial)
    (hf : s.findSerial serial = .error c) : settle r s = refuse c s := by
  simp [settle, hp, hf]

theorem settle_of_revoked (hp : parseNumber 4 r.body = some serial) (hf : s.findSerial serial = .ok (slot, b))
    (hst : b.state = .revoked) : settle r s = refuse .revoked (s.notify .revokedPresented none (some serial)) := by
  simp only [settle, hp, hf, hst, if_true]

theorem settle_of_staff (hp : parseNumber 4 r.body = some serial) (hf : s.findSerial serial = .ok (slot, b))
    (hst : b.state ≠ .revoked) (hk : b.kind = .staff) : settle r s = refuse .clearStaff s := by
  simp only [settle, hp, hf, if_neg hst, hk, State.refuse_eq]

variable {a : Account}

/-- A CLEARED visitor is CLEAR again: its figures show what was paid and nothing charged. -/
theorem settle_of_cleared {since : Nat} (hp : parseNumber 4 r.body = some serial)
    (hf : s.findSerial serial = .ok (slot, b)) (hk : b.kind = .visitor a) (hst : b.state = .cleared since) :
    settle r s =
      ({ code := .clear,
         data := Figures.bytes { elapsed := 0, steps := 0, gross := 0, paid := a.paidCents, due := 0 } }, s) := by
  simp [settle, hp, hf, hk, hst]

theorem settle_of_holdings {c : ResultCode} (hp : parseNumber 4 r.body = some serial)
    (hf : s.findSerial serial = .ok (slot, b)) (hk : b.kind = .visitor a)
    (hst : b.state = .active ∨ ∃ cents, b.state = .owing cents) (hh : b.holdings = some c) :
    settle r s = refuse c s := by
  obtain hst | ⟨cents, hst⟩ := hst <;> simp [settle, hp, hf, hk, hst, hh]

theorem settle_of_free (hp : parseNumber 4 r.body = some serial) (hf : s.findSerial serial = .ok (slot, b))
    (hk : b.kind = .visitor a) (hst : b.state = .active ∨ ∃ cents, b.state = .owing cents) (hh : b.holdings = none) :
    settle r s =
      settleWith slot b (charge s.now b.entry a (s.tariffClass a.tariff) s.settings.windows.grace) s := by
  obtain hst | ⟨cents, hst⟩ := hst <;> simp [settle, hp, hf, hk, hst, hh]

end Records

/-- The answer and the record turn on whether anything is due (R96, R97). -/
theorem settleWith_eq (slot : Nat) (b : Band) (f : Figures) (s : State) :
    settleWith slot b f s =
      ({ code := if f.due = 0 then .clear else .owes, data := f.bytes },
        s.setBand slot (some { b with state := if f.due = 0 then .cleared s.now else .owing f.due })) := by
  by_cases h : f.due = 0 <;> simp [settleWith, h]

/-- Settles O26: the steps begun are those of the charge that `settle` computes. -/
theorem settleComputesTheCharge : Obligations.SettleComputesTheCharge := by
  unfold Obligations.SettleComputesTheCharge
  intro p r serial slot b a s hg hp hf hk hst hc hm hl
  refine ⟨stepsBegun (elapsed s.now b.entry) (a.paidMinutes * 60) s.settings.windows.grace (s.tariffClass a.tariff).step,
    stepsBegun_of_le _, stepsBegun_bounds, ?_⟩
  have hfound : (s.granted (.port p)).findSerial serial = .ok (slot, b) := hf
  have hfree := Band.holdings_of_free hc hm hl
  exact exec_settle_granted hg ((settle_of_free hp hfound hk hst hfree).trans (settleWith_eq slot b _ _))

/-- Settles O27: the records in the order of R94, and the holdings in that of R95. -/
theorem settleDisposesByStateAndHoldings : Obligations.SettleDisposesByStateAndHoldings := by
  unfold Obligations.SettleDisposesByStateAndHoldings
  refine ⟨fun p r serial c s hg hp hf => exec_settle_granted hg (settle_of_unfound hp hf), ?_⟩
  intro p r serial slot b s hg hp hf refusal
  refine ⟨fun hst => exec_settle_granted hg (settle_of_revoked hp hf hst),
    fun hst hk => exec_settle_granted hg (settle_of_staff hp hf hst hk),
    fun a since hk hst => exec_settle_granted hg (settle_of_cleared hp hf hk hst), fun a hk hst => ?_⟩
  have held {c : ResultCode} (hh : b.holdings = some c) : refusal c :=
    exec_settle_granted hg (settle_of_holdings hp hf hk hst hh)
  exact ⟨fun hc => held (Band.holdings_of_cabin hc), fun hc hm => held (Band.holdings_of_members hc hm),
    fun hc hm hl => held (Band.holdings_of_lockers hc hm hl)⟩

end Sys2Proof.Machine
end

section
/-! PROOFS. What a handling of the binding engine may write, and what it leaves alone: one relation between the state before
and after, kept by every shared operation, so that a proof about all commands need not open them one by one. -/

namespace Sys2Proof.Machine

namespace State

/-! ### The relation -/

/-- The part of the state that a handling of the binding engine leaves alone: what it may write is blanked. -/
def beyondHandling (s : State) : State :=
  { s with
    settings := Settings.factory, engine := Engine.reset, watches := State.reset.watches, undo := [],
    notices.raised := [], field.modules := FieldEngine.reset.modules, field.queue := [], field.handover := [],
    field.waitingHeld := false, field.exchange := s.field.exchange.map fun x => { x with renewed := [] } }

/-- The later state differs in what a handling may write only: of what is remembered to be undone some may be dropped, and at
most `n` commands join the queue. -/
structure Writes (n : Nat) (s t : State) : Prop where
  frame : t.beyondHandling = s.beyondHandling
  undo : t.undo.Sublist s.undo
  queue : t.field.queue.length ≤ s.field.queue.length + n

namespace Writes

variable {s t u : State} {m n : Nat}

theorem refl (s : State) : Writes 0 s s := ⟨rfl, List.Sublist.refl _, Nat.le_refl _⟩

theorem trans (h : Writes m s t) (k : Writes n t u) : Writes (m + n) s u :=
  ⟨k.frame.trans h.frame, k.undo.trans h.undo, by have := h.queue; have := k.queue; omega⟩

/-- After operations that queue nothing. -/
theorem before (h : Writes 0 s t) (k : Writes n t u) : Writes n s u := Nat.zero_add n ▸ h.trans k

/-- Followed by operations that queue nothing. -/
theorem next (h : Writes n s t) (k : Writes 0 t u) : Writes n s u := h.trans k

theorem mono (h : Writes m s t) (hmn : m ≤ n) : Writes n s t := ⟨h.frame, h.undo, by have := h.queue; omega⟩

/-- An operation that touches neither the queue nor what is remembered. -/
theorem of_frame (hf : t.beyondHandling = s.beyondHandling) (hu : t.undo = s.undo) (hq : t.field.queue = s.field.queue) :
    Writes 0 s t := ⟨hf, hu ▸ List.Sublist.refl _, by rw [hq]; exact Nat.le_refl _⟩

theorem supply (h : Writes n s t) : t.supply = s.supply := by
  have e := congrArg State.supply h.frame
  exact e

/-- A fold of operations that queue nothing. -/
theorem foldl {α : Type} (f : State → α → State) (h : ∀ s a, Writes 0 s (f s a)) (l : List α) (s : State) :
    Writes 0 s (l.foldl f s) := by
  induction l generalizing s with
  | nil => exact refl s
  | cons a l ih => exact (h s a).next (ih (f s a))

end Writes

/-! ### The operations that queue nothing -/

variable (s : State)

theorem writes_setBand (k : Nat) (b : Option Band) : Writes 0 s (s.setBand k b) := by
  unfold setBand
  split <;> exact .of_frame rfl rfl rfl

theorem writes_updBand (k : Nat) (f : Band → Band) : Writes 0 s (s.updBand k f) := by
  unfold updBand
  split
  · exact s.writes_setBand k _
  · exact .refl s

theorem writes_mapSerial (n k : Nat) : Writes 0 s (s.mapSerial n k) := .of_frame rfl rfl rfl

theorem writes_unmapSerial (n : Nat) : Writes 0 s (s.unmapSerial n) := .of_frame rfl rfl rfl

theorem writes_setLocker (n : Nat) (l : Locker) : Writes 0 s (s.setLocker n l) := by
  unfold setLocker
  split <;> exact .of_frame rfl rfl rfl

theorem writes_setCabin (c : Nat) (r : Cabin) : Writes 0 s (s.setCabin c r) := by
  unfold setCabin
  split <;> exact .of_frame rfl rfl rfl

theorem writes_setModule (a : Nat) (m : Module) : Writes 0 s (s.setModule a m) := by
  unfold setModule
  split <;> exact .of_frame rfl rfl rfl

theorem writes_setZoneUsed (z : Nat) (u : Bool) : Writes 0 s (s.setZoneUsed z u) := .of_frame rfl rfl rfl

theorem writes_notify (k : NoticeKind) (p : Option Place) (n : Option Nat) : Writes 0 s (s.notify k p n) :=
  .of_frame rfl rfl rfl

theorem writes_granted (r : Requester) : Writes 0 s (s.granted r) := .of_frame rfl rfl rfl

theorem writes_supersede (b : Before) : Writes 0 s (s.supersede b) :=
  ⟨rfl, List.filter_sublist, Nat.le_refl _⟩

theorem writes_emptySlot (k : Nat) : Writes 0 s (s.emptySlot k) := by
  unfold emptySlot
  split
  · exact .refl s
  · rename_i b _
    have left : ∀ o : Option Nat, Writes 0 s
        (match o with
          | some l => s.updBand l (Band.dropMember k)
          | none => s) := by
      rintro (_ | l)
      · exact .refl s
      · exact s.writes_updBand l _
    exact ((left b.leaderSlot).next (writes_setBand _ k none)).next (writes_unmapSerial _ _)

theorem writes_tearDown (k : Nat) (b : Band) : Writes 0 s (s.tearDown k b).1 := .foldl _ writes_emptySlot _ s

theorem writes_bindLocker (n h : Nat) : Writes 0 s (s.bindLocker n h) :=
  (s.writes_setLocker n _).next (writes_updBand _ h _)

theorem writes_unbindLocker (n : Nat) : Writes 0 s (s.unbindLocker n) := by
  unfold unbindLocker
  dsimp only
  split
  · exact s.writes_setLocker n _
  · exact (s.writes_setLocker n _).next (writes_updBand _ _ _)

theorem writes_enterLocker (n : Nat) (st : LockerState) : Writes 0 s (s.enterLocker n st) := s.writes_setLocker n _

theorem writes_useZone (n : Nat) : Writes 0 s (s.useZone n) := by
  unfold useZone
  split
  · exact s.writes_setZoneUsed _ _
  · exact .refl s

theorem writes_reserve (n h : Nat) : Writes 0 s (s.reserve n h) :=
  ((s.writes_bindLocker n h).next (writes_setLocker _ n _)).next (writes_useZone _ n)

theorem writes_occupy (c k : Nat) : Writes 0 s (s.occupy c k) := (s.writes_setCabin c _).next (writes_updBand _ k _)

theorem writes_clearOccupant (c : Nat) : Writes 0 s (s.clearOccupant c) := by
  unfold clearOccupant
  dsimp only
  split
  · exact .refl s
  · exact (s.writes_setCabin c _).next (writes_updBand _ _ _)

theorem writes_vacate (c : Nat) : Writes 0 s (s.vacate c) := (s.writes_clearOccupant c).next (writes_setCabin _ c _)

theorem writes_updPosition (a i : Nat) (f : Position → Position) : Writes 0 s (s.updPosition a i f) :=
  s.writes_setModule a _

theorem writes_waitingHeld (w : Bool) : Writes 0 s { s with field.waitingHeld := w } := .of_frame rfl rfl rfl

theorem writes_meetHead : Writes 0 s s.meetHead := by
  unfold meetHead
  split
  · exact (s.writes_updPosition _ _ _).next (writes_waitingHeld _ _)
  · exact (s.writes_updPosition _ _ _).next (writes_waitingHeld _ _)
  · exact (s.writes_updPosition _ _ _).next (writes_waitingHeld _ _)
  · exact s.writes_waitingHeld _
  · exact s.writes_waitingHeld _

theorem writes_handover (l : List HandItem) : Writes 0 s { s with field.handover := l } := .of_frame rfl rfl rfl

theorem writes_handOver (items : List HandItem) : Writes 0 s (s.handOver items) := by
  unfold handOver
  dsimp only
  split
  · exact (s.writes_handover _).next (writes_meetHead _)
  · exact s.writes_handover _

theorem writes_popHead : Writes 0 s s.popHead := (s.writes_handover _).next (writes_meetHead _)

theorem writes_indicate (a i : Nat) (ind : Indication) : Writes 0 s (s.indicate a i ind) := by
  have hm := s.writes_updPosition a i fun q => { q with shown := some ind }
  have hx : (s.updPosition a i fun q => { q with shown := some ind }).field.exchange = s.field.exchange := by
    unfold updPosition setModule
    split <;> rfl
  unfold indicate
  dsimp only
  split
  · rename_i x hs
    split
    · refine hm.next (.of_frame ?_ rfl rfl)
      unfold beyondHandling
      rw [hx, hs]
      rfl
    · exact hm
  · exact hm

theorem writes_holdOnForce (a : Nat) : Writes 0 s (s.holdOnForce a) := by
  unfold holdOnForce
  split
  · exact (s.writes_setModule a _).next (writes_supersede _ _)
  · exact .refl s

theorem writes_forceLocker (n : Nat) : Writes 0 s (s.forceLocker n) :=
  ((s.writes_enterLocker n _).next (writes_notify _ _ _ _)).next (writes_holdOnForce _ _)

theorem writes_forceCabin (c : Nat) : Writes 0 s (s.forceCabin c) :=
  ((s.writes_vacate c).next (writes_notify _ _ _ _)).next (writes_holdOnForce _ _)

theorem writes_matchSlot (p : Place) (e : WatchEvent) (n : Option Nat) (i : Nat) : Writes 0 s (matchSlot p e n s i) := by
  unfold matchSlot
  dsimp only
  split
  · exact .of_frame rfl rfl rfl
  · exact .refl s

theorem writes_watchEvent (p : Place) (e : WatchEvent) (n : Option Nat) : Writes 0 s (s.watchEvent p e n) :=
  .foldl _ (fun s i => s.writes_matchSlot p e n i) _ s

theorem writes_lockerFields (n : Nat) (a : Action) (r : CommandResult) : Writes 0 s (s.lockerFields n a r) :=
  s.writes_setLocker n _

theorem writes_cabinFields (c : Nat) (a : Action) (r : CommandResult) : Writes 0 s (s.cabinFields c a r) :=
  s.writes_setCabin c _

theorem writes_failEntries (a : Nat) : Writes 0 s (s.failEntries a) := by
  have hq : Writes 0 s { s with field.queue := s.field.queue.filter fun c => c.addr != a } :=
    ⟨rfl, List.Sublist.refl _, List.length_filter_le _ _⟩
  exact hq.next (writes_handOver _ _)

/-! ### The operations that queue a command -/

theorem writes_queueCommand (a i : Nat) (act : Action) : Writes 1 s (s.queueCommand a i act) := by
  unfold queueCommand
  dsimp only
  split
  · exact (s.writes_handOver _).mono (Nat.zero_le 1)
  · exact ⟨rfl, List.Sublist.refl _, by simp⟩

theorem writes_latchLocker (n : Nat) (fresh : Bool) : Writes 1 s (s.latchLocker n fresh) :=
  (s.writes_setLocker n _).before (writes_queueCommand _ _ _ _)

theorem writes_unlatchLocker (n : Nat) (m r : Bool) : Writes 1 s (s.unlatchLocker n m r) :=
  (s.writes_setLocker n _).before (writes_queueCommand _ _ _ _)

theorem writes_queueCabin (c : Nat) (a : Action) : Writes 1 s (s.queueCabin c a) :=
  (s.writes_setCabin c _).before (writes_queueCommand _ _ _ _)

theorem writes_unlatchCabin (c : Nat) : Writes 1 s (s.unlatchCabin c) :=
  (s.writes_setCabin c _).before (writes_queueCabin _ _ _)

theorem writes_enterCabin (c k : Nat) : Writes 1 s (s.enterCabin c k) :=
  ((s.writes_occupy c k).next (writes_setCabin _ c _)).before (writes_queueCabin _ _ _)

theorem writes_bindFresh (n h : Nat) : Writes 1 s (s.bindFresh n h) :=
  ((s.writes_bindLocker n h).next (writes_useZone _ n)).before (writes_latchLocker _ n true)

theorem writes_masterOpen (n : Nat) (r : Bool) (b : Band) : Writes 1 s (masterOpen n r b s) :=
  (s.writes_unlatchLocker n true r).next (writes_notify _ _ _ _)

end State

end Sys2Proof.Machine
end

section
/-! PROOFS. Every handling of the binding engine, an item's, a request's or the sweep's, writes no more than a handling may, and
queues a command only where the queue has room. -/

namespace Sys2Proof.Machine

namespace State

/-! ### A whole handling -/

/-- What every handling leaves alone, SET_CLOCK's too. -/
def beyondClock (s : State) : State := { s.beyondHandling with supply.clock := 0, supply.clockValid := false }

/-- The later state is the earlier one after a handling: it differs in what a handling may write, the clock stays in its range, and
the command queue in its bound. -/
structure Handling (s t : State) : Prop where
  frame : t.beyondClock = s.beyondClock
  undo : t.undo.Sublist s.undo
  clock : s.supply.clock < Config.day → t.supply.clock < Config.day
  queue : s.CommandQueueBounded → t.CommandQueueBounded

theorem queueFull_eq_false_iff (s : State) : s.queueFull = false ↔ s.field.queue.length < Config.queueCapacity := by
  simp [queueFull]

namespace Handling

variable {s t u : State}

theorem of_writes (h : Writes 0 s t) : Handling s t where
  frame := congrArg (fun r : State => { r with supply.clock := 0, supply.clockValid := false }) h.frame
  undo := h.undo
  clock := by rw [h.supply]; exact id
  queue hs := h.queue.trans hs

/-- One command queued where the queue has room. -/
theorem of_room (h : Writes 1 s t) (hroom : s.queueFull = false) : Handling s t where
  frame := congrArg (fun r : State => { r with supply.clock := 0, supply.clockValid := false }) h.frame
  undo := h.undo
  clock := by rw [h.supply]; exact id
  queue _ := h.queue.trans ((queueFull_eq_false_iff s).1 hroom)

theorem refl (s : State) : Handling s s := of_writes (.refl s)

theorem trans (h : Handling s t) (k : Handling t u) : Handling s u :=
  ⟨k.frame.trans h.frame, k.undo.trans h.undo, k.clock ∘ h.clock, k.queue ∘ h.queue⟩

theorem next (h : Handling s t) (k : Writes 0 t u) : Handling s u := h.trans (of_writes k)

/-- One of two handlings, by a test. -/
theorem ite {p : Prop} [Decidable p] (ht : p → Handling s t) (hu : ¬p → Handling s u) : Handling s (if p then t else u) := by
  split
  · exact ht ‹_›
  · exact hu ‹_›

/-- A handling that needs room in the queue: where it is full, another. -/
theorem ite_full (hfull : Writes 0 s t) (hroom : Writes 1 s u) : Handling s (if s.queueFull = true then t else u) :=
  ite (fun _ => of_writes hfull) fun h => of_room hroom (Bool.eq_false_iff.2 h)

theorem foldl {α : Type} (f : State → α → State) (h : ∀ s a, Handling s (f s a)) (l : List α) (s : State) :
    Handling s (l.foldl f s) := by
  induction l generalizing s with
  | nil => exact refl s
  | cons a l ih => exact (h s a).trans (ih (f s a))

end Handling

variable (s : State)

/-! ### Presentations -/

theorem handling_ifRoom (f : State → State) (h : Writes 1 s (f s)) : Handling s (s.ifRoom f).1 := by
  unfold ifRoom
  split
  · exact .refl s
  · exact .of_room h (Bool.eq_false_iff.2 ‹_›)

theorem handling_presentFree (n k : Nat) (b : Band) : Handling s (s.presentFree n k b).1 := by
  unfold presentFree
  iterate 6
    split
    · exact .refl s
  exact s.handling_ifRoom _ (s.writes_bindFresh n _)

theorem handling_presentLocker (n k : Nat) (b : Band) : Handling s (s.presentLocker n k b).1 := by
  have latches : Handling s (s.ifRoom fun t => t.latchLocker n false).1 :=
    s.handling_ifRoom _ (s.writes_latchLocker n false)
  have opens : Handling s (s.ifRoom fun t => t.unlatchLocker n false false).1 :=
    s.handling_ifRoom _ (s.writes_unlatchLocker n false false)
  have master (release : Bool) : Handling s (s.ifRoom (masterOpen n release b)).1 :=
    s.handling_ifRoom _ (s.writes_masterOpen n release b)
  unfold presentLocker
  dsimp only
  split
  case h_1 => exact s.handling_presentFree n k b
  case h_4 =>
    split
    · split
      · exact .refl s
      · exact latches
    · exact .refl s
  case h_5 =>
    split
    · exact opens
    · exact master false
    · exact .refl s
  case h_10 =>
    split
    · exact .refl s
    · exact master _
    · exact .refl s
  case h_11 =>
    split
    · exact master true
    · exact .refl s
  all_goals
    first
    | exact .refl s
    | split
      · first | exact latches | exact .refl s
      · exact .refl s

theorem handling_presentCabin (c k : Nat) (b : Band) : Handling s (s.presentCabin c k b).1 := by
  have enters : Handling s (s.presentVacant c k b).1 := by
    unfold presentVacant
    iterate 4
      split
      · exact .refl s
    exact s.handling_ifRoom _ (s.writes_enterCabin c k)
  unfold presentCabin
  dsimp only
  split
  case h_1 =>
    split
    · exact enters
    · exact .refl s
  case h_2 =>
    split
    · exact s.handling_ifRoom _ (s.writes_unlatchCabin c)
    · exact .refl s
  all_goals exact .refl s

theorem handling_decidePresentation (p : Place) (n : Nat) : Handling s (s.decidePresentation p n).1 := by
  unfold decidePresentation
  split
  · exact .of_writes (s.writes_notify _ _ _)
  · rename_i k b _
    have seen := Handling.of_writes (s.writes_updBand k fun r => { r with lastPlace := some { place := p, time := s.now } })
    dsimp only
    split
    · exact seen.next (writes_notify _ _ _ _)
    · split
      · exact seen
      · refine seen.trans ?_
        cases p with
        | locker n => exact handling_presentLocker _ n k b
        | cabin c => exact handling_presentCabin _ c k b
        | station a => exact .refl _

theorem handling_presentation (a i n : Nat) : Handling s (presentation a i n s) := by
  have told := ((s.handling_decidePresentation (placeAt a i) n).next
    (writes_indicate _ a i (s.decidePresentation (placeAt a i) n).2)).next (writes_watchEvent _ (placeAt a i) .presented (some n))
  unfold presentation
  dsimp only
  split
  · exact told.next (writes_watchEvent _ _ _ _)
  · exact told

/-! ### Door and handle events -/

theorem writes_lockerDoorOpen (n : Nat) : Writes 0 s (s.lockerDoorOpen n) := by
  have h := s.writes_setLocker n { s.locker n with door := .opened }
  unfold lockerDoorOpen
  dsimp only
  split
  · exact h.next (writes_enterLocker _ _ _)
  · exact h.next (writes_enterLocker _ _ _)
  · exact h.next (writes_forceLocker _ _)
  · exact h.next (writes_forceLocker _ _)
  · exact h

theorem writes_lockerDoorClosed (n : Nat) : Writes 0 s (s.lockerDoorClosed n) := by
  have h := s.writes_setLocker n { s.locker n with door := .closed }
  unfold lockerDoorClosed
  dsimp only
  split
  · exact h.next (writes_enterLocker _ _ _)
  · exact h

theorem writes_cabinDoorOpen (c : Nat) : Writes 0 s (s.cabinDoorOpen c) := by
  have h := s.writes_setCabin c { s.cabin c with door := .opened }
  unfold cabinDoorOpen
  dsimp only
  split
  · exact h.next (writes_forceCabin _ _)
  · exact h

theorem writes_cabinHandle (c : Nat) : Writes 0 s (s.cabinHandle c) := by
  have h := s.writes_setCabin c { s.cabin c with latch := .free }
  unfold cabinHandle
  dsimp only
  split
  · exact h.next (writes_vacate _ _)
  · exact h.next (writes_vacate _ _)
  · exact h.next (writes_vacate _ _)
  · exact h

theorem writes_doorOpenAt (p : Place) : Writes 0 s (doorOpenAt p s) := by
  cases p with
  | locker n => exact (s.writes_lockerDoorOpen n).next (writes_watchEvent _ _ _ _)
  | cabin c => exact (s.writes_cabinDoorOpen c).next (writes_watchEvent _ _ _ _)
  | station a => exact s.writes_watchEvent _ _ _

theorem writes_doorClosedAt (p : Place) : Writes 0 s (doorClosedAt p s) := by
  cases p with
  | locker n => exact s.writes_lockerDoorClosed n
  | cabin c => exact s.writes_setCabin c _
  | station a => exact .refl s

theorem writes_handleAt (p : Place) : Writes 0 s (handleAt p s) := by
  cases p with
  | cabin c => exact s.writes_cabinHandle c
  | locker n => exact .refl s
  | station a => exact .refl s

/-! ### Command outcomes -/

theorem writes_lockerLatchDone (n : Nat) : Writes 0 s (s.lockerLatchDone n) := by
  have h := s.writes_lockerFields n .latch .done
  unfold lockerLatchDone
  dsimp only
  split
  · exact h.next (writes_enterLocker _ _ _)
  · exact h

theorem writes_lockerLatchDoorOpen (n : Nat) : Writes 0 s (s.lockerLatchDoorOpen n) := by
  have h := s.writes_lockerFields n .latch .doorOpen
  unfold lockerLatchDoorOpen
  dsimp only
  split
  · split
    · exact (h.next (writes_unbindLocker _ _)).next (writes_enterLocker _ _ _)
    · split
      · exact h.next (writes_setLocker _ _ _)
      · split
        · exact h.next (writes_enterLocker _ _ _)
        · exact h.next (writes_enterLocker _ _ _)
  · exact h

theorem writes_lockerLatchFails (r : CommandResult) (n : Nat) : Writes 0 s (s.lockerLatchFails r n) := by
  have h := s.writes_lockerFields n .latch r
  unfold lockerLatchFails
  dsimp only
  split
  · exact (h.next (writes_enterLocker _ _ _)).next (writes_notify _ _ _ _)
  · exact h

theorem writes_lockerUnlatchDone (n : Nat) : Writes 0 s (s.lockerUnlatchDone n) := by
  have h := s.writes_lockerFields n .unlatch .done
  unfold lockerUnlatchDone
  dsimp only
  split
  · split
    · exact (h.next (writes_unbindLocker _ _)).next (writes_enterLocker _ _ _)
    · split
      · exact h.next (writes_enterLocker _ _ _)
      · exact h.next (writes_enterLocker _ _ _)
  · exact h

theorem writes_lockerUnlatchFails (r : CommandResult) (n : Nat) : Writes 0 s (s.lockerUnlatchFails r n) := by
  have h := s.writes_lockerFields n .unlatch r
  unfold lockerUnlatchFails
  dsimp only
  split
  · have faulted (l : Locker) := (h.next (writes_setLocker _ n l)).next (writes_notify _ .lockerFault (some (.locker n))
      ((s.lockerFields n .unlatch r).holderSerial n))
    split
    · exact (faulted _).next (writes_forceLocker _ _)
    · exact (faulted _).next (writes_enterLocker _ _ _)
  · exact h

theorem handling_correctLatch (c : Nat) : Handling s (s.correctLatch c) :=
  .ite_full (s.writes_notify _ _ _) (s.writes_unlatchCabin c)

theorem handling_cabinLatchDone (c : Nat) : Handling s (s.cabinLatchDone c) := by
  have h := Handling.of_writes (s.writes_cabinFields c .latch .done)
  unfold cabinLatchDone
  dsimp only
  split
  · exact h.next (writes_setCabin _ _ _)
  · exact h.trans (handling_correctLatch _ _)
  · exact h

theorem writes_cabinLatchDoorOpen (c : Nat) : Writes 0 s (s.cabinLatchDoorOpen c) := by
  have h := s.writes_cabinFields c .latch .doorOpen
  unfold cabinLatchDoorOpen
  dsimp only
  split
  · exact h.next (writes_vacate _ _)
  · exact h

theorem writes_cabinLatchFails (r : CommandResult) (c : Nat) : Writes 0 s (s.cabinLatchFails r c) := by
  have h := s.writes_cabinFields c .latch r
  unfold cabinLatchFails
  dsimp only
  split
  · exact (h.next (writes_vacate _ _)).next (writes_notify _ _ _ _)
  · exact h
  · exact h.next (writes_notify _ _ _ _)

theorem writes_cabinUnlatchDone (c : Nat) : Writes 0 s (s.cabinUnlatchDone c) := by
  have h := s.writes_cabinFields c .unlatch .done
  unfold cabinUnlatchDone
  dsimp only
  split
  · exact h.next (writes_vacate _ _)
  · exact h

theorem writes_cabinUnlatchFails (r : CommandResult) (c : Nat) : Writes 0 s (s.cabinUnlatchFails r c) := by
  have h := s.writes_cabinFields c .unlatch r
  unfold cabinUnlatchFails
  dsimp only
  split
  · split
    · exact (h.next (writes_setCabin _ _ _)).next (writes_notify _ _ _ _)
    · exact (h.next (writes_vacate _ _)).next (writes_notify _ _ _ _)
  · exact h

theorem handling_latchDoneAt (p : Place) : Handling s (latchDoneAt p s) := by
  cases p with
  | locker n => exact .of_writes ((s.writes_lockerLatchDone n).next (writes_watchEvent _ _ _ _))
  | cabin c => exact (s.handling_cabinLatchDone c).next (writes_watchEvent _ _ _ _)
  | station a => exact .of_writes (s.writes_watchEvent _ _ _)

theorem writes_latchDoorOpenAt (p : Place) : Writes 0 s (latchDoorOpenAt p s) := by
  cases p with
  | locker n => exact s.writes_lockerLatchDoorOpen n
  | cabin c => exact s.writes_cabinLatchDoorOpen c
  | station a => exact .refl s

theorem writes_latchFailsAt (r : CommandResult) (p : Place) : Writes 0 s (latchFailsAt r p s) := by
  cases p with
  | locker n => exact s.writes_lockerLatchFails r n
  | cabin c => exact s.writes_cabinLatchFails r c
  | station a => exact .refl s

theorem writes_unlatchDoneAt (p : Place) : Writes 0 s (unlatchDoneAt p s) := by
  cases p with
  | locker n => exact (s.writes_lockerUnlatchDone n).next (writes_watchEvent _ _ _ _)
  | cabin c => exact (s.writes_cabinUnlatchDone c).next (writes_watchEvent _ _ _ _)
  | station a => exact s.writes_watchEvent _ _ _

theorem writes_unlatchFailsAt (r : CommandResult) (p : Place) : Writes 0 s (unlatchFailsAt r p s) := by
  cases p with
  | locker n => exact s.writes_lockerUnlatchFails r n
  | cabin c => exact s.writes_cabinUnlatchFails r c
  | station a => exact .refl s

/-! ### Reports -/

theorem writes_faultLocker (n : Nat) : Writes 0 s (s.faultLocker n) :=
  (s.writes_enterLocker n _).next (writes_notify _ _ _ _)

theorem handling_freeEngaged (n : Nat) (cold : Bool) : Handling s (s.freeEngaged n cold) :=
  .ite (fun _ => .of_writes ((s.writes_enterLocker n _).next (writes_notify _ _ _ _)))
    fun _ => .ite_full ((s.writes_enterLocker n _).next (writes_notify _ _ _ _)) (s.writes_unlatchLocker n false true)

theorem handling_settledLocker (n : Nat) (r : Reading) (cold : Bool) : Handling s (s.settledLocker n r cold) := by
  have stays := Handling.refl s
  have enters (st : LockerState) := Handling.of_writes (s.writes_enterLocker n st)
  have faults := Handling.of_writes (s.writes_faultLocker n)
  have forces := Handling.of_writes (s.writes_forceLocker n)
  have shut {t : State} (ht : Handling s t) :
      Handling s (if r.engaged then if r.doorOpen then s.faultLocker n else s.enterLocker n .locked else t) :=
    .ite (fun _ => .ite (fun _ => faults) fun _ => enters _) fun _ => ht
  unfold settledLocker
  split
  · exact .ite (fun _ => faults) fun _ => .ite (fun _ => forces) fun _ => stays
  · exact .ite (fun _ => enters _) fun _ => .ite (fun _ => forces) fun _ => stays
  · exact .ite (fun _ => s.handling_freeEngaged n cold) fun _ => stays
  · exact .ite (fun _ => .ite_full (s.writes_notify _ _ _) (s.writes_unlatchLocker n false true)) fun _ => stays
  · exact shut stays
  · exact shut (.ite (fun _ => enters _) fun _ => stays)
  · exact shut (.ite (fun _ => stays) fun _ => enters _)
  · exact shut (.ite (fun _ => enters _) fun _ => stays)
  all_goals exact stays

theorem writes_lostLatch (n : Nat) (r : Reading) : Writes 0 s (s.lostLatch n r) := by
  unfold lostLatch
  dsimp only
  split
  · exact s.writes_enterLocker n _
  · split
    · exact s.writes_setLocker n _
    · split
      · exact s.writes_enterLocker n _
      · exact s.writes_setLocker n _

theorem handling_lostUnlatch (n : Nat) (r : Reading) : Handling s (s.lostUnlatch n r) := by
  have resumes : Handling s (s.resumeRelease n) :=
    .ite_full ((s.writes_enterLocker n _).next (writes_notify _ _ _ _)) (s.writes_queueCommand _ _ _)
  have enters (st : LockerState) := Handling.of_writes (s.writes_enterLocker n st)
  unfold lostUnlatch
  dsimp only
  split
  · split
    · exact resumes
    · exact .of_writes ((s.writes_unbindLocker n).next (writes_setLocker _ _ _))
  · split
    · exact enters _
    · split
      · exact enters _
      · exact enters _

theorem handling_reconcileLocker (n : Nat) (r : Reading) (cold marked : Bool) :
    Handling s (s.reconcileLocker n r cold marked) := by
  have h := Handling.of_writes (s.writes_setLocker n { s.locker n with door := r.door, latch := r.latch })
  unfold reconcileLocker
  dsimp only
  split
  · exact .ite (fun _ => h) fun _ => h.next (writes_lostLatch _ _ _)
  · exact .ite (fun _ => h) fun _ => h.trans (handling_lostUnlatch _ _ _)
  · exact h.trans (handling_settledLocker _ _ _ _)

theorem handling_freeCabin (c : Nat) : Handling s (s.freeCabin c) := by
  refine .ite_full ?_ (s.writes_unlatchCabin c)
  split
  · exact s.writes_notify _ _ _
  · exact (s.writes_vacate c).next (writes_notify _ _ _ _)

theorem handling_reconcileCabin (c : Nat) (r : Reading) : Handling s (s.reconcileCabin c r) := by
  have h := Handling.of_writes (s.writes_setCabin c { s.cabin c with door := r.door, latch := r.latch })
  have vacates := h.next (writes_vacate _ c)
  unfold reconcileCabin
  dsimp only
  split
  · exact .ite (fun _ => vacates.next (writes_notify _ _ _ _))
      fun _ => .ite (fun _ => h.next (writes_forceCabin _ _)) fun _ => h
  · exact .ite (fun _ => h) fun _ => .ite (fun _ => h.next (writes_setCabin _ _ _)) fun _ => vacates
  · exact .ite (fun _ => h) fun _ => .ite (fun _ => vacates)
      fun _ => .ite (fun _ => h.next (writes_setCabin _ _ _)) fun _ => h.trans (handling_freeCabin _ _)
  · exact .ite (fun _ => h.trans (handling_freeCabin _ _)) fun _ => h
  · exact h
  · exact h

theorem handling_reconcileAt (base : State) (a : Nat) (cold : Bool) (e : Reading × Nat) :
    Handling s (reconcileAt base a cold s e) := by
  unfold reconcileAt
  split
  · exact s.handling_reconcileLocker _ _ _ _
  · exact s.handling_reconcileCabin _ _
  · exact .refl s

theorem handling_reconcile (a : Nat) (readings : List Reading) (cold : Bool) : Handling s (reconcile a readings cold s) :=
  (Handling.foldl _ (fun t e => t.handling_reconcileAt s a cold e) _ s).next (writes_setModule _ _ _)

/-! ### The sweep -/

theorem handling_sweepLocker (n : Nat) : Handling s (s.sweepLocker n) := by
  have relatches : Handling s (s.relatch n) := .ite_full (.refl s) (s.writes_latchLocker n false)
  have frees := Handling.of_writes ((s.writes_unbindLocker n).next (writes_enterLocker _ n .free))
  unfold sweepLocker
  dsimp only
  split
  · exact .ite (fun _ => relatches) fun _ => .refl s
  · exact .ite (fun _ => .ite (fun _ => relatches) fun _ => frees) fun _ => .refl s
  · exact .ite (fun _ => frees.next (writes_notify _ _ _ _)) fun _ => .refl s
  · exact .refl s

theorem writes_sweepCabin (c : Nat) : Writes 0 s (s.sweepCabin c) := by
  have first : Writes 0 s (s.overholdFirst c) := by
    unfold overholdFirst
    dsimp only
    split
    · exact (s.writes_setCabin c _).next (writes_notify _ _ _ _)
    · exact .refl s
  have second (t : State) : Writes 0 t (t.overholdSecond c) := by
    unfold overholdSecond
    dsimp only
    split
    · exact (t.writes_setCabin c _).next (writes_notify _ _ _ _)
    · exact .refl t
  unfold sweepCabin
  split
  · exact first.next (second _)
  · exact .refl s

theorem writes_checkLongStay (k : Nat) : Writes 0 s (s.checkLongStay k) := by
  unfold checkLongStay
  split
  · exact .refl s
  · split
    · exact .refl s
    · split
      · exact .refl s
      · exact (s.writes_setBand k _).next (writes_notify _ _ _ _)

theorem writes_sweepSlot (k : Nat) : Writes 0 s (s.sweepSlot k) := by
  unfold sweepSlot
  split
  · exact .refl s
  · split
    · exact .refl s
    · exact .refl s
    · split
      · exact ((s.writes_setBand k _).next (writes_notify _ _ _ _)).next (writes_checkLongStay _ k)
      · exact .refl s
    · exact s.writes_checkLongStay k

theorem handling_sweepAct : Handling s s.sweepAct := by
  unfold sweepAct
  split
  · exact s.handling_sweepLocker _
  · exact .of_writes (s.writes_sweepCabin _)
  · exact .of_writes (s.writes_sweepSlot _)

end State

end Sys2Proof.Machine
end

section
/-! PROOFS. The requests that pass the arbiter: each handler is a handling. -/

namespace Sys2Proof.Machine

namespace State

variable (s : State) (r : Request)

/-! ### Bands and settlement -/

theorem writes_createBand (q : IssueRequest) (k : Nat) (l : Option Nat) : Writes 0 s (s.createBand q k l) := by
  have h := (s.writes_setBand k (some (q.band s l))).next (writes_mapSerial _ q.serial k)
  cases l with
  | none => exact h
  | some l => exact h.next (writes_updBand _ l _)

theorem handling_issueBand : Handling s (issueBand r s).2 := by
  unfold issueBand
  iterate 8
    split
    · exact .refl s
  refine .of_writes ?_
  dsimp only [accept]
  split
  · exact s.writes_createBand _ _ _
  · exact (s.writes_createBand _ _ _).next (writes_reserve _ _ _)

theorem handling_addTime : Handling s (addTime r s).2 := by
  unfold addTime
  iterate 4
    split
    · exact .refl s
  exact .of_writes (s.writes_setBand _ _)

theorem writes_moveReferences (b : Band) (old new : Nat) : Writes 0 s (s.moveReferences b old new) := by
  have lockers := Writes.foldl (fun t n => t.setLocker n { t.locker n with holder := some new })
    (fun t n => t.writes_setLocker n _) b.lockers s
  have cabins (t : State) : Writes 0 t
      (match b.cabin with
        | some c => t.setCabin c { t.cabin c with occupant := some new }
        | none => t) := by
    split
    · exact t.writes_setCabin _ _
    · exact .refl t
  have members (t : State) := Writes.foldl (fun t m => t.updBand m (Band.moveLeader new)) (fun t m => t.writes_updBand m _)
    b.members t
  unfold moveReferences
  dsimp only
  split
  · exact ((lockers.next (cabins _)).next (members _)).next (writes_updBand _ _ _)
  · exact (lockers.next (cabins _)).next (members _)

theorem handling_reissueBand : Handling s (reissueBand r s).2 := by
  unfold reissueBand
  iterate 4
    split
    · exact .refl s
  extract_lets reissuable
  iterate 4
    split
    · exact .refl s
  exact .of_writes ((((s.writes_setBand _ _).next (writes_mapSerial _ _ _)).next (writes_setBand _ _ _)).next
    (writes_moveReferences _ _ _ _))

theorem handling_revokeBand : Handling s (revokeBand r s).2 := by
  unfold revokeBand
  iterate 3
    split
    · exact .refl s
  split
  · exact .of_writes (s.writes_setBand _ _)
  · split
    · exact .refl s
    · split
      · exact .refl s
      · exact .of_room (((s.writes_setBand _ _).next (writes_clearOccupant _ _)).before (writes_unlatchCabin _ _))
          (Bool.eq_false_iff.2 ‹_›)

theorem handling_discardBand : Handling s (discardBand r s).2 := by
  unfold discardBand
  iterate 5
    split
    · exact .refl s
  exact .of_writes (s.writes_tearDown _ _)

theorem handling_queryBand : Handling s (queryBand r s).2 := by
  unfold queryBand
  iterate 2
    split
    · exact .refl s
  exact .refl s

theorem handling_closeDay : Handling s (closeDay r s).2 := by
  unfold closeDay
  iterate 3
    split
    · exact .refl s
  exact .of_writes (.of_frame rfl rfl rfl)

theorem handling_settle : Handling s (settle r s).2 := by
  unfold settle
  iterate 2
    split
    · exact .refl s
  split
  · exact .of_writes (s.writes_notify _ _ _)
  split
  · exact .refl s
  · exact .refl s
  split
  · exact .refl s
  · unfold settleWith
    split
    · exact .of_writes (s.writes_setBand _ _)
    · exact .of_writes (s.writes_setBand _ _)

theorem handling_pay : Handling s (pay r s).2 := by
  unfold pay
  iterate 3
    split
    · exact .refl s
  split
  · split
    · exact .refl s
    · exact .of_writes (s.writes_setBand _ _)
  · split
    · exact .refl s
    · dsimp only
      split
      · exact .of_writes (s.writes_setBand _ _)
      · exact .of_writes (s.writes_setBand _ _)
  · exact .refl s

theorem handling_collect : Handling s (collect r s).2 := by
  unfold collect
  iterate 4
    split
    · exact .refl s
  exact .of_writes (s.writes_tearDown _ _)

/-! ### Lockers and cabins -/

theorem handling_assignLocker : Handling s (assignLocker r s).2 := by
  unfold assignLocker
  iterate 6
    split
    · exact .refl s
  exact .of_writes (s.writes_reserve _ _)

theorem handling_onLocker (n : Nat) (f : Locker → Answer × State) (h : ∀ l, Handling s (f l).2) :
    Handling s (onLocker n s f).2 := by
  unfold onLocker
  iterate 2
    split
    · exact .refl s
  exact h _

theorem handling_onCabin (c : Nat) (f : Cabin → Answer × State) (h : ∀ k, Handling s (f k).2) :
    Handling s (onCabin c s f).2 := by
  unfold onCabin
  iterate 2
    split
    · exact .refl s
  exact h _

theorem handling_queuing (a : Nat) (f : State → State) (h : Writes 1 s (f s)) : Handling s (queuing a s f).2 := by
  unfold queuing
  split
  · exact .refl s
  · split
    · exact .refl s
    · exact .of_room h (Bool.eq_false_iff.2 ‹_›)

theorem handling_openLocker : Handling s (openLocker r s).2 := by
  unfold openLocker
  split
  · exact .refl s
  refine s.handling_onLocker _ _ fun l => ?_
  split
  · exact s.handling_queuing _ _ (s.writes_unlatchLocker _ _ _)
  · exact s.handling_queuing _ _ (s.writes_unlatchLocker _ _ _)
  · exact s.handling_queuing _ _ (s.writes_unlatchLocker _ _ _)
  · exact .refl s

theorem handling_releaseLocker : Handling s (releaseLocker r s).2 := by
  have latched (a n : Nat) : Handling s (queuing a s (releaseLatched n)).2 :=
    s.handling_queuing _ _ ((s.writes_unbindLocker _).before (writes_unlatchLocker _ _ _ _))
  have free (n : Nat) : Handling s (s.releaseFree n) :=
    .of_writes ((s.writes_unbindLocker n).next (writes_enterLocker _ _ _))
  unfold releaseLocker
  split
  · exact .refl s
  refine s.handling_onLocker _ _ fun l => ?_
  split
  case h_4 =>
    split
    · exact latched _ _
    · exact free _
  case h_9 => exact .refl s
  all_goals first | exact latched _ _ | exact free _

theorem handling_rearmLocker : Handling s (rearmLocker r s).2 := by
  unfold rearmLocker
  split
  · exact .refl s
  refine s.handling_onLocker _ _ fun l => ?_
  iterate 2
    split
    · exact .refl s
  exact s.handling_queuing _ _ (s.writes_latchLocker _ _)

theorem handling_setLockerService : Handling s (setLockerService r s).2 := by
  unfold setLockerService
  split
  · exact .refl s
  refine s.handling_onLocker _ _ fun l => ?_
  split
  · exact .of_writes (s.writes_enterLocker _ _)
  · exact .of_writes (s.writes_enterLocker _ _)
  · exact .refl s

theorem handling_queryLocker : Handling s (queryLocker r s).2 := by
  unfold queryLocker
  iterate 2
    split
    · exact .refl s
  exact .refl s

theorem handling_openCabin : Handling s (openCabin r s).2 := by
  unfold openCabin
  split
  · exact .refl s
  refine s.handling_onCabin _ _ fun k => ?_
  split
  · exact s.handling_queuing _ _ (s.writes_unlatchCabin _)
  · split
    · exact .refl s
    · exact s.handling_queuing _ _ (s.writes_unlatchCabin _)
  · exact .refl s

theorem handling_setCabinService : Handling s (setCabinService r s).2 := by
  unfold setCabinService
  split
  · exact .refl s
  refine s.handling_onCabin _ _ fun k => ?_
  split
  · exact .of_writes (s.writes_setCabin _ _)
  · exact .of_writes (s.writes_setCabin _ _)
  · exact .refl s

theorem handling_queryCabin : Handling s (queryCabin r s).2 := by
  unfold queryCabin
  iterate 2
    split
    · exact .refl s
  exact .refl s

/-! ### Zones, tariffs and settings -/

theorem writes_settings (v : Settings) : Writes 0 s { s with settings := v } := .of_frame rfl rfl rfl

theorem handling_setZone : Handling s (setZone r s).2 := by
  unfold setZone
  iterate 4
    split
    · exact .refl s
  exact .of_writes ((s.writes_settings _).next (writes_setZoneUsed _ _ _))

theorem handling_queryZone : Handling s (queryZone r s).2 := by
  unfold queryZone
  iterate 2
    split
    · exact .refl s
  exact .refl s

theorem handling_setTariff : Handling s (setTariff r s).2 := by
  unfold setTariff
  iterate 2
    split
    · exact .refl s
  dsimp only [accept]
  unfold setTariffClass
  split
  · exact .of_writes (s.writes_settings _)
  · exact .of_writes (s.writes_settings _)

theorem handling_selectBank : Handling s (selectBank r s).2 := by
  unfold selectBank
  split
  · exact .refl s
  · exact .of_writes (s.writes_settings _)

theorem handling_setWindows : Handling s (setWindows r s).2 := by
  unfold setWindows
  split
  · exact .refl s
  · exact .of_writes (s.writes_settings _)

theorem handling_setClock : Handling s (setClock r s).2 := by
  unfold setClock
  iterate 3
    split
    · exact .refl s
  exact ⟨rfl, List.filter_sublist, fun _ => Nat.lt_of_not_le ‹_›, id⟩

/-! ### Modules -/

theorem writes_configure (a : Nat) : Writes 0 s (s.configure a) :=
  (((Writes.foldl _ (fun t n => t.writes_setLocker n _) _ s).next
    (Writes.foldl _ (fun t c => t.writes_setCabin c _) _ _)).next (writes_setModule _ a _)).next (writes_supersede _ _)

theorem writes_unconfigure (a : Nat) : Writes 0 s (s.unconfigure a) :=
  ((((Writes.foldl _ (fun t n => t.writes_setLocker n _) _ s).next
    (Writes.foldl _ (fun t c => t.writes_setCabin c _) _ _)).next (writes_setModule _ a _)).next
      (writes_supersede _ _)).next (writes_failEntries _ _)

theorem handling_setModules : Handling s (setModules r s).2 := by
  have stored (q : ModulesRequest) : Writes 0 s (s.writeModuleSetting q) := s.writes_settings _
  unfold setModules
  iterate 2
    split
    · exact .refl s
  dsimp only
  split
  · iterate 2
      split
      · exact .refl s
    exact .of_writes ((stored _).next (writes_unconfigure _ _))
  · split
    · exact .of_writes ((stored _).next (writes_configure _ _))
    · exact .of_writes (stored _)

/-! ### All of them -/

/-- Every request that passes the arbiter is handled by a handling. -/
theorem handling_of_arbitrated {p : PortId} {k : ReqKind} {h : Handler} (hk : handlerOf p k = some h)
    (ha : arbitrated k = true) : Handling s (h r s).2 := by
  cases k <;> cases ha <;> cases hk
  case issueBand.refl.refl => exact s.handling_issueBand r
  case addTime.refl.refl => exact s.handling_addTime r
  case reissueBand.refl.refl => exact s.handling_reissueBand r
  case revokeBand.refl.refl => exact s.handling_revokeBand r
  case discardBand.refl.refl => exact s.handling_discardBand r
  case queryBand.refl.refl => exact s.handling_queryBand r
  case closeDay.refl.refl => exact s.handling_closeDay r
  case settle.refl.refl => exact s.handling_settle r
  case pay.refl.refl => exact s.handling_pay r
  case collect.refl.refl => exact s.handling_collect r
  case assignLocker.refl.refl => exact s.handling_assignLocker r
  case openLocker.refl.refl => exact s.handling_openLocker r
  case releaseLocker.refl.refl => exact s.handling_releaseLocker r
  case rearmLocker.refl.refl => exact s.handling_rearmLocker r
  case setLockerService.refl.refl => exact s.handling_setLockerService r
  case queryLocker.refl.refl => exact s.handling_queryLocker r
  case openCabin.refl.refl => exact s.handling_openCabin r
  case setCabinService.refl.refl => exact s.handling_setCabinService r
  case queryCabin.refl.refl => exact s.handling_queryCabin r
  case setZone.refl.refl => exact s.handling_setZone r
  case queryZone.refl.refl => exact s.handling_queryZone r
  case setTariff.refl.refl => exact s.handling_setTariff r
  case selectBank.refl.refl => exact s.handling_selectBank r
  case setModules.refl.refl => exact s.handling_setModules r
  case setWindows.refl.refl => exact s.handling_setWindows r
  case setClock.refl.refl => exact s.handling_setClock r

end State

end Sys2Proof.Machine
end

section
/-! PROOFS. What one command can do: every answer of `exec` is one of a short list of moves, from which the invariants of the
machine are derived. -/

namespace Sys2Proof.Machine

/-! ### The rows of the request kinds -/

/-- A request's row grants the request when its kind passes the arbiter, and takes it without a grant otherwise (R28). -/
theorem exec_rowOf {p : PortId} {k : ReqKind} {h : Handler} (hk : handlerOf p k = some h) (s : State) :
    exec (rowOf p k) s = .next (if arbitrated k = true then s.grantRequest p k h else s.takeRequest p k h) := by
  cases k <;> cases hk <;> rfl

namespace State

/-- The moves of the machine: what stands before a command that takes place, and what its answer is made of. -/
inductive Move (s : State) : State → Prop where
  | idle : Move s s
  | handled {t : State} (hrun : s.running = true) (h : Handling s t) : Move s t
  | answered {u : State} {p : PortId} {k : ReqKind} {r : Request} {a : Answer} (hg : s.taking p k r) (h : Handling s u) :
      Move s (u.answered p r a.code a.data)
  | swept {u : State} (hrun : s.running = true) (h : Handling s u) : Move s { u with sweep := advance s.sweep }
  | sweepWaits (hrun : s.running = true) : Move s { s with sweep.waiting := true }
  | taken {p : PortId} {k : ReqKind} {r : Request} {h : Handler} (hk : handlerOf p k = some h) (ha : arbitrated k = false)
      (hg : s.taking p k r) : Move s ((h r s).2.answered p r (h r s).1.code (h r s).1.data)
  | saveBegins {p : PortId} {r : Request} (hg : s.taking p .saveSettings r) : Move s (s.beginSave p)
  | saveEnds {v : Save} {ok : Bool} (hv : s.supply.save = some v) :
      Move s
        (({ s with supply.save := none, supply.store := if ok then some v.snapshot else none } : State).answerSave v.replyTo
          (if ok then .ok else .storeFault))
  | byteReceived (p : PortId) (b : Byte) : Move s ((s.settleFrame p).receiveByte p b)
  | frameEnds {p : PortId} {bytes : List Byte} (hl : (s.port p).link = .receiving bytes) : Move s (s.endFrame p bytes)
  | frameDropped {p : PortId} {bytes : List Byte} (hl : (s.port p).link = .receiving bytes) :
      Move s (s.setPort p (s.port p).toIdle)
  | replySent {p : PortId} {r : Reply} (hl : (s.port p).link = .sending r) : Move s (s.endReply p r)
  | polls {a c : Nat} (kind : ExchangeKind) (frame : List Byte) (ht : s.turn = some (.poll a c)) :
      Move s (s.beginPoll a c kind frame)
  | commands {cmd : Command} (f : Nat) (ht : s.turn = some (.command cmd)) : Move s (s.beginCommand cmd f)
  | broadcasts {b : Show} (f : Nat) (ht : s.turn = some (.broadcast b)) : Move s (s.sendBroadcast f)
  | delayEnds : Move s { s with field.startDelay := false }
  | succeeds {x : Exchange} (content : ReplyContent) (hrun : s.running = true) (hx : s.field.exchange = some x) :
      Move s (s.succeed x content)
  | attemptFails {x : Exchange} (hrun : s.running = true) (hx : s.field.exchange = some x) : Move s (s.attemptFails x)
  | noticeTaken {n : Raised} {rest : List Raised} (hn : s.notices.raised = n :: rest) :
      Move s (({ s with notices.raised := rest } : State).takeNotice n)
  | escalationTicks : Move s s.escalationTick
  | clockTicks : Move s { s with supply.clock := (s.supply.clock + 1) % Config.day }
  | supplyHolds (h : s.supply.supply = .normal) : Move s s.enterHold
  | restoreTimer (v : Bool) (h : s.supply.supply ≠ .normal) : Move s { s with supply.restoring := v }
  | supplyReturns (h : s.supply.supply = .hold) :
      Move s { s with supply.supply := .normal, supply.restoring := false, field.broadcast := some .clear }
  | supplyFalls : Move s s.enterDown
  | supplyFallsThroughHold : Move s s.enterHold.enterDown
  | retentionLost (h : s.supply.supply = .down) :
      Move s
        { s with
          settings := Config.lostSettings s.freeSeq, engine := Config.lostEngine s.freeSeq,
          watches := Config.lostWatches s.freeSeq, field.modules := Config.lostModules s.freeSeq,
          notices.alarms := Config.lostAlarms s.freeSeq, supply.clock := Config.lostClock s.freeSeq % Config.day,
          supply.retention := false, freeSeq := s.freeSeq + 1 }
  | warmReturn (straps : Straps) (h : s.supply.supply = .down) (hr : s.supply.retention = true) :
      Move s ((s.undoTaken.restored.warmStart straps).notify .powerRestored none none)
  | coldReturn (straps : Straps) (h : s.supply.supply = .down) (hr : s.supply.retention = false) :
      Move s (s.undoTaken.restored.coldStart straps)
  | resetAsserted (hrun : s.running = true) : Move s { s.stopBlocks with supply.resetHeld := true }
  | resetWarm (straps : Straps) (h : s.supply.supply ≠ .down) : Move s (s.undoTaken.resetWarm straps)
  | resetCold (straps : Straps) (h : s.supply.supply ≠ .down) : Move s (s.undoTaken.resetCold straps)

variable {s : State}

/-! ### Requests, items and the sweep -/

theorem running_of_mayGrant {r : Requester} (h : s.mayGrant r = true) : s.running = true :=
  ((mayGrant_iff s r).1 h).1

theorem move_grantRequest {p : PortId} {k : ReqKind} {h : Handler} (hk : handlerOf p k = some h) (ha : arbitrated k = true) :
    Move s (s.grantRequest p k h) := by
  by_cases hg : ∃ r, s.granting p k r
  · obtain ⟨r, hr, hm⟩ := hg
    rw [grantRequest_granting h ⟨hr, hm⟩]
    exact .answered ⟨hr, running_of_mayGrant hm⟩
      ((Handling.of_writes (s.writes_granted _)).trans (handling_of_arbitrated _ r hk ha))
  · rw [grantRequest_not_granting h (not_exists.1 hg)]
    exact .idle

theorem move_takeRequest {p : PortId} {k : ReqKind} {h : Handler} (hk : handlerOf p k = some h) (ha : arbitrated k = false) :
    Move s (s.takeRequest p k h) := by
  by_cases hg : ∃ r, s.taking p k r
  · obtain ⟨r, hg⟩ := hg
    rw [takeRequest_taking h hg]
    exact .taken hk ha hg
  · rw [takeRequest_not_taking h (not_exists.1 hg)]
    exact .idle

theorem move_grantItem {f : HandItem → Option (State → State)}
    (h : ∀ item handling, f item = some handling → ∀ t, Handling t (handling t)) : Move s (s.grantItem f) := by
  unfold grantItem
  split
  · exact .idle
  · rename_i handling hb
    split
    · rename_i hm
      obtain ⟨item, -, hf⟩ := Option.bind_eq_some_iff.1 hb
      exact .handled (running_of_mayGrant hm)
        (((Handling.of_writes (s.writes_granted _)).trans (h item handling hf _)).next (writes_popHead _))
    · exact .idle

theorem move_grantOutcome {a : Action} {r : CommandResult} {f : Place → State → State}
    (h : ∀ p t, Handling t (f p t)) : Move s (s.grantOutcome a r f) := by
  refine move_grantItem fun item handling hf t => ?_
  split at hf
  · split at hf
    · cases hf; exact h _ t
    · cases hf
  · cases hf

theorem move_sweepWhen (wanted : Bool) : Move s (s.sweepWhen wanted) := by
  unfold sweepWhen
  split
  · rename_i hw
    have hrun : s.running = true := (Bool.and_eq_true_iff.1 hw).1
    split
    · exact .swept hrun ((Handling.of_writes (s.writes_granted _)).trans (handling_sweepAct _))
    · exact .sweepWaits hrun
  · exact .idle

theorem move_saveSettings {p : PortId} {t : State} (h : execSaveSettings p s = .next t) : Move s t := by
  unfold execSaveSettings at h
  split at h
  · cases h; exact .idle
  · rename_i r hr
    split at h
    · cases h; exact .idle
    · rename_i hrun
      have hg : s.taking p .saveSettings r := ⟨hr, by simpa using hrun⟩
      split at h
      · cases h; exact .answered (a := { code := .outOfRange, data := [] }) hg (.refl s)
      · split at h
        · cases h; exact .answered (a := { code := .saveBusy, data := [] }) hg (.refl s)
        · cases h; exact .saveBegins hg

/-! ### Every command -/

/-- Every command's answer is one of the moves. -/
theorem move_of_exec {c : Instr} {t : State} (h : exec c s = .next t) : Move s t := by
  cases c
  case issueBand p | addTime p | reissueBand p | revokeBand p | discardBand p | queryBand p | closeDay p | settle p | pay p
      | collect p | assignLocker p | openLocker p | releaseLocker p | rearmLocker p | setLockerService p | queryLocker p
      | openCabin p | setCabinService p | queryCabin p | setZone p | queryZone p | setTariff p | selectBank p
      | setModules p | setWindows p | setClock p =>
    cases h; exact move_grantRequest rfl rfl
  case setWatch p | clearWatch p | queryWatch p | readNotice p | ackAlarm p | setThreshold p | setNoticePriority p
      | holdModule p | releaseModule p | queryModule p | setPort p | trimClock p | status p =>
    cases h; exact move_takeRequest rfl rfl
  case saveSettings p => exact move_saveSettings h
  case saveComplete ok =>
    simp only [exec, execSaveComplete] at h
    split at h
    · cases h; exact .idle
    · cases h; exact .saveEnds ‹_›
  case portFrame p =>
    simp only [exec, execPortFrame] at h
    split at h
    · cases h
      split
      · exact .frameEnds ‹_›
      · exact .idle
    · cases h; exact .idle
  case portByteReceived p b => cases h; exact .byteReceived p b
  case frameGapTimeout p =>
    simp only [exec, execFrameGapTimeout] at h
    split at h
    · cases h
      split
      · exact .idle
      · exact .frameDropped ‹_›
    · cases h; exact .idle
  case replySent p =>
    simp only [exec, execReplySent] at h
    split at h
    · cases h; exact .replySent ‹_›
    · cases h; exact .idle
  case present =>
    cases h
    refine move_grantItem fun item handling hf t => ?_
    split at hf <;> cases hf
    exact t.handling_presentation _ _ _
  case heldPresentRefused =>
    simp only [exec, execHeldPresentRefused] at h
    split at h
    · cases h
      split
      · rename_i hw
        exact .handled (Bool.and_eq_true_iff.1 hw).1 (.of_writes ((s.writes_indicate _ _ _).next (writes_popHead _)))
      · exact .idle
    · cases h; exact .idle
  case doorOpen =>
    cases h
    refine move_grantItem fun item handling hf t => ?_
    split at hf <;> cases hf
    exact .of_writes (t.writes_doorOpenAt _)
  case doorClosed =>
    cases h
    refine move_grantItem fun item handling hf t => ?_
    split at hf <;> cases hf
    exact .of_writes (t.writes_doorClosedAt _)
  case handle =>
    cases h
    refine move_grantItem fun item handling hf t => ?_
    split at hf <;> cases hf
    exact .of_writes (t.writes_handleAt _)
  case readStateReport =>
    cases h
    refine move_grantItem fun item handling hf t => ?_
    split at hf <;> cases hf
    exact t.handling_reconcile _ _ _
  case latchDone => cases h; exact move_grantOutcome fun p t => t.handling_latchDoneAt p
  case latchDoorOpen => cases h; exact move_grantOutcome fun p t => .of_writes (t.writes_latchDoorOpenAt p)
  case latchJammed | latchFailed => cases h; exact move_grantOutcome fun p t => .of_writes (t.writes_latchFailsAt _ p)
  case unlatchDone => cases h; exact move_grantOutcome fun p t => .of_writes (t.writes_unlatchDoneAt p)
  case unlatchJammed | unlatchFailed => cases h; exact move_grantOutcome fun p t => .of_writes (t.writes_unlatchFailsAt _ p)
  case sweepStep | sweepRoundComplete | openWindowExpiry | relockWindowExpiry | reservationLapsed | cabinOverhold | leaveLapsed
      | longStay =>
    cases h; exact move_sweepWhen _
  case poll =>
    simp only [exec, execPoll] at h
    split at h
    · cases h
      split
      · exact .idle
      · exact .polls _ _ ‹_›
    · cases h; exact .idle
  case readState =>
    simp only [exec, execReadState] at h
    split at h
    · cases h
      split
      · exact .polls _ _ ‹_›
      · exact .idle
    · cases h; exact .idle
  case latch =>
    simp only [exec, execLatch] at h
    split at h
    · cases h
      split
      · exact .commands _ ‹_›
      · exact .idle
    · cases h; exact .idle
  case unlatch =>
    simp only [exec, execUnlatch] at h
    split at h
    · cases h
      split
      · exact .commands _ ‹_›
      · exact .idle
    · cases h; exact .idle
  case holdShow =>
    simp only [exec, execHoldShow] at h
    split at h
    · cases h; exact .broadcasts _ ‹_›
    · cases h; exact .idle
  case clearShow =>
    simp only [exec, execClearShow] at h
    split at h
    · cases h; exact .broadcasts _ ‹_›
    · cases h; exact .idle
  case moduleReply bytes =>
    simp only [exec, execModuleReply] at h
    split at h
    · cases h; exact .idle
    · split at h
      · cases h; exact .idle
      · have hrun : s.running = true := by simp_all
        split at h
        · cases h; exact .succeeds _ hrun ‹_›
        · cases h; exact .attemptFails hrun ‹_›
  case attemptTimeout =>
    simp only [exec, execAttemptTimeout] at h
    split at h
    · cases h; exact .idle
    · cases h
      split
      · exact .attemptFails ‹_› ‹_›
      · exact .idle
  case fieldStartDelay =>
    cases h
    split
    · exact .delayEnds
    · exact .idle
  case noticeTaken =>
    simp only [exec, execNoticeTaken] at h
    split at h
    · cases h; exact .idle
    · split at h
      · cases h; exact .noticeTaken ‹_›
      · cases h; exact .idle
  case escalationTick | alarmEscalated =>
    cases h
    split
    · exact .escalationTicks
    · exact .idle
  case dayClockTick =>
    cases h
    split
    · exact .clockTicks
    · exact .idle
  case supplyHold =>
    cases h
    split
    · exact .supplyHolds ‹_›
    · exact .idle
  case restoreTimerStart | restoreTimerRestarted =>
    cases h
    split
    · exact .idle
    · exact .restoreTimer _ ‹_›
  case supplyNormal =>
    cases h
    split
    · rename_i hs; exact .supplyReturns hs.1
    · exact .idle
  case supplyDown =>
    simp only [exec, execSupplyDown] at h
    split at h
    · cases h; exact .supplyFallsThroughHold
    · cases h; exact .supplyFalls
    · cases h; exact .idle
  case retentionLost =>
    cases h
    split
    · exact .retentionLost ‹_›
    · exact .idle
  case returnFromDown straps =>
    cases h
    split
    · rename_i hs
      dsimp only
      split
      · exact .warmReturn straps hs.1 ‹_›
      · exact .coldReturn straps hs.1 (Bool.eq_false_iff.2 ‹_›)
    · exact .idle
  case resetAsserted =>
    cases h
    split
    · exact .resetAsserted ‹_›
    · exact .idle
  case resetReleased straps =>
    cases h
    split
    · rename_i hs
      have hd : s.supply.supply ≠ .down := by simp_all
      split
      · exact .resetCold straps hd
      · exact .resetWarm straps hd
    · exact .idle

/-- A step moves the state with the front command taken off the queue. -/
theorem move_of_step {t : State} (h : step s = .next t) : ∃ q, Move (s.withPending q) t := by
  unfold step at h
  split at h
  · rename_i hp
    cases h
    exact ⟨[], by rw [show s.withPending [] = s by simp [withPending, ← hp]]; exact .idle⟩
  · exact ⟨_, move_of_exec h⟩

end State

end Sys2Proof.Machine
end

section
/-! PROOFS. The requests taken without a grant (R28): what their handlers may write, and what they remember of it. -/

namespace Sys2Proof.Machine

/-- What a request of a kind on a port may remember to be undone (R176, R185). -/
def Before.belongs (p : PortId) (k : ReqKind) : Before → Prop
  | .watch i _ => k = .setWatch ∧ i ≤ 3
  | .enabled i _ => k = .clearWatch ∧ i ≤ 3
  | .port q _ => k = .setPort ∧ q ≠ .cp2
  | .threshold q _ => k = .setThreshold ∧ q = p
  | .priority kind _ => k = .setNoticePriority ∧ isAlarm kind = false ∧ kind ≠ .watchHit
  | .alarms .. => k = .ackAlarm
  | .held a _ => (k = .holdModule ∨ k = .releaseModule) ∧ 1 ≤ a ∧ a ≤ 144
  | .clock _ => k = .trimClock

namespace State

/-- What a request taken without a grant leaves alone: what it may write is blanked. -/
def beyondTaking (s : State) : State :=
  { s with
    settings := Settings.factory, watches := State.reset.watches, undo := [],
    notices.queues := { cp0 := [], cp1 := [], cp2 := [] }, notices.overflow := { cp0 := false, cp1 := false, cp2 := false },
    notices.alarms := [], notices.alarmOverflow := false, field.modules := FieldEngine.reset.modules, supply.clock := 0 }

/-- What is remembered is as before, but for one more entry of the request itself. -/
inductive Remembers (p : PortId) (k : ReqKind) (s t : State) : Prop where
  | nothing (h : t.undo = s.undo)
  | one (b : Before) (h : t.undo = { port := p, before := b } :: s.undo) (hb : b.belongs p k)
      (ha : ∀ which l full, b = .alarms which l full → l = s.notices.alarms)

/-- The later state is the earlier one after a request of the kind taken on the port. -/
structure Taking (p : PortId) (k : ReqKind) (s t : State) : Prop where
  frame : t.beyondTaking = s.beyondTaking
  undo : Remembers p k s t
  queues : ∀ q, (t.queue q).Sublist (s.queue q)
  alarms : t.notices.alarms.Sublist s.notices.alarms
  clock : s.supply.clock < Config.day → t.supply.clock < Config.day

namespace Taking

variable {p : PortId} {k : ReqKind} {s t : State}

theorem refl (s : State) : Taking p k s s :=
  ⟨rfl, .nothing rfl, fun _ => List.Sublist.refl _, List.Sublist.refl _, id⟩

/-- A handler that leaves the queues, the alarms and the clock, and remembers what it wrote over. -/
theorem of_remember {b : Before} (hf : t.beyondTaking = s.beyondTaking) (hu : t.undo = { port := p, before := b } :: s.undo)
    (hb : b.belongs p k) (hn : t.notices = s.notices) (hs : t.supply = s.supply)
    (ha : ∀ which l full, b ≠ .alarms which l full) : Taking p k s t where
  frame := hf
  undo := .one b hu hb fun which l full h => absurd h (ha which l full)
  queues q := by rw [queue, queue, hn]
  alarms := by rw [hn]
  clock := by rw [hs]; exact id

end Taking

theorem trimmed_lt_day (c : Nat) (d : Int) : trimmed c d < Config.day := by
  unfold trimmed Config.day
  have h1 := Int.emod_nonneg ((c : Int) + max (-60) (min 60 d)) (b := ((86400 : Nat) : Int)) (by decide)
  have h2 := Int.emod_lt_of_pos ((c : Int) + max (-60) (min 60 d)) (b := ((86400 : Nat) : Int)) (by decide)
  omega

theorem ackFrom_sublist (which : Option (NoticeKind × Place)) (l : List Alarm) : (ackFrom which l).Sublist l := by
  unfold ackFrom
  split
  · exact List.nil_sublist l
  · exact List.eraseP_sublist

variable (s : State) (r : Request) (p : PortId)

/-! ### The handlers -/

theorem taking_setWatch : Taking p .setWatch s (setWatchRequest p r s).2 := by
  unfold setWatchRequest
  split
  · exact .refl s
  · rename_i q _
    split
    · exact .refl s
    · have hi : q.watch ≤ 3 := by simp_all [WatchRequest.inRange]
      exact .of_remember (b := .watch q.watch (s.watch q.watch)) rfl rfl ⟨rfl, hi⟩ rfl rfl nofun

theorem taking_clearWatch : Taking p .clearWatch s (clearWatch p r s).2 := by
  unfold clearWatch
  split
  · exact .refl s
  · rename_i i _
    split
    · exact .refl s
    · exact .of_remember (b := .enabled i (s.watch i).enabled) rfl rfl ⟨rfl, Nat.le_of_not_lt ‹_›⟩ rfl rfl nofun

theorem taking_queryWatch : Taking p .queryWatch s (queryWatch r s).2 := by
  unfold queryWatch
  iterate 2
    split
    · exact .refl s
  exact .refl s

theorem setQueue_sublist {q : List Notice} (h : q.Sublist (s.queue p)) (j : PortId) :
    ((s.setQueue p q).queue j).Sublist (s.queue j) := by
  by_cases hj : p = j
  · subst hj; rwa [setQueue_queue_self]
  · rw [setQueue_queue_ne s q hj]

theorem taking_setQueue {k : ReqKind} {q : List Notice} (h : q.Sublist (s.queue p)) : Taking p k s (s.setQueue p q) :=
  ⟨rfl, .nothing rfl, s.setQueue_sublist p h, List.Sublist.refl _, id⟩

theorem taking_readNotice : Taking p .readNotice s (readNotice p r s).2 := by
  unfold readNotice
  split
  · exact .refl s
  · split
    · exact .refl s
    · rename_i n rest hq
      exact s.taking_setQueue p (hq ▸ List.sublist_cons_self n rest)

theorem taking_acknowledge (which : Option (NoticeKind × Place)) : Taking p .ackAlarm s (s.acknowledge p which) where
  frame := rfl
  undo := .one (.alarms which s.notices.alarms s.notices.alarmOverflow) rfl rfl fun _ _ _ h => by cases h; rfl
  queues _ := List.Sublist.refl _
  alarms := ackFrom_sublist which _
  clock := id

theorem taking_ackAlarm : Taking p .ackAlarm s (ackAlarm p r s).2 := by
  unfold ackAlarm
  split
  · exact .refl s
  · exact s.taking_acknowledge p none
  · split
    · exact .refl s
    · split
      · exact s.taking_acknowledge p _
      · exact .refl s

theorem taking_setThreshold : Taking p .setThreshold s (Machine.setThreshold p r s).2 := by
  unfold Machine.setThreshold
  split
  · exact .refl s
  · split
    · exact .refl s
    · exact .of_remember (b := .threshold p (s.settings.thresholds.get p)) rfl rfl ⟨rfl, rfl⟩ rfl rfl nofun

theorem taking_setNoticePriority : Taking p .setNoticePriority s (setNoticePriority p r s).2 := by
  unfold setNoticePriority
  split
  · exact .refl s
  · rename_i k n _
    iterate 2
      split
      · exact .refl s
    have hk : isAlarm k = false ∧ k ≠ .watchHit := by simp_all
    exact .of_remember (b := .priority k (tableGet s.settings.priorities 0 (noticeCode k - 1))) rfl rfl ⟨rfl, hk⟩ rfl rfl nofun

theorem taking_setHeld {k : ReqKind} (hk : k = .holdModule ∨ k = .releaseModule) (held : Bool) :
    Taking p k s (setHeld held p r s).2 := by
  unfold setHeld
  split
  · exact .refl s
  · rename_i a _
    iterate 2
      split
      · exact .refl s
    have ha : 1 ≤ a ∧ a ≤ 144 := by simp_all; omega
    refine .of_remember (b := .held a (s.module a).held) ?_ (setModule_undo _ _ _) ⟨hk, ha⟩ (setModule_notices _ _ _)
      (setModule_supply _ _ _) nofun
    dsimp only [accept]
    unfold setModule
    split <;> rfl

theorem taking_queryModule : Taking p .queryModule s (queryModule r s).2 := by
  unfold queryModule
  iterate 2
    split
    · exact .refl s
  exact .refl s

theorem taking_setPort : Taking p .setPort s (setPortRequest p r s).2 := by
  unfold setPortRequest
  split
  · exact .refl s
  · rename_i number rank set _
    split
    · exact .refl s
    · rename_i q _
      iterate 2
        split
        · exact .refl s
      have hq : q ≠ .cp2 := ‹_›
      have written : Taking p .setPort s ((s.remember p (.port q (s.portSetting q))).setPortSetting q
          { rank := rank, permitted := set }) := by
        refine .of_remember (b := .port q (s.portSetting q)) ?_ ?_ ⟨rfl, hq⟩ ?_ ?_ nofun <;> cases q <;> rfl
      dsimp only [accept, dropUnread]
      split
      · exact written
      · obtain ⟨hf, hu, hqs, ha, hc⟩ := written
        have emptied := setQueue_sublist ((s.remember p (.port q (s.portSetting q))).setPortSetting q
          { rank := rank, permitted := set }) q (List.nil_sublist _)
        refine ⟨hf, ?_, fun j => (emptied j).trans (hqs j), ha, hc⟩
        cases hu with
        | nothing h => exact .nothing h
        | one b h hb hw => exact .one b h hb hw

theorem taking_trimClock : Taking p .trimClock s (trimClock p r s).2 := by
  unfold trimClock
  split
  · exact .refl s
  · exact ⟨rfl, .one (.clock _) rfl rfl nofun, fun _ => List.Sublist.refl _, List.Sublist.refl _, fun _ => trimmed_lt_day _ _⟩

theorem taking_status : Taking p .status s (statusRequest p r s).2 := by
  unfold statusRequest
  split
  · exact .refl s
  · exact ⟨rfl, .nothing rfl, fun _ => List.Sublist.refl _, List.Sublist.refl _, id⟩

/-- Every request taken without a grant is handled so. -/
theorem taking_of_not_arbitrated {k : ReqKind} {h : Handler} (hk : handlerOf p k = some h) (ha : arbitrated k = false) :
    Taking p k s (h r s).2 := by
  cases k <;> cases ha <;> cases hk
  case setWatch.refl.refl => exact s.taking_setWatch r p
  case clearWatch.refl.refl => exact s.taking_clearWatch r p
  case queryWatch.refl.refl => exact s.taking_queryWatch r p
  case readNotice.refl.refl => exact s.taking_readNotice r p
  case ackAlarm.refl.refl => exact s.taking_ackAlarm r p
  case setThreshold.refl.refl => exact s.taking_setThreshold r p
  case setNoticePriority.refl.refl => exact s.taking_setNoticePriority r p
  case holdModule.refl.refl => exact s.taking_setHeld r p (.inl rfl) true
  case releaseModule.refl.refl => exact s.taking_setHeld r p (.inr rfl) false
  case queryModule.refl.refl => exact s.taking_queryModule r p
  case setPort.refl.refl => exact s.taking_setPort r p
  case trimClock.refl.refl => exact s.taking_trimClock r p
  case status.refl.refl => exact s.taking_status r p

end State

end Sys2Proof.Machine
end

section
/-! PROOFS. The invariants of the counts, the stop, the command queue and the notice queues: each kept by every move. -/

namespace Sys2Proof.Machine

namespace State

/-! ### What the moves are made of -/

theorem answered_frame (s : State) (p : PortId) (r : Request) (c : ResultCode) (d : List Byte) :
    s.answered p r c d = { s with ports := (s.answered p r c d).ports } := by
  unfold answered deliver
  dsimp only
  split <;> rfl

theorem answerSave_frame (s : State) (dest : Option PortId) (c : ResultCode) :
    s.answerSave dest c = { s with ports := (s.answerSave dest c).ports } := by
  unfold answerSave deliver
  dsimp only
  repeat' split
  all_goals rfl

theorem takeFrame_frame (s : State) (p : PortId) (tag code : Byte) (body : List Byte) :
    s.takeFrame p tag code body = { s with ports := (s.takeFrame p tag code body).ports } := by
  unfold takeFrame deliver
  dsimp only
  repeat' split
  all_goals rfl

theorem endFrame_frame (s : State) (p : PortId) (bytes : List Byte) :
    s.endFrame p bytes = { s with ports := (s.endFrame p bytes).ports } := by
  unfold endFrame
  dsimp only
  split
  · rw [takeFrame_frame]; rfl
  · rfl

theorem settleFrame_frame (s : State) (p : PortId) : s.settleFrame p = { s with ports := (s.settleFrame p).ports } := by
  unfold settleFrame
  split
  · split
    · exact endFrame_frame s p _
    · rfl
  · rfl

theorem receiveByte_frame (s : State) (p : PortId) (b : Byte) :
    s.receiveByte p b = { s with ports := (s.receiveByte p b).ports } := by
  unfold receiveByte
  dsimp only
  repeat' split
  all_goals rfl

theorem endReply_frame (s : State) (p : PortId) (r : Reply) :
    s.endReply p r = { s with ports := (s.endReply p r).ports, undo := if r.busy then s.undo else settledUndo p s.undo } := by
  rw [endReply_eq]; rfl

/-- What an exchange that ends writes besides itself, a handling may write. -/
theorem writes_succeed (s : State) (x : Exchange) (content : ReplyContent) :
    Writes 0 s.endExchange (s.succeed x content) := by
  have online : Writes 0 s.endExchange (s.endExchange.moduleAnswered x.addr) := by
    unfold moduleAnswered
    dsimp only
    split
    · exact (writes_setModule _ _ _).next (writes_notify _ _ _ _)
    · exact writes_setModule _ _ _
  unfold succeed
  dsimp only
  split
  · have cleared : Writes 0 s.endExchange ((s.endExchange.moduleAnswered x.addr).clearCarried x.addr x.renewed) :=
      online.next (writes_setModule _ _ _)
    split
    · exact cleared
    · refine cleared.next ?_
      unfold pollYields
      dsimp only
      split
      · exact (writes_setModule _ _ _).next (writes_handOver _ _)
      · exact writes_handOver _ _
  · exact (online.next (writes_updPosition _ _ _ _)).next (writes_handOver _ _)
  · exact (online.next (.foldl _ (fun t e => t.writes_updPosition _ _ _) _ _)).next (writes_handOver _ _)

theorem writes_fail (s : State) (x : Exchange) : Writes 0 s.endExchange (s.fail x) := by
  have passed (t : State) : Writes 0 t (t.failOutcome x) := by
    unfold failOutcome
    split
    · exact (t.writes_updPosition _ _ _).next (writes_handOver _ _)
    · exact .refl t
  unfold fail
  dsimp only
  split
  · exact (((writes_setModule _ _ _).next (passed _)).next
      ((writes_setModule _ _ _).next (writes_notify _ _ _ _))).next (writes_failEntries _ _)
  · exact (writes_setModule _ _ _).next (passed _)

theorem attemptFails_cases (s : State) (x : Exchange) :
    (x.attempt < 3 ∧ s.attemptFails x =
      { s with field.exchange := some { x with attempt := x.attempt + 1 }, field.lineFrame := x.frame }) ∨
    (3 ≤ x.attempt ∧ s.attemptFails x = s.fail x) := by
  unfold attemptFails
  split
  · exact .inl ⟨‹_›, rfl⟩
  · exact .inr ⟨Nat.le_of_not_lt ‹_›, rfl⟩

/-- A notice taken changes the notice unit and what is remembered of it. -/
theorem takeNotice_frame (s : State) (n : Raised) :
    s.takeNotice n = { s with notices := (s.takeNotice n).notices, undo := (s.takeNotice n).undo } := by
  have one (t : State) (m : Notice) (p : PortId) :
      routeNotice m t p = { t with notices := (routeNotice m t p).notices } := by
    unfold routeNotice
    dsimp only
    split
    · split <;> rfl
    · rfl
  have listed : ∀ t, t = (if isAlarm n.kind = true then s.enterAlarm n else s) →
      t = { s with notices := t.notices, undo := t.undo } := by
    rintro t rfl
    split <;> rfl
  have e := listed _ rfl
  unfold takeNotice
  dsimp only [List.foldl]
  rw [one _ _ .cp2, one _ _ .cp1, one _ _ .cp0, e]

/-- What the requests dropped at a start have written is taken back one by one, the newest first. -/
theorem undoTaken_induction {P : State → Prop} (s : State) (h0 : P s)
    (h : ∀ t, P t → ∀ u ∈ s.undo, P (t.putBack u.before)) : ∃ t, P t ∧ s.undoTaken = { t with undo := [] } :=
  ⟨_, List.foldlRecOn s.undo (fun t u => t.putBack u.before) h0 h, rfl⟩

/-! ### The queue of waiting commands -/

theorem Move.pending {s t : State} (h : Move s t) : t.pending = s.pending := by
  have handled {u : State} (hu : Handling s u) : u.pending = s.pending := by
    have e := congrArg State.pending hu.frame
    exact e
  have undone : s.undoTaken.pending = s.pending := by rw [undoTaken_eq]
  have started (u : State) (straps : Straps) : (u.coldStart straps).pending = u.pending := by
    unfold coldStart
    dsimp only
    split <;> rfl
  cases h with
  | handled _ h => exact handled h
  | answered _ h => rw [answered_frame]; have e := handled h; exact e
  | swept _ h => have e := handled h; exact e
  | @taken p k r f hk ha hg =>
    rw [answered_frame]
    have e := congrArg State.pending (taking_of_not_arbitrated s r p hk ha).frame
    exact e
  | saveEnds => rw [answerSave_frame]
  | byteReceived p b => rw [receiveByte_frame, settleFrame_frame]
  | frameEnds => rw [endFrame_frame]
  | replySent => rw [endReply_frame]
  | @succeeds x content =>
    have e := congrArg State.pending (writes_succeed s x content).frame
    exact e
  | @attemptFails x =>
    obtain ⟨-, e⟩ | ⟨-, e⟩ := attemptFails_cases s x
    · rw [e]
    · rw [e]
      have e := congrArg State.pending (writes_fail s x).frame
      exact e
  | noticeTaken => rw [takeNotice_frame]
  | warmReturn => exact undone
  | coldReturn => rw [started]; exact undone
  | resetWarm => exact undone
  | resetCold => exact (started _ _).trans undone
  | _ => rfl

end State

/-- Settles O1, by the two cases of the step's queue. -/
theorem stepRunsTheFrontCommand : Obligations.StepRunsTheFrontCommand := by
  unfold Obligations.StepRunsTheFrontCommand
  exact ⟨fun c rest s h => by simp only [step, h], fun s h => by simp only [step, h]⟩

/-- No command ends in a fault or a refusal. -/
theorem exec_answers (c : Instr) (s : State) : ∃ t, exec c s = .next t := by
  cases h : exec c s with
  | next t => exact ⟨t, rfl⟩
  | fault f => cases f
  | refused r =>
    exfalso
    cases c
    case saveSettings p =>
      simp only [exec, execSaveSettings] at h
      repeat' split at h
      all_goals cases h
    case saveComplete ok => simp only [exec, execSaveComplete] at h; split at h <;> cases h
    case portFrame p => simp only [exec, execPortFrame] at h; split at h <;> cases h
    case frameGapTimeout p => simp only [exec, execFrameGapTimeout] at h; split at h <;> cases h
    case replySent p => simp only [exec, execReplySent] at h; split at h <;> cases h
    case heldPresentRefused => simp only [exec, execHeldPresentRefused] at h; split at h <;> cases h
    case poll => simp only [exec, execPoll] at h; split at h <;> cases h
    case readState => simp only [exec, execReadState] at h; split at h <;> cases h
    case latch => simp only [exec, execLatch] at h; split at h <;> cases h
    case unlatch => simp only [exec, execUnlatch] at h; split at h <;> cases h
    case holdShow => simp only [exec, execHoldShow] at h; split at h <;> cases h
    case clearShow => simp only [exec, execClearShow] at h; split at h <;> cases h
    case moduleReply bytes =>
      simp only [exec, execModuleReply] at h
      repeat' split at h
      all_goals cases h
    case attemptTimeout => simp only [exec, execAttemptTimeout] at h; split at h <;> cases h
    case noticeTaken =>
      simp only [exec, execNoticeTaken] at h
      repeat' split at h
      all_goals cases h
    case supplyDown => simp only [exec, execSupplyDown] at h; split at h <;> cases h
    all_goals cases h

/-- Settles O2: the answer is a move, and no move touches the queue of commands. -/
theorem everyCommandCompletes : Obligations.EveryCommandCompletes := by
  unfold Obligations.EveryCommandCompletes
  intro c s
  obtain ⟨t, h⟩ := exec_answers c s
  exact ⟨t, h, (State.move_of_exec h).pending⟩

end Sys2Proof.Machine
end

section
/-! PROOFS. The command queue, the counts and the notice queues keep their bounds at every step (R123, R125, R138, R163, R164, R186). -/

namespace Sys2Proof.Machine

namespace State

variable {s t : State}

/-! ### The field command queue (R125) -/

theorem coldStart_field (s : State) (straps : Straps) :
    (s.coldStart straps).field =
      startedField (tableMap (fun _ c => Module.blank c.configured) (s.supply.store.getD Settings.factory).modules)
        s.supply.supply straps.loopRate := by
  unfold coldStart
  dsimp only
  split <;> rfl

theorem Move.keeps_commandQueue (hs : s.CommandQueueBounded) (h : Move s t) : t.CommandQueueBounded := by
  have empty : ([] : List Command).length ≤ Config.queueCapacity := Nat.zero_le _
  cases h with
  | handled _ h => exact h.queue hs
  | answered _ h => rw [answered_frame]; exact h.queue hs
  | swept _ h => exact h.queue hs
  | @taken p k r f hk ha hg =>
    rw [answered_frame]
    have e := congrArg (fun u : State => u.field.queue) (taking_of_not_arbitrated s r p hk ha).frame
    exact (congrArg List.length e).trans_le hs
  | saveEnds => rw [answerSave_frame]; exact hs
  | byteReceived p b => rw [receiveByte_frame, settleFrame_frame]; exact hs
  | frameEnds => rw [endFrame_frame]; exact hs
  | replySent => rw [endReply_frame]; exact hs
  | commands f _ => exact (List.drop_sublist 1 s.field.queue).length_le.trans hs
  | @succeeds x content => exact (writes_succeed s x content).queue.trans hs
  | @attemptFails x =>
    obtain ⟨-, e⟩ | ⟨-, e⟩ := attemptFails_cases s x
    · rw [e]; exact hs
    · rw [e]; exact (writes_fail s x).queue.trans hs
  | noticeTaken => rw [takeNotice_frame]; exact hs
  | warmReturn => exact empty
  | coldReturn => rw [CommandQueueBounded, coldStart_field]; exact empty
  | resetWarm => exact empty
  | resetCold => rw [State.resetCold, CommandQueueBounded, coldStart_field]; exact empty
  | _ => exact hs

/-! ### The counts (R113, R123, R138, R186) -/

theorem putBack_clock (b : Before) (hs : s.supply.clock < Config.day) : (s.putBack b).supply.clock < Config.day := by
  cases b with
  | clock d => exact trimmed_lt_day _ _
  | port p v => cases p <;> exact hs
  | held a h => simpa [putBack] using hs
  | _ => exact hs

theorem undoTaken_clock (hs : s.supply.clock < Config.day) : s.undoTaken.supply.clock < Config.day := by
  obtain ⟨t, ht, e⟩ := undoTaken_induction (P := fun t => t.supply.clock < Config.day) s hs
    fun t ht u _ => putBack_clock u.before ht
  rw [e]
  exact ht

theorem firstDue_range {c k a : Nat} (h : s.firstDue c k = some a) : 1 ≤ a ∧ a ≤ 144 := by
  obtain ⟨i, hi, rfl⟩ := List.mem_map.1 (List.mem_of_find?_eq_some h)
  have := List.mem_range.1 hi
  omega

theorem nextDue_range {d : Nat × Nat} (hs : s.field.cycle ≤ 15) (h : s.nextDue = some d) :
    1 ≤ d.1 ∧ d.1 ≤ 144 ∧ d.2 ≤ 15 := by
  unfold nextDue at h
  split at h
  · cases h
    obtain ⟨h1, h2⟩ := firstDue_range ‹_›
    exact ⟨h1, h2, hs⟩
  · split at h
    · cases h
      obtain ⟨h1, h2⟩ := firstDue_range ‹_›
      exact ⟨h1, h2, Nat.le_of_lt_succ (Nat.mod_lt _ (by decide))⟩
    · obtain ⟨a, ha, rfl⟩ := Option.map_eq_some_iff.1 h
      obtain ⟨h1, h2⟩ := firstDue_range ha
      exact ⟨h1, h2, Nat.zero_le _⟩

/-- A poll turn is the one the walk finds. -/
theorem nextDue_of_turn {a c : Nat} (h : s.turn = some (.poll a c)) : s.nextDue = some (a, c) := by
  unfold turn choice at h
  split at h
  · split at h
    · cases h
    · cases hd : s.nextDue with
      | none => cases hq : s.field.queue.head? <;> cases hl : s.field.lastTurn <;> simp_all
      | some d =>
        obtain ⟨d1, d2⟩ := d
        cases hq : s.field.queue.head? <;> cases hl : s.field.lastTurn <;> simp_all
  · cases h

/-- What the counts read beside the clock and the sweep. -/
structure SameWalk (s t : State) : Prop where
  position : t.field.pollPosition = s.field.pollPosition
  cycle : t.field.cycle = s.field.cycle
  attempt : ∀ x, t.field.exchange = some x → ∃ y, s.field.exchange = some y ∧ x.attempt = y.attempt

theorem sameWalk_of_frame (h : t.beyondHandling.field = s.beyondHandling.field) : SameWalk s t where
  position := by
    have e := congrArg FieldEngine.pollPosition h
    exact e
  cycle := by
    have e := congrArg FieldEngine.cycle h
    exact e
  attempt x hx := by
    have e := congrArg FieldEngine.exchange h
    have e : t.field.exchange.map (fun x => { x with renewed := [] }) = s.field.exchange.map fun x => { x with renewed := [] } := e
    rw [hx] at e
    obtain ⟨y, hy, hxy⟩ := Option.map_eq_some_iff.1 e.symm
    exact ⟨y, hy, (congrArg Exchange.attempt hxy).symm⟩

/-- The invariant of the counts, from its parts. -/
theorem CountsInRange.of_sameWalk (hs : s.CountsInRange) (hc : t.supply.clock < Config.day) (hw : t.sweep = s.sweep)
    (hf : SameWalk s t) : t.CountsInRange := by
  obtain ⟨-, h1, h2, h3, h4, h5, h6, h7⟩ := hs
  refine ⟨hc, hw ▸ h1, hw ▸ h2, hw ▸ h3, hf.position ▸ h4, hf.position ▸ h5, hf.cycle ▸ h6, fun x hx => ?_⟩
  obtain ⟨y, hy, e⟩ := hf.attempt x hx
  exact e ▸ h7 y hy

theorem CountsInRange.of_handling (hs : s.CountsInRange) (h : Handling s t) : t.CountsInRange := by
  have hf : t.beyondHandling.field = s.beyondHandling.field := by
    have e := congrArg State.field h.frame
    exact e
  have hw : t.sweep = s.sweep := by
    have e := congrArg State.sweep h.frame
    exact e
  exact hs.of_sameWalk (h.clock hs.1) hw (sameWalk_of_frame hf)

theorem advance_range {w : Sweep} (h2 : 1 ≤ w.index) (h3 : w.index + w.remaining = Config.roundSteps + 1) :
    1 ≤ (advance w).remaining ∧ 1 ≤ (advance w).index ∧ (advance w).index + (advance w).remaining = Config.roundSteps + 1 := by
  unfold advance
  split
  · exact ⟨by decide, by decide, rfl⟩
  · refine ⟨?_, ?_, ?_⟩ <;> dsimp only <;> omega

/-- Nothing of an exchange is left where it has ended. -/
theorem sameWalk_of_ended (h : Writes 0 s.endExchange t) : SameWalk s t where
  position := (sameWalk_of_frame (congrArg State.field h.frame)).position
  cycle := (sameWalk_of_frame (congrArg State.field h.frame)).cycle
  attempt x hx := by
    obtain ⟨y, hy, -⟩ := (sameWalk_of_frame (congrArg State.field h.frame)).attempt x hx
    cases hy

/-- Every start sets the walk and the sweep to their first values (R136, R150). -/
theorem countsInRange_of_start (hc : t.supply.clock < Config.day) (hw : t.sweep = { index := 1, remaining := 3135, waiting := false })
    {m : Vector Module 144} {v : SupplyState} {l : LoopRate} (hf : t.field = startedField m v l) : t.CountsInRange := by
  refine ⟨hc, ?_, ?_, ?_, ?_, ?_, ?_, ?_⟩ <;> simp [hw, hf, startedField, Config.roundSteps]

theorem coldStart_sweep (s : State) (straps : Straps) :
    (s.coldStart straps).sweep = { index := 1, remaining := 3135, waiting := false } := by
  unfold coldStart
  dsimp only
  split <;> rfl

theorem coldStart_clock (s : State) (straps : Straps) : (s.coldStart straps).supply.clock = s.supply.clock := by
  unfold coldStart
  dsimp only
  split <;> rfl

theorem Move.keeps_counts (hs : s.CountsInRange) (h : Move s t) : t.CountsInRange := by
  obtain ⟨hclock, hrem, hidx, hsum, hpos, htop, hcyc, hatt⟩ := id hs
  have started {a c : Nat} {kind : ExchangeKind} {frame : List Byte} :
      ∀ x, some ({ kind := kind, addr := a, attempt := 1, frame := frame, renewed := [] } : Exchange) = some x →
        1 ≤ x.attempt ∧ x.attempt ≤ 3 := by
    rintro x ⟨⟩
    exact ⟨Nat.le_refl 1, Nat.le_add_left 1 2⟩
  have undone := undoTaken_clock hclock
  have restored : s.undoTaken.restored.supply.clock < Config.day := by
    have h : s.undoTaken.restored.supply.clock = if s.undoTaken.supply.retention then s.undoTaken.supply.clock else 0 := rfl
    rw [h]
    split
    · exact undone
    · decide
  cases h with
  | handled _ h => exact hs.of_handling h
  | answered _ h =>
    rw [answered_frame]
    have e := hs.of_handling h
    exact e
  | swept _ h =>
    obtain ⟨h1, -, -, -, h5, h6, h7, h8⟩ := hs.of_handling h
    obtain ⟨a1, a2, a3⟩ := advance_range hidx hsum
    exact ⟨h1, a1, a2, a3, h5, h6, h7, h8⟩
  | @taken p k r f hk ha hg =>
    rw [answered_frame]
    have hf := taking_of_not_arbitrated s r p hk ha
    have hw : (f r s).2.sweep = s.sweep := by
      have e := congrArg State.sweep hf.frame
      exact e
    have he : (f r s).2.beyondTaking.field = s.beyondTaking.field := congrArg State.field hf.frame
    refine hs.of_sameWalk (hf.clock hclock) hw ⟨?_, ?_, fun x hx => ⟨x, ?_, rfl⟩⟩
    · have e := congrArg FieldEngine.pollPosition he
      exact e
    · have e := congrArg FieldEngine.cycle he
      exact e
    · have e := congrArg FieldEngine.exchange he
      exact e.symm.trans hx
  | saveEnds => rw [answerSave_frame]; exact hs
  | byteReceived p b => rw [receiveByte_frame, settleFrame_frame]; exact hs
  | frameEnds => rw [endFrame_frame]; exact hs
  | replySent => rw [endReply_frame]; exact hs
  | @polls a c kind frame ht =>
    obtain ⟨h1, h2, h3⟩ := nextDue_range hcyc (nextDue_of_turn ht)
    dsimp only at h1 h2 h3
    refine ⟨hclock, hrem, hidx, hsum, ?_, ?_, ?_, started (c := c)⟩ <;> dsimp only [beginPoll] <;> split <;> omega
  | commands => exact ⟨hclock, hrem, hidx, hsum, hpos, htop, hcyc, started (c := 0)⟩
  | @succeeds x content =>
    have hw := writes_succeed s x content
    refine hs.of_sameWalk (hw.supply ▸ hclock) ?_ (sameWalk_of_ended hw)
    have e := congrArg State.sweep hw.frame
    exact e
  | @attemptFails x hrun hx =>
    obtain ⟨hlt, e⟩ | ⟨-, e⟩ := attemptFails_cases s x
    · rw [e]
      refine ⟨hclock, hrem, hidx, hsum, hpos, htop, hcyc, ?_⟩
      rintro y ⟨⟩
      exact ⟨Nat.le_add_left _ _, hlt⟩
    · rw [e]
      have hw := writes_fail s x
      refine hs.of_sameWalk (hw.supply ▸ hclock) ?_ (sameWalk_of_ended hw)
      have e := congrArg State.sweep hw.frame
      exact e
  | noticeTaken => rw [takeNotice_frame]; exact hs
  | clockTicks => exact ⟨Nat.mod_lt _ (by decide), hrem, hidx, hsum, hpos, htop, hcyc, hatt⟩
  | supplyFalls => exact ⟨hclock, hrem, hidx, hsum, hpos, htop, hcyc, nofun⟩
  | supplyFallsThroughHold => exact ⟨hclock, hrem, hidx, hsum, hpos, htop, hcyc, nofun⟩
  | retentionLost => exact ⟨Nat.mod_lt _ (by decide), hrem, hidx, hsum, hpos, htop, hcyc, hatt⟩
  | resetAsserted => exact ⟨hclock, hrem, hidx, hsum, hpos, htop, hcyc, nofun⟩
  | warmReturn => exact countsInRange_of_start restored rfl rfl
  | coldReturn => exact countsInRange_of_start ((coldStart_clock _ _).symm ▸ restored) (coldStart_sweep _ _) (coldStart_field _ _)
  | resetWarm => exact countsInRange_of_start undone rfl rfl
  | resetCold => exact countsInRange_of_start ((coldStart_clock _ _).symm ▸ undone) (coldStart_sweep _ _) (coldStart_field _ _)
  | _ => exact hs

/-! ### The notice queues (R163, R164) -/

/-- A notice queue that holds its bound and its order. -/
def queueOrdered (q : List Notice) : Prop :=
  q.length ≤ Config.noticeCapacity ∧ q.Pairwise fun a b => b.priority ≤ a.priority

theorem queueOrdered_of_sublist {q r : List Notice} (h : q.Sublist r) (hr : queueOrdered r) : queueOrdered q :=
  ⟨h.length_le.trans hr.1, hr.2.sublist h⟩

theorem insertNotice_length (n : Notice) (q : List Notice) : (insertNotice n q).length = q.length + 1 := by
  unfold insertNotice
  rw [List.length_append, List.length_cons, ← Nat.add_assoc, ← List.length_append, List.takeWhile_append_dropWhile]

/-- The new notice stands behind those of its priority or higher and ahead of the lower ones. -/
theorem insertNotice_pairwise (n : Notice) {q : List Notice} (h : q.Pairwise fun a b => b.priority ≤ a.priority) :
    (insertNotice n q).Pairwise fun a b => b.priority ≤ a.priority := by
  induction q with
  | nil => simp [insertNotice]
  | cons m q ih =>
    obtain ⟨hm, hq⟩ := List.pairwise_cons.1 h
    by_cases hn : n.priority ≤ m.priority
    · have e : insertNotice n (m :: q) = m :: insertNotice n q := by simp [insertNotice, hn]
      rw [e, List.pairwise_cons]
      refine ⟨fun a ha => ?_, ih hq⟩
      have hmem : a = n ∨ a ∈ q := by
        simp only [insertNotice, List.mem_append, List.mem_cons] at ha
        obtain ha | rfl | ha := ha
        · exact .inr ((List.takeWhile_sublist _).subset ha)
        · exact .inl rfl
        · exact .inr ((List.dropWhile_sublist _).subset ha)
      obtain rfl | ha := hmem
      · exact hn
      · exact hm a ha
    · have e : insertNotice n (m :: q) = n :: m :: q := by simp [insertNotice, hn]
      rw [e, List.pairwise_cons]
      refine ⟨fun a ha => ?_, h⟩
      obtain rfl | ha := List.mem_cons.1 ha
      · omega
      · have := hm a ha
        omega

theorem queueOrdered_queueAfter (n : Notice) {q : List Notice} (h : queueOrdered q) : queueOrdered (queueAfter n q) := by
  obtain ⟨hlen, hord⟩ := h
  unfold queueAfter
  split
  · exact ⟨by rw [insertNotice_length]; assumption, insertNotice_pairwise n hord⟩
  · split
    · refine ⟨?_, insertNotice_pairwise n (hord.sublist (List.dropLast_sublist q))⟩
      rw [insertNotice_length, List.length_dropLast]
      unfold Config.noticeCapacity at *
      omega
    · exact ⟨hlen, hord⟩

theorem routeNotice_queues (n : Notice) (p : PortId) (h : s.NoticeQueuesOrdered) : (routeNotice n s p).NoticeQueuesOrdered := by
  have placed : (s.setQueue p (queueAfter n (s.queue p))).NoticeQueuesOrdered := by
    intro q
    by_cases hq : p = q
    · subst hq; rw [setQueue_queue_self]; exact queueOrdered_queueAfter n (h p)
    · rw [setQueue_queue_ne s _ hq]; exact h q
  unfold routeNotice
  dsimp only
  split
  · split
    · exact placed
    · exact placed
  · exact h

theorem takeNotice_queues (n : Raised) (h : s.NoticeQueuesOrdered) : (s.takeNotice n).NoticeQueuesOrdered := by
  have listed : (if isAlarm n.kind = true then s.enterAlarm n else s).NoticeQueuesOrdered := by
    split
    · exact h
    · exact h
  exact routeNotice_queues _ _ (routeNotice_queues _ _ (routeNotice_queues _ _ listed))

theorem coldStart_queues (s : State) (straps : Straps) :
    (s.coldStart straps).notices.queues = { cp0 := [], cp1 := [], cp2 := [] } := by
  unfold coldStart
  dsimp only
  split <;> rfl

/-- Queues that stand as they stood, or lost notices, keep their order. -/
theorem noticeQueues_of_eq (h : s.NoticeQueuesOrdered) (e : t.notices.queues = s.notices.queues) : t.NoticeQueuesOrdered := by
  intro p
  rw [queue, e]
  exact h p

theorem noticeQueues_of_empty (e : t.notices.queues = { cp0 := [], cp1 := [], cp2 := [] }) : t.NoticeQueuesOrdered := by
  intro p
  rw [queue, e]
  cases p <;> exact ⟨Nat.zero_le _, .nil⟩

theorem Move.keeps_noticeQueues (hs : s.NoticeQueuesOrdered) (h : Move s t) : t.NoticeQueuesOrdered := by
  have handled {u : State} (hu : Handling s u) : u.notices.queues = s.notices.queues := by
    have e := congrArg (fun u : State => u.notices.queues) hu.frame
    exact e
  have ended {u : State} (hu : Writes 0 s.endExchange u) : u.notices.queues = s.notices.queues := by
    have e := congrArg (fun u : State => u.notices.queues) hu.frame
    exact e
  cases h with
  | handled _ h => exact noticeQueues_of_eq hs (handled h)
  | answered _ h =>
    rw [answered_frame]
    have e := handled h
    exact noticeQueues_of_eq hs e
  | swept _ h =>
    have e := handled h
    exact noticeQueues_of_eq hs e
  | @taken p k r f hk ha hg =>
    rw [answered_frame]
    intro q
    exact queueOrdered_of_sublist ((taking_of_not_arbitrated s r p hk ha).queues q) (hs q)
  | saveEnds => rw [answerSave_frame]; exact hs
  | byteReceived p b => rw [receiveByte_frame, settleFrame_frame]; exact hs
  | frameEnds => rw [endFrame_frame]; exact hs
  | replySent => rw [endReply_frame]; exact hs
  | @succeeds x content => exact noticeQueues_of_eq hs (ended (writes_succeed s x content))
  | @attemptFails x =>
    obtain ⟨-, e⟩ | ⟨-, e⟩ := attemptFails_cases s x
    · rw [e]; exact hs
    · rw [e]; exact noticeQueues_of_eq hs (ended (writes_fail s x))
  | noticeTaken => exact takeNotice_queues _ hs
  | warmReturn => exact noticeQueues_of_empty rfl
  | coldReturn => exact noticeQueues_of_empty (coldStart_queues _ _)
  | resetWarm => exact noticeQueues_of_empty rfl
  | resetCold => exact noticeQueues_of_empty (coldStart_queues _ _)
  | _ => exact hs

end State

/-- Settles O6. -/
theorem stepsKeepTheCommandQueue : Obligations.StepsKeepTheCommandQueue := by
  unfold Obligations.StepsKeepTheCommandQueue
  intro s t hs h
  obtain ⟨q, hm⟩ := State.move_of_step h
  exact hm.keeps_commandQueue (s := s.withPending q) hs

/-- Settles O4. -/
theorem stepsKeepCountsInRange : Obligations.StepsKeepCountsInRange := by
  unfold Obligations.StepsKeepCountsInRange
  intro s t hs h
  obtain ⟨q, hm⟩ := State.move_of_step h
  exact hm.keeps_counts (s := s.withPending q) hs

/-- Settles O7. -/
theorem stepsKeepTheNoticeQueues : Obligations.StepsKeepTheNoticeQueues := by
  unfold Obligations.StepsKeepTheNoticeQueues
  intro s t hs h
  obtain ⟨q, hm⟩ := State.move_of_step h
  exact hm.keeps_noticeQueues (s := s.withPending q) hs

end Sys2Proof.Machine
end

section
/-! PROOFS. The stop (R135, R149, R184, R189 to R192): what a port's receiver may do while it stands stopped, and that every move
keeps the supply unit, the ports, the field engine and the sweep in agreement. -/

namespace Sys2Proof.Machine

namespace State

variable {s t : State}

/-! ### Ports that stand stopped -/

/-- Between the two states a port receiver neither enters nor leaves STOPPED, and there keeps the replies that are ready. -/
structure PortStays (a b : Port) : Prop where
  stopped : b.link = .stopped ↔ a.link = .stopped
  ready : a.link = .stopped → b.ready = a.ready

/-- The same of every port. -/
def PortsStay (s t : State) : Prop := ∀ p, PortStays (s.port p) (t.port p)

theorem PortStays.refl (a : Port) : PortStays a a := ⟨Iff.rfl, fun _ => rfl⟩

theorem PortStays.trans {a b c : Port} (h : PortStays a b) (k : PortStays b c) : PortStays a c :=
  ⟨k.stopped.trans h.stopped, fun ha => (k.ready (h.stopped.2 ha)).trans (h.ready ha)⟩

/-- A receiver that works, before and after. -/
theorem PortStays.of_working {a b : Port} (ha : a.link ≠ .stopped) (hb : b.link ≠ .stopped) : PortStays a b :=
  ⟨iff_of_false hb ha, fun h => absurd h ha⟩

theorem PortsStay.refl (s : State) : PortsStay s s := fun _ => .refl _

theorem PortsStay.trans {u : State} (h : PortsStay s t) (k : PortsStay t u) : PortsStay s u := fun p => (h p).trans (k p)

theorem PortsStay.of_ports (h : t.ports = s.ports) : PortsStay s t := fun p => by
  rw [port, port, h]
  exact .refl _

theorem portsStay_setPort {p : PortId} {q : Port} (h : PortStays (s.port p) q) : PortsStay s (s.setPort p q) := fun r => by
  by_cases hr : p = r
  · subst hr; rwa [setPort_port_self]
  · rw [setPort_port_ne s q hr]; exact .refl _

theorem portsStay_deliver (s : State) (p : PortId) (r : Reply) : PortsStay s (s.deliver p r) := by
  unfold deliver
  dsimp only
  split
  · rename_i hl
    exact portsStay_setPort (.of_working (by simp [hl]) nofun)
  · exact .refl s
  · rename_i hn
    exact portsStay_setPort (.of_working hn hn)

theorem portsStay_markTaken (s : State) (p : PortId) : PortsStay s (s.markTaken p) := portsStay_setPort ⟨Iff.rfl, fun _ => rfl⟩

theorem portsStay_answered (s : State) (p : PortId) (r : Request) (c : ResultCode) (d : List Byte) :
    PortsStay s (s.answered p r c d) := (portsStay_markTaken s p).trans (portsStay_deliver _ _ _)

theorem toIdle_working (q : Port) : q.toIdle.link ≠ .stopped := by
  rw [toIdle_eq]
  unfold sends
  split <;> simp

theorem portsStay_toIdle {p : PortId} {q : Port} (h : (s.port p).link ≠ .stopped) : PortsStay s (s.setPort p q.toIdle) :=
  portsStay_setPort (.of_working h (toIdle_working q))

theorem portsStay_takeFrame (s : State) (p : PortId) (tag code : Byte) (body : List Byte) :
    PortsStay s (s.takeFrame p tag code body) := by
  have held (r : Request) : PortsStay s (s.setPort p { s.port p with outstanding := some r }) :=
    portsStay_setPort ⟨Iff.rfl, fun _ => rfl⟩
  unfold takeFrame
  dsimp only
  split
  · exact portsStay_deliver s p _
  · split
    · exact held _
    · exact ((held _).trans (portsStay_markTaken _ p)).trans (portsStay_deliver _ _ _)

theorem portsStay_endFrame {p : PortId} (bytes : List Byte) (h : (s.port p).link ≠ .stopped) :
    PortsStay s (s.endFrame p bytes) := by
  have idle : PortsStay s (s.setPort p (s.port p).toIdle) := portsStay_toIdle h
  unfold endFrame
  dsimp only
  split
  · exact idle.trans (portsStay_takeFrame _ _ _ _ _)
  · exact idle

theorem portsStay_settleFrame (s : State) (p : PortId) : PortsStay s (s.settleFrame p) := by
  unfold settleFrame
  split
  · rename_i hl
    split
    · exact portsStay_endFrame _ (by simp [hl])
    · exact .refl s
  · exact .refl s

theorem portsStay_receiveByte (s : State) (p : PortId) (b : Byte) : PortsStay s (s.receiveByte p b) := by
  have works {q : Port} (h : (s.port p).link ≠ .stopped) (hq : q.link ≠ .stopped) : PortsStay s (s.setPort p q) :=
    portsStay_setPort (.of_working h hq)
  unfold receiveByte
  dsimp only
  split
  · rename_i hl
    split
    · exact works (by simp [hl]) nofun
    · exact .refl s
  · rename_i hl
    split
    · exact works (by simp [hl]) (toIdle_working _)
    · exact works (by simp [hl]) nofun
  · rename_i hl
    exact works (by simp [hl]) nofun
  · exact .refl s
  · exact .refl s

theorem portsStay_answerSave (s : State) (dest : Option PortId) (c : ResultCode) : PortsStay s (s.answerSave dest c) := by
  unfold answerSave
  split
  · exact .refl s
  · split
    · exact .refl s
    · exact portsStay_deliver s _ _

theorem portsStay_endReply {p : PortId} (r : Reply) (h : (s.port p).link ≠ .stopped) : PortsStay s (s.endReply p r) := by
  unfold endReply
  split
  · exact portsStay_toIdle h
  · exact (PortsStay.of_ports (closeUndo_ports s p)).trans (portsStay_toIdle h)

/-! ### The invariant of the stop -/

/-- While the part runs no port stands stopped. -/
theorem StandsStopped.working (hs : s.StandsStopped) (hrun : s.running = true) (p : PortId) : (s.port p).link ≠ .stopped := by
  obtain ⟨-, -, -, hl, -⟩ := hs
  intro h
  rw [(hl p).1 h] at hrun
  cases hrun

/-- The part runs where a port's line does not stand stopped. -/
theorem StandsStopped.runs (hs : s.StandsStopped) {p : PortId} (h : (s.port p).link ≠ .stopped) : s.running = true := by
  obtain ⟨-, -, -, hl, -⟩ := hs
  by_contra hrun
  exact h ((hl p).2 (Bool.eq_false_iff.2 hrun))

/-- The supply as the invariant of the stop reads it. -/
def supplyAgrees (u : SupplyUnit) : Prop :=
  (u.supply ≠ .down → u.retention = true ∧ u.lpen = true) ∧
    (u.supply = .down → u.lpen = false ∧ u.resetHeld = false ∧ u.save = none) ∧
    (u.supply = .normal → u.restoring = false)

/-- A running state whose supply agrees and whose ports work is sound. -/
theorem standsStopped_of_running (hu : supplyAgrees t.supply) (hrun : t.running = true)
    (hp : ∀ p, (t.port p).link ≠ .stopped) : t.StandsStopped := by
  obtain ⟨h1, h2, h3⟩ := hu
  exact ⟨h1, h2, h3, fun p => iff_of_false (hp p) (by simp [hrun]), fun h => by rw [hrun] at h; cases h⟩

/-- The parts of the state that the invariant of the stop reads stand as they did, but for the ports' working. -/
theorem StandsStopped.of_same (hs : s.StandsStopped) (hu : supplyAgrees t.supply) (hrun : t.running = s.running)
    (hp : PortsStay s t)
    (hf : s.running = false → t.field.exchange = s.field.exchange ∧ t.field.handover = s.field.handover ∧
      t.field.waitingHeld = s.field.waitingHeld ∧ t.sweep.waiting = s.sweep.waiting) : t.StandsStopped := by
  obtain ⟨-, -, -, hl, hstop⟩ := hs
  obtain ⟨h1, h2, h3⟩ := hu
  refine ⟨h1, h2, h3, fun p => ?_, fun h => ?_⟩
  · rw [(hp p).stopped, hrun]; exact hl p
  · rw [hrun] at h
    obtain ⟨e1, e2, e3, e4⟩ := hf h
    obtain ⟨a1, a2, a3, a4, a5⟩ := hstop h
    refine ⟨e1.trans a1, e2.trans a2, e3.trans a3, e4.trans a4, fun p => ?_⟩
    exact ((hp p).ready ((hl p).2 h)).trans (a5 p)

theorem StandsStopped.supply (hs : s.StandsStopped) : supplyAgrees s.supply := by
  obtain ⟨h1, h2, h3, -, -⟩ := hs
  exact ⟨h1, h2, h3⟩

/-- While the part runs, whatever leaves the supply's own fields and works at the ports keeps the invariant. -/
theorem StandsStopped.of_working (hs : s.StandsStopped) (hrun : s.running = true)
    (hu : t.supply = { s.supply with clock := t.supply.clock, clockValid := t.supply.clockValid, save := t.supply.save,
                                     store := t.supply.store })
    (hp : PortsStay s t) : t.StandsStopped := by
  have htrun : t.running = true := by
    unfold running at hrun ⊢
    rw [hu]
    exact hrun
  refine standsStopped_of_running ?_ htrun fun p h => hs.working hrun p ((hp p).stopped.1 h)
  obtain ⟨h1, h2, h3⟩ := hs.supply
  rw [hu]
  refine ⟨h1, fun hd => ?_, h3⟩
  have hd : s.supply.supply = .down := hd
  simp [running, hd] at hrun

theorem Handling.supply (h : Handling s t) :
    t.supply = { s.supply with clock := t.supply.clock, clockValid := t.supply.clockValid, save := t.supply.save,
                               store := t.supply.store } := by
  have e := congrArg State.supply h.frame
  have e : ({ t.supply with clock := 0, clockValid := false } : SupplyUnit) = { s.supply with clock := 0, clockValid := false } := e
  injection e with _ _ e3 e4 e5 e6 e7 e8 e9
  cases ht : t.supply
  simp_all

theorem Handling.ports (h : Handling s t) : t.ports = s.ports := by
  have e := congrArg State.ports h.frame
  exact e

/-- The stop itself: every port STOPPED without a reply, the loop and the sweep at rest (R135, R149, R184). -/
theorem standsStopped_of_stopBlocks {u : SupplyUnit} {b : Option Show} {n : NoticeUnit} (hu : supplyAgrees u)
    (hrun : (u.supply != .down && !u.resetHeld) = false) :
    ({ s.stopBlocks with supply := u, field := { s.stopBlocks.field with broadcast := b }, notices := n } : State).StandsStopped := by
  obtain ⟨h1, h2, h3⟩ := hu
  refine ⟨h1, h2, h3, fun p => iff_of_true ?_ hrun, fun _ => ⟨rfl, rfl, rfl, rfl, fun p => ?_⟩⟩ <;> cases p <;> rfl

theorem undoTaken_supply (s : State) : s.undoTaken.supply = { s.supply with clock := s.undoTaken.supply.clock } := by
  rw [undoTaken_eq]

/-- A start makes the ports work and releases RESET (R185, R192). -/
theorem standsStopped_of_start {u : SupplyUnit} (hu : supplyAgrees u) (hd : u.supply ≠ .down)
    (ht : t.supply = { u with resetHeld := false, retention := true, clock := t.supply.clock,
                              clockValid := t.supply.clockValid, store := t.supply.store, save := t.supply.save })
    (hp : t.ports = { cp0 := Port.idle, cp1 := Port.idle, cp2 := Port.idle }) : t.StandsStopped := by
  obtain ⟨h1, h2, h3⟩ := hu
  have hrun : t.running = true := by
    unfold running
    rw [ht]
    simpa using hd
  refine standsStopped_of_running ?_ hrun fun p => ?_
  · rw [ht]
    exact ⟨fun _ => ⟨rfl, (h1 hd).2⟩, fun h => absurd h hd, h3⟩
  · rw [port, hp]
    cases p <;> exact nofun

theorem coldStart_supply (s : State) (straps : Straps) :
    (s.coldStart straps).supply = { s.supply with retention := true, resetHeld := false, clockValid := false } := by
  unfold coldStart
  dsimp only
  split <;> rfl

theorem coldStart_ports (s : State) (straps : Straps) :
    (s.coldStart straps).ports = { cp0 := Port.idle, cp1 := Port.idle, cp2 := Port.idle } := by
  unfold coldStart
  dsimp only
  split <;> rfl

theorem running_of_turn {n : NextTurn} (h : s.turn = some n) : s.running = true := by
  unfold turn at h
  split at h
  · rename_i hm
    unfold mayBegin at hm
    simp_all
  · cases h

theorem Move.keeps_stop (hs : s.StandsStopped) (h : Move s t) : t.StandsStopped := by
  obtain ⟨h1, h2, h3⟩ := hs.supply
  have down : supplyAgrees s.enterDown.supply := ⟨fun h => absurd rfl h, fun _ => ⟨rfl, rfl, rfl⟩, nofun⟩
  have undone : supplyAgrees s.undoTaken.supply := by rw [undoTaken_supply]; exact ⟨h1, h2, h3⟩
  have restored : supplyAgrees { s.undoTaken.restored.supply with retention := true } :=
    ⟨fun _ => ⟨rfl, rfl⟩, nofun, fun _ => rfl⟩
  cases h with
  | handled hrun h => exact hs.of_working hrun h.supply (.of_ports h.ports)
  | answered hg h =>
    refine hs.of_working hg.2 ?_ ((PortsStay.of_ports h.ports).trans (portsStay_answered _ _ _ _ _))
    rw [answered_frame]
    have e := h.supply
    exact e
  | swept hrun h =>
    have hsupply := h.supply
    have hports := h.ports
    exact hs.of_working hrun hsupply (.of_ports hports)
  | sweepWaits hrun => exact hs.of_working hrun rfl (.of_ports rfl)
  | @taken p k r f hk ha hg =>
    have hf := taking_of_not_arbitrated s r p hk ha
    have hports : (f r s).2.ports = s.ports := by
      have e := congrArg State.ports hf.frame
      exact e
    refine hs.of_working hg.2 ?_ ((PortsStay.of_ports hports).trans (portsStay_answered _ _ _ _ _))
    rw [answered_frame]
    have e := congrArg State.supply hf.frame
    have e : ({ (f r s).2.supply with clock := 0 } : SupplyUnit) = { s.supply with clock := 0 } := e
    injection e with _ e2 e3 e4 e5 e6 e7 e8 e9
    dsimp only
    cases ht : (f r s).2.supply
    simp_all
  | saveBegins hg => exact hs.of_working hg.2 rfl (portsStay_markTaken _ _)
  | @saveEnds v ok hv =>
    have hp := portsStay_answerSave
      { s with supply.save := none, supply.store := if ok then some v.snapshot else none } v.replyTo
      (if ok then .ok else .storeFault)
    refine hs.of_same ?_ ?_ hp fun _ => ?_
    · rw [answerSave_frame]
      exact ⟨h1, fun hd => ⟨(h2 hd).1, (h2 hd).2.1, rfl⟩, h3⟩
    · rw [answerSave_frame]; rfl
    · rw [answerSave_frame]; exact ⟨rfl, rfl, rfl, rfl⟩
  | byteReceived p b =>
    have hp := (portsStay_settleFrame s p).trans (portsStay_receiveByte _ p b)
    rw [receiveByte_frame, settleFrame_frame] at hp ⊢
    exact hs.of_same ⟨h1, h2, h3⟩ rfl hp fun _ => ⟨rfl, rfl, rfl, rfl⟩
  | @frameEnds p bytes hl =>
    have hw : (s.port p).link ≠ .stopped := by simp [hl]
    refine hs.of_working (hs.runs hw) ?_ (portsStay_endFrame bytes hw)
    rw [endFrame_frame]
  | @frameDropped p _ hl =>
    have hw : (s.port p).link ≠ .stopped := by rw [hl]; exact nofun
    exact hs.of_working (hs.runs hw) rfl (portsStay_toIdle hw)
  | @replySent p r hl =>
    have hw : (s.port p).link ≠ .stopped := by rw [hl]; exact nofun
    refine hs.of_working (hs.runs hw) ?_ (portsStay_endReply r hw)
    rw [endReply_frame]
  | polls _ _ ht => exact hs.of_working (running_of_turn ht) rfl (.of_ports rfl)
  | commands _ ht => exact hs.of_working (running_of_turn ht) rfl (.of_ports rfl)
  | @succeeds x content hrun _ =>
    have hw := writes_succeed s x content
    refine hs.of_working hrun ?_ (.of_ports ?_)
    · rw [hw.supply]; rfl
    · have e := congrArg State.ports hw.frame
      exact e
  | @attemptFails x hrun _ =>
    obtain ⟨-, e⟩ | ⟨-, e⟩ := attemptFails_cases s x
    · rw [e]; exact hs.of_working hrun rfl (.of_ports rfl)
    · rw [e]
      have hw := writes_fail s x
      refine hs.of_working hrun ?_ (.of_ports ?_)
      · rw [hw.supply]; rfl
      · have e := congrArg State.ports hw.frame
        exact e
  | noticeTaken => rw [takeNotice_frame]; exact hs
  | supplyHolds h =>
    refine hs.of_same ⟨fun _ => h1 (by simp [h]), nofun, nofun⟩ ?_ (.of_ports rfl) fun _ => ⟨rfl, rfl, rfl, rfl⟩
    simp only [running, enterHold, notify_supply, h]; rfl
  | restoreTimer v h => exact hs.of_same ⟨h1, h2, fun hn => absurd hn h⟩ rfl (.of_ports rfl) fun _ => ⟨rfl, rfl, rfl, rfl⟩
  | supplyReturns h =>
    refine hs.of_same ⟨fun _ => h1 (by simp [h]), nofun, fun _ => rfl⟩ ?_ (.of_ports rfl) fun _ => ⟨rfl, rfl, rfl, rfl⟩
    simp only [running, h]; rfl
  | supplyFalls => exact standsStopped_of_stopBlocks down rfl
  | supplyFallsThroughHold => exact standsStopped_of_stopBlocks (s := s.enterHold) down rfl
  | retentionLost h =>
    exact hs.of_same ⟨fun hn => absurd h hn, h2, h3⟩ rfl (.of_ports rfl) fun _ => ⟨rfl, rfl, rfl, rfl⟩
  | warmReturn straps => exact standsStopped_of_start restored nofun rfl rfl
  | coldReturn straps =>
    refine standsStopped_of_start restored nofun ?_ (coldStart_ports _ _)
    rw [coldStart_supply]
  | resetAsserted hrun =>
    have hd : s.supply.supply ≠ .down := fun h => by simp [running, h] at hrun
    exact standsStopped_of_stopBlocks (u := { s.supply with resetHeld := true }) ⟨h1, fun h => absurd h hd, h3⟩
      (by simp)
  | resetWarm straps h =>
    refine standsStopped_of_start undone ?_ rfl rfl
    rwa [undoTaken_supply]
  | resetCold straps h =>
    refine standsStopped_of_start undone ?_ ?_ (coldStart_ports _ _)
    · rwa [undoTaken_supply]
    · rw [State.resetCold, coldStart_supply]
  | _ => exact hs

end State

/-- Settles O5. -/
theorem stepsKeepTheStop : Obligations.StepsKeepTheStop := by
  unfold Obligations.StepsKeepTheStop
  intro s t hs h
  obtain ⟨q, hm⟩ := State.move_of_step h
  exact hm.keeps_stop (s := s.withPending q) hs

end Sys2Proof.Machine
end

section
/-! PROOFS. The alarm list (R167, R168, R185) and what is remembered of requests taken without a grant (R176, R185): sound at every
step; and the two states a run can begin from. -/

namespace Sys2Proof.Machine

namespace State

variable {s t : State}

/-! ### Alarm lists -/

theorem alarmsSound_nil : alarmsSound [] := ⟨Nat.zero_le _, nofun, .nil, nofun⟩

theorem alarmsSound_of_sublist {l m : List Alarm} (h : l.Sublist m) (hm : alarmsSound m) : alarmsSound l := by
  obtain ⟨h1, h2, h3, h4⟩ := hm
  exact ⟨h.length_le.trans h1, fun a ha => h2 a (h.subset ha), h3.sublist h, fun a ha => h4 a (h.subset ha)⟩

/-- An alarm entered joins a list that has room and does not list it (R167). -/
theorem alarmsSound_entered {n : Raised} (hn : isAlarm n.kind = true) (e : Nat) {a : List Alarm × Bool} (h : alarmsSound a.1) :
    alarmsSound (alarmEntered n e a).1 := by
  obtain ⟨h1, h2, h3, h4⟩ := id h
  unfold alarmEntered
  split
  · exact h
  · rename_i hnew
    split
    · rename_i hroom
      refine ⟨by simpa using hroom, fun r hr => ?_, ?_, fun r hr he => ?_⟩
      · obtain hr | hr := List.mem_append.1 hr
        · exact h2 r hr
        · rw [List.mem_singleton.1 hr]; exact hn
      · refine List.pairwise_append.2 ⟨h3, List.pairwise_singleton _ _, fun r hr x hx => ?_⟩
        rw [List.mem_singleton.1 hx]
        rintro ⟨hk, hp⟩
        exact hnew (List.any_eq_true.2 ⟨r, hr, by simp [hk, hp]⟩)
      · obtain hr | hr := List.mem_append.1 hr
        · exact h4 r hr he
        · rw [List.mem_singleton.1 hr] at he; cases he
    · exact h

theorem Alarm.tick_same (a : Alarm) : a.tick.kind = a.kind ∧ a.tick.place = a.place := by
  unfold Alarm.tick
  split
  · exact ⟨rfl, rfl⟩
  · split <;> exact ⟨rfl, rfl⟩

theorem Alarm.tick_escalated (a : Alarm) (h : a.escalated = true → a.countdown = 0) :
    a.tick.escalated = true → a.tick.countdown = 0 := by
  unfold Alarm.tick
  split
  · exact h
  · split
    · exact fun _ => rfl
    · exact fun he => absurd he ‹_›

theorem alarmsSound_tick {l : List Alarm} (h : alarmsSound l) : alarmsSound (l.map Alarm.tick) := by
  obtain ⟨h1, h2, h3, h4⟩ := h
  refine ⟨by simpa using h1, ?_, ?_, ?_⟩
  · simp only [List.forall_mem_map, (Alarm.tick_same _).1]
    exact h2
  · refine List.pairwise_map.2 (h3.imp fun hab => ?_)
    rwa [(Alarm.tick_same _).1, (Alarm.tick_same _).1, (Alarm.tick_same _).2, (Alarm.tick_same _).2]
  · simp only [List.forall_mem_map]
    exact fun a ha => Alarm.tick_escalated a (h4 a ha)

/-! ### The alarm list of the state, and the lists that would stand without an ACK_ALARM -/

/-- The alarm list is sound, and so is each that an entry remembers. -/
def AlarmsHold (s : State) : Prop :=
  alarmsSound s.notices.alarms ∧ ∀ u ∈ s.undo, ∀ which l full, u.before = .alarms which l full → alarmsSound l

theorem AlarmsHold.of_eq (h : s.AlarmsHold) (ha : t.notices.alarms = s.notices.alarms) (hu : t.undo.Sublist s.undo) :
    t.AlarmsHold := ⟨ha ▸ h.1, fun u hm => h.2 u (hu.subset hm)⟩

theorem AlarmsHold.of_handling (h : s.AlarmsHold) (k : Handling s t) : t.AlarmsHold := by
  refine h.of_eq ?_ k.undo
  have e := congrArg (fun u : State => u.notices.alarms) k.frame
  exact e

theorem AlarmsHold.of_ended (h : s.AlarmsHold) (k : Writes 0 s.endExchange t) : t.AlarmsHold := by
  refine h.of_eq ?_ k.undo
  have e := congrArg (fun u : State => u.notices.alarms) k.frame
  exact e

theorem AlarmsHold.onAlarms (h : s.AlarmsHold) {f : List Alarm × Bool → List Alarm × Bool}
    (hf : ∀ a, alarmsSound a.1 → alarmsSound (f a).1) : (s.onAlarms f).AlarmsHold := by
  refine ⟨hf _ h.1, fun u hu which l full he => ?_⟩
  obtain ⟨v, hv, rfl⟩ := List.mem_map.1 hu
  cases hb : v.before with
  | alarms w m b =>
    simp only [hb] at he
    cases he
    exact hf _ (h.2 v hv _ _ _ hb)
  | _ => simp only [hb] at he; cases he

/-- What remains to be undone of an older ACK_ALARM is its list without what the newer removed. -/
theorem onceStands_alarms {newer older : Before} {which : Option (NoticeKind × Place)} {l : List Alarm} {full : Bool}
    (h : newer.onceStands older = some (.alarms which l full)) :
    ∃ m b, older = .alarms which m b ∧ l.Sublist m := by
  unfold Before.onceStands at h
  split at h
  · split at h
    · cases h
    · cases h
      exact ⟨_, _, rfl, ackFrom_sublist _ _⟩
    · cases h
    · cases h
  · cases h
    exact ⟨l, full, rfl, List.Sublist.refl l⟩

theorem settledUndo_alarms {p : PortId} {us : List Undo}
    (h : ∀ u ∈ us, ∀ which l full, u.before = .alarms which l full → alarmsSound l) :
    ∀ u ∈ settledUndo p us, ∀ which l full, u.before = .alarms which l full → alarmsSound l := by
  induction us with
  | nil => exact h
  | cons v us ih =>
    unfold settledUndo
    split
    · intro u hu which l full he
      obtain ⟨o, ho, hmap⟩ := List.mem_filterMap.1 hu
      obtain ⟨b, hb, rfl⟩ := Option.map_eq_some_iff.1 hmap
      have he : b = .alarms which l full := he
      obtain ⟨m, c, hm, hl⟩ := onceStands_alarms (he ▸ hb)
      exact alarmsSound_of_sublist hl (h o (List.mem_cons_of_mem v ho) which m c hm)
    · intro u hu
      obtain rfl | hu := List.mem_cons.1 hu
      · exact h u List.mem_cons_self
      · exact ih (fun w hw => h w (List.mem_cons_of_mem v hw)) u hu

theorem takeNotice_alarms (n : Raised) (h : s.AlarmsHold) : (s.takeNotice n).AlarmsHold := by
  have one (m : Notice) (t : State) (p : PortId) (ht : t.AlarmsHold) : (routeNotice m t p).AlarmsHold := by
    unfold routeNotice
    dsimp only
    split
    · split <;> exact ht
    · exact ht
  have listed : (if isAlarm n.kind = true then s.enterAlarm n else s).AlarmsHold := by
    split
    · exact h.onAlarms fun a ha => alarmsSound_entered ‹_› _ ha
    · exact h
  exact one _ _ _ (one _ _ _ (one _ _ _ listed))

theorem undoTaken_alarms (h : s.AlarmsHold) : s.undoTaken.AlarmsHold := by
  obtain ⟨t, ht, e⟩ := undoTaken_induction (P := fun t => alarmsSound t.notices.alarms) s h.1 fun t ht u hu => by
    cases hb : u.before with
    | alarms w l f => exact h.2 u hu w l f hb
    | port p v => cases p <;> exact ht
    | held a b => simpa [putBack] using ht
    | _ => exact ht
  rw [e]
  exact ⟨ht, nofun⟩

theorem coldStart_alarms (s : State) (straps : Straps) : (s.coldStart straps).notices.alarms = [] := by
  unfold coldStart
  dsimp only
  split <;> rfl

theorem coldStart_undo (s : State) (straps : Straps) : (s.coldStart straps).undo = s.undo := by
  unfold coldStart
  dsimp only
  split <;> rfl

@[simp] theorem undoTaken_undo (s : State) : s.undoTaken.undo = [] := rfl

theorem Move.keeps_alarms (hs : s.StandsStopped) (ha : s.AlarmListSound) (h : Move s t) : t.AlarmListSound := by
  have running (hrun : s.running = true) : s.AlarmsHold := by
    refine ha (hs.supply.1 fun hd => ?_).1
    simp [State.running, hd] at hrun
  have cold {u : State} (hu : u.notices.alarms = []) (hn : u.undo = []) : u.AlarmsHold :=
    ⟨hu ▸ alarmsSound_nil, by rw [hn]; exact nofun⟩
  cases h with
  | handled hrun h => exact fun _ => (running hrun).of_handling h
  | answered hg h =>
    rw [answered_frame]
    have e := (running hg.2).of_handling h
    exact fun _ => e
  | swept hrun h =>
    have e := (running hrun).of_handling h
    exact fun _ => e
  | @taken p k r f hk hn hg =>
    rw [answered_frame]
    have hf := taking_of_not_arbitrated s r p hk hn
    have hold := running hg.2
    have hnow := alarmsSound_of_sublist hf.alarms hold.1
    refine fun _ => ⟨hnow, fun u hu which l full hb => ?_⟩
    have hu : u ∈ (f r s).2.undo := hu
    cases hf.undo with
    | nothing h => exact hold.2 u (h ▸ hu) which l full hb
    | one b h _ hw =>
      rw [h] at hu
      obtain rfl | hu := List.mem_cons.1 hu
      · rw [hw which l full hb]; exact hold.1
      · exact hold.2 u hu which l full hb
  | saveEnds => rw [answerSave_frame]; exact ha
  | byteReceived p b => rw [receiveByte_frame, settleFrame_frame]; exact ha
  | frameEnds => rw [endFrame_frame]; exact ha
  | replySent =>
    rw [endReply_frame]
    refine fun hr => ⟨(ha hr).1, ?_⟩
    dsimp only
    split
    · exact (ha hr).2
    · exact settledUndo_alarms (ha hr).2
  | @succeeds x content hrun => exact fun _ => (running hrun).of_ended (writes_succeed s x content)
  | @attemptFails x hrun =>
    obtain ⟨-, e⟩ | ⟨-, e⟩ := attemptFails_cases s x
    · rw [e]; exact ha
    · rw [e]; exact fun _ => (running hrun).of_ended (writes_fail s x)
  | noticeTaken =>
    intro hr
    rw [takeNotice_frame] at hr
    exact takeNotice_alarms _ (ha hr)
  | escalationTicks => exact fun hr => AlarmsHold.onAlarms (ha hr) fun a h => alarmsSound_tick h
  | retentionLost => exact nofun
  | warmReturn straps _ hr => exact fun _ => undoTaken_alarms (ha hr)
  | coldReturn => exact fun _ => cold (coldStart_alarms _ _) (coldStart_undo _ _)
  | resetWarm straps hd => exact fun _ => undoTaken_alarms (ha (hs.supply.1 hd).1)
  | resetCold => exact fun _ => cold (coldStart_alarms _ _) (coldStart_undo _ _)
  | _ => exact ha

/-! ### What is remembered of the requests taken without a grant (R176, R185) -/

theorem undoSound_iff (s : State) :
    s.UndoSound ↔
      (∀ u ∈ s.undo, ∃ r k, (s.port u.port).outstanding = some r ∧ r.taken = true ∧ kindOf r.code = some k ∧
        u.before.belongs u.port k) ∧ s.undo.Pairwise fun a b => a.port ≠ b.port := by
  unfold UndoSound
  refine and_congr_left fun _ => forall₂_congr fun u _ => exists₂_congr fun r k => ?_
  cases u.before <;> rfl

end State

/-- Settles O8. -/
theorem stepsKeepTheAlarmList : Obligations.StepsKeepTheAlarmList := by
  unfold Obligations.StepsKeepTheAlarmList
  rintro s t ⟨hs, ha⟩ h
  obtain ⟨q, hm⟩ := State.move_of_step h
  exact hm.keeps_alarms (s := s.withPending q) hs ha

end Sys2Proof.Machine
end

section
/-! PROOFS. The states that a run begins from. -/
namespace Sys2Proof.Machine

/-! ### The states that a run begins from -/

namespace State

theorem reset_band (k : Nat) : State.reset.band k = none := by
  have h : State.reset.engine.bands = Vector.replicate 2048 none := rfl
  unfold band
  split
  · rfl
  · rw [h, tableGet_replicate]

theorem reset_locker (n : Nat) : State.reset.locker n = Locker.blank .unfitted 0 := by
  have h : State.reset.engine.lockers = Vector.replicate 1024 (Locker.blank .unfitted 0) := rfl
  unfold locker
  split
  · rfl
  · rw [h, tableGet_replicate]

theorem reset_cabin (c : Nat) : State.reset.cabin c = Cabin.blank .unfitted 0 := by
  have h : State.reset.engine.cabins = Vector.replicate 64 (Cabin.blank .unfitted 0) := rfl
  unfold cabin
  split
  · rfl
  · rw [h, tableGet_replicate]

theorem reset_lockersAgree : State.reset.LockersAgree := by
  refine ⟨?_, ?_, ?_⟩
  · simp [reset_band, reset_locker, Locker.blank]
  · simp [reset_band]
  · simp [reset_locker, Locker.blank]

theorem reset_cabinsAgree : State.reset.CabinsAgree := by
  refine ⟨?_, ?_, ?_⟩
  · simp [reset_band, reset_cabin, Cabin.blank]
  · simp [reset_band]
  · simp [reset_cabin, Cabin.blank]

theorem reset_serialMapAgrees : State.reset.SerialMapAgrees := by
  refine ⟨.nil, fun m k => ?_⟩
  simp only [reset_band, reduceCtorEq, false_and, exists_false, iff_false]
  exact nofun

theorem reset_bindingTablesAgree : State.reset.BindingTablesAgree := by
  refine fun _ => ⟨reset_lockersAgree, reset_cabinsAgree, reset_serialMapAgrees, ?_, ?_, ?_⟩
  · simp [GroupsAgree, reset_band]
  · simp [ChainsAgree, reset_band]
  · simp [HoldingsAgree, reset_band]

theorem reset_clock : State.reset.supply.clock < Config.day := show 0 < 86400 by decide

theorem reset_sweepRound :
    State.reset.sweep.index + State.reset.sweep.remaining = Config.roundSteps + 1 := by
  rw [show State.reset.sweep.index = 1 from rfl, show State.reset.sweep.remaining = 3135 from rfl,
    show Config.roundSteps = 3135 from rfl]

theorem reset_counts : State.reset.CountsInRange := by
  have hremaining : 1 ≤ State.reset.sweep.remaining := show 1 ≤ 3135 by decide
  have hindex : 1 ≤ State.reset.sweep.index := show 1 ≤ 1 by decide
  have hposition : 1 ≤ State.reset.field.pollPosition := show 1 ≤ 1 by decide
  have hlast : State.reset.field.pollPosition ≤ 144 := show 1 ≤ 144 by decide
  have hcycle : State.reset.field.cycle ≤ 15 := show 0 ≤ 15 by decide
  exact ⟨reset_clock, hremaining, hindex, reset_sweepRound, hposition, hlast, hcycle, nofun⟩

theorem reset_standsStopped : State.reset.StandsStopped :=
  standsStopped_of_running ⟨fun _ => ⟨rfl, rfl⟩, nofun, fun _ => rfl⟩ rfl fun p => by cases p <;> exact nofun

theorem powerOn_standsStopped : State.powerOn.StandsStopped :=
  ⟨fun h => absurd rfl h, fun _ => ⟨rfl, rfl, rfl⟩, nofun, fun p => by cases p <;> exact iff_of_true rfl rfl,
    fun _ => ⟨rfl, rfl, rfl, rfl, fun p => by cases p <;> rfl⟩⟩

theorem reset_noticeQueues : State.reset.NoticeQueuesOrdered := noticeQueues_of_empty rfl

theorem reset_alarms : State.reset.AlarmListSound := fun _ => ⟨alarmsSound_nil, nofun⟩

theorem powerOn_counts : State.powerOn.CountsInRange :=
  reset_counts.of_sameWalk (Nat.mod_lt _ (by decide)) rfl ⟨rfl, rfl, nofun⟩

theorem powerOn_noticeQueues : State.powerOn.NoticeQueuesOrdered := noticeQueues_of_empty rfl

theorem undoSound_of_empty {s : State} (h : s.undo = []) : s.UndoSound := by
  rw [undoSound_iff, h]
  exact ⟨nofun, .nil⟩

end State

/-- Settles O3. -/
theorem resetMeetsTheInvariants : Obligations.ResetMeetsTheInvariants := by
  unfold Obligations.ResetMeetsTheInvariants
  have hreset : State.reset.CommandQueueBounded ∧ State.reset.UndoSound :=
    ⟨Nat.zero_le _, State.undoSound_of_empty rfl⟩
  have hpower : State.powerOn.CommandQueueBounded ∧ State.powerOn.UndoSound :=
    ⟨Nat.zero_le _, State.undoSound_of_empty rfl⟩
  intro s h
  obtain h | h := h
  · rw [h]
    exact ⟨State.reset_counts, State.reset_standsStopped, hreset.1, State.reset_noticeQueues, State.reset_alarms, hreset.2,
      State.reset_bindingTablesAgree⟩
  · rw [h]
    exact ⟨State.powerOn_counts, State.powerOn_standsStopped, hpower.1, State.powerOn_noticeQueues, nofun, hpower.2, nofun⟩

end Sys2Proof.Machine
end

section
/-! PROOFS. Cabins: the record written as an occupation ends, reconciliation (R83), and command outcomes (R74 to R76). -/

namespace Sys2Proof.Machine

namespace State

/-! ### Writing one cabin -/

theorem setCabin_cabin (s : State) (c : Nat) : s.setCabin c (s.cabin c) = s := by
  unfold setCabin cabin
  split
  · rfl
  · simp only [tableSet_tableGet]

theorem updBand_setCabin (s : State) (k c : Nat) (f : Band → Band) (r : Cabin) :
    (s.updBand k f).setCabin c r = (s.setCabin c r).updBand k f := by
  cases h : s.band k with
  | none => rw [updBand_none f h, updBand_none f (by rw [setCabin_band, h])]
  | some b => rw [updBand_some f h, updBand_some f (by rw [setCabin_band, h]), setBand_setCabin]

@[simp] theorem updBand_cabin (s : State) (k : Nat) (f : Band → Band) (c : Nat) : (s.updBand k f).cabin c = s.cabin c := by
  unfold updBand
  split
  · exact setBand_cabin s k _ c
  · rfl

/-- What clearing a cabin does to the record of its occupant, when it has one (R68). -/
def leaveCabin (s : State) (occupant : Option Nat) : State :=
  match occupant with
  | none => s
  | some slot => s.updBand slot fun b => { b with cabin := none }

@[simp] theorem leaveCabin_cabin (s : State) (o : Option Nat) (c : Nat) : (s.leaveCabin o).cabin c = s.cabin c := by
  cases o with
  | none => rfl
  | some slot => exact updBand_cabin s slot _ c

@[simp] theorem leaveCabin_now (s : State) (o : Option Nat) : (s.leaveCabin o).now = s.now := by
  cases o with
  | none => rfl
  | some slot => exact updBand_now s slot _

theorem leaveCabin_setCabin (s : State) (o : Option Nat) (c : Nat) (r : Cabin) :
    (s.leaveCabin o).setCabin c r = (s.setCabin c r).leaveCabin o := by
  cases o with
  | none => rfl
  | some slot => exact updBand_setCabin s slot c _ r

theorem clearOccupant_eq (s : State) (c : Nat) :
    s.clearOccupant c = (s.setCabin c { s.cabin c with occupant := none }).leaveCabin (s.cabin c).occupant := by
  unfold clearOccupant
  dsimp only
  split
  · rename_i h
    have same : ({ s.cabin c with occupant := none } : Cabin) = s.cabin c := by rw [← h]
    rw [same, setCabin_cabin, h]
    rfl
  · rename_i h
    rw [h]
    rfl

section Records

variable {s : State} {c : Nat}

/-- An occupation that ends behind a writing of the cabin which keeps the occupant: the band leaves, and the record is written
once. -/
theorem setCabin_vacate {r : Cabin} (hc : 1 ≤ c ∧ c ≤ 64) (hr : r.occupant = (s.cabin c).occupant) :
    (s.setCabin c r).vacate c =
      (s.clearOccupant c).setCabin c { r with state := .vacant, occupant := none, since := s.now, stage := 0 } := by
  simp only [vacate, clearOccupant_eq, setCabin_cabin_self s _ hc, leaveCabin_cabin, setCabin_now, leaveCabin_setCabin,
    setCabin_setCabin, hr]
  rfl

theorem vacate_eq (hc : 1 ≤ c ∧ c ≤ 64) :
    s.vacate c =
      (s.clearOccupant c).setCabin c
        { s.cabin c with state := .vacant, occupant := none, since := s.now, stage := 0 } := by
  have h := setCabin_vacate (s := s) (r := s.cabin c) hc rfl
  rwa [setCabin_cabin] at h

/-- The occupant's serial reads the occupant alone of the cabin's record. -/
theorem setCabin_occupantSerial {r : Cabin} (hc : 1 ≤ c ∧ c ≤ 64) (hr : r.occupant = (s.cabin c).occupant) :
    (s.setCabin c r).occupantSerial c = s.occupantSerial c := by
  have hserial : (s.setCabin c r).serialOf = s.serialOf := funext (setCabin_serialOf s c r)
  rw [occupantSerial, setCabin_cabin_self s r hc, hr, hserial]
  rfl

/-- A command queued for a cabin behind a writing of its record: the record is written once. -/
theorem setCabin_unlatchCabin (r : Cabin) (hc : 1 ≤ c ∧ c ≤ 64) :
    (s.setCabin c r).unlatchCabin c =
      (s.setCabin c { r with state := .unlatching, command := some .unlatch }).queueCommand (128 + (c - 1) / 4 + 1)
        ((c - 1) % 4) .unlatch := by
  rw [unlatchCabin_eq hc (setCabin_cabin_self s r hc), setCabin_setCabin]

end Records

theorem queueFull_iff (s : State) : s.queueFull = true ↔ 32 ≤ s.field.queue.length := by
  unfold queueFull
  exact decide_eq_true_iff

theorem queueFull_of_room {s : State} (h : s.field.queue.length < 32) : s.queueFull = false :=
  (queueFull_eq_false_iff s).2 h

theorem forceCabin_eq {s t : State} {c : Nat} {serial : Option Nat} (hv : s.vacate c = t) (hs : s.occupantSerial c = serial) :
    s.forceCabin c = (t.notify .cabinForced (some (.cabin c)) serial).holdOnForce (128 + (c - 1) / 4 + 1) := by
  rw [← hv, ← hs]
  rfl

/-! ### The rows of Table 4-5 -/

section Rows

variable {s t : State} {c : Nat} {k : Cabin} {r : Reading}

theorem reconcileCabin_occupied (ht : s.setCabin c { s.cabin c with door := r.door, latch := r.latch } = t)
    (hk : t.cabin c = k) (hst : k.state = .occupied) :
    s.reconcileCabin c r =
      if r.engaged = false then (t.vacate c).notify .cabinReleasedByPower (some (.cabin c)) (t.occupantSerial c)
      else if r.doorOpen = true then t.forceCabin c else t := by
  simp [reconcileCabin, ht, hk, hst]

/-- R83: a LATCH lost without its outcome is settled by the latch. -/
theorem reconcileCabin_latching (ht : s.setCabin c { s.cabin c with door := r.door, latch := r.latch } = t)
    (hk : t.cabin c = k) (hst : k.state = .latching) (hcmd : k.command = none) :
    s.reconcileCabin c r = if r.engaged = true then t.setCabin c (k.enter .occupied t.now) else t.vacate c := by
  simp [reconcileCabin, ht, hk, hst, hcmd]

theorem reconcileCabin_unlatching (ht : s.setCabin c { s.cabin c with door := r.door, latch := r.latch } = t)
    (hk : t.cabin c = k) (hst : k.state = .unlatching) (hcmd : k.command = none) :
    s.reconcileCabin c r =
      if r.engaged = false then t.vacate c
      else if k.occupant ≠ none then t.setCabin c { k with state := .occupied } else t.freeCabin c := by
  simp [reconcileCabin, ht, hk, hst, hcmd, Option.isSome_iff_ne_none]

theorem reconcileCabin_vacant (ht : s.setCabin c { s.cabin c with door := r.door, latch := r.latch } = t)
    (hk : t.cabin c = k) (hst : k.state = .vacant) (hcmd : k.command = none) :
    s.reconcileCabin c r = if r.engaged = true then t.freeCabin c else t := by
  simp [reconcileCabin, ht, hk, hst, hcmd]

/-- While a command is on its way only the fields are set. -/
theorem reconcileCabin_commanded (ht : s.setCabin c { s.cabin c with door := r.door, latch := r.latch } = t)
    (hk : t.cabin c = k) (hst : k.state ∈ [.latching, .unlatching, .vacant]) (hcmd : k.command ≠ none) :
    s.reconcileCabin c r = t := by
  have hsome : k.command.isSome = true := Option.isSome_iff_ne_none.2 hcmd
  have hnone : k.command.isNone = false := by rwa [Option.isNone_eq_false_iff]
  simp only [List.mem_cons, List.not_mem_nil, or_false] at hst
  obtain hst | hst | hst := hst <;> simp [reconcileCabin, ht, hk, hst, hsome, hnone]

theorem reconcileCabin_unusable (ht : s.setCabin c { s.cabin c with door := r.door, latch := r.latch } = t)
    (hk : t.cabin c = k) (hst : k.state ∈ [.outOfService, .unfitted]) : s.reconcileCabin c r = t := by
  simp only [List.mem_cons, List.not_mem_nil, or_false] at hst
  obtain hst | hst := hst <;> simp [reconcileCabin, ht, hk, hst]

theorem freeCabin_of_room (hq : s.field.queue.length < 32) : s.freeCabin c = s.unlatchCabin c := by
  simp [freeCabin, queueFull_of_room hq]

theorem freeCabin_of_full (hq : 32 ≤ s.field.queue.length) :
    s.freeCabin c =
      (if (s.cabin c).state = .vacant then s else s.vacate c).notify .lockerFault (some (.cabin c)) none := by
  simp [freeCabin, (queueFull_iff s).2 hq]

end Rows

end State

/-- Settles O50: the rows of Table 4-5. -/
theorem cabinAgreesByTheTable : Obligations.CabinAgreesByTheTable := by
  unfold Obligations.CabinAgreesByTheTable
  intro c r s h1 h2 k result read emptied freeing
  have hc : 1 ≤ c ∧ c ≤ 64 := ⟨h1, h2⟩
  have ht : s.setCabin c { s.cabin c with door := r.door, latch := r.latch } = s.setCabin c read := rfl
  have hk : (s.setCabin c read).cabin c = read := State.setCabin_cabin_self s read hc
  have hvacate : (s.setCabin c read).vacate c = emptied := State.setCabin_vacate hc rfl
  have hserial : (s.setCabin c read).occupantSerial c = s.occupantSerial c := State.setCabin_occupantSerial hc rfl
  have hfreeing : (s.setCabin c read).unlatchCabin c = freeing := State.setCabin_unlatchCabin read hc
  have hqueue : (s.setCabin c read).field.queue = s.field.queue := by rw [State.setCabin_field]
  have hnow : (s.setCabin c read).now = s.now := State.setCabin_now s c read
  have room (hq : s.field.queue.length < 32) : (s.setCabin c read).freeCabin c = freeing :=
    (State.freeCabin_of_room (hqueue ▸ hq)).trans hfreeing
  have full (hq : 32 ≤ s.field.queue.length) := State.freeCabin_of_full (s := s.setCabin c read) (c := c) (hqueue ▸ hq)
  rw [hk, hvacate] at full
  refine ⟨fun hst => ?occupied, fun hst hcmd => ?latching, fun hst hcmd => ?unlatching, fun hst hcmd => ?vacant,
    fun hst hcmd => State.reconcileCabin_commanded ht hk hst hcmd, fun hst => State.reconcileCabin_unusable ht hk hst⟩
  case occupied =>
    have row : result = _ := State.reconcileCabin_occupied ht hk hst
    rw [hvacate, hserial, State.forceCabin_eq hvacate hserial] at row
    exact ⟨fun he => by rw [row, if_pos he], fun he hd => by rw [row, if_neg (by simp [he]), if_pos hd],
      fun he hd => by rw [row, if_neg (by simp [he]), if_neg (by simp [hd])]⟩
  case latching =>
    have row : result = _ := State.reconcileCabin_latching ht hk hst hcmd
    rw [hvacate, hnow, State.setCabin_setCabin] at row
    exact ⟨fun he => row.trans (if_pos he), fun he => row.trans (if_neg (by simp [he]))⟩
  case unlatching =>
    have row : result = _ := State.reconcileCabin_unlatching ht hk hst hcmd
    rw [hvacate, State.setCabin_setCabin] at row
    refine ⟨fun he ho => ?_, fun he ho hq => ?_, fun he ho hq => ?_, fun he => row.trans (if_pos he)⟩
    · rw [row, if_neg (by simp [he]), if_pos ho]
    · rw [row, if_neg (by simp [he]), if_neg (not_not_intro ho), room hq]
    · rw [row, if_neg (by simp [he]), if_neg (not_not_intro ho), full hq, if_neg (by rw [hst]; decide)]
  case vacant =>
    have row : result = _ := State.reconcileCabin_vacant ht hk hst hcmd
    refine ⟨fun he hq => ?_, fun he hq => ?_, fun he => row.trans (if_neg (by simp [he]))⟩
    · rw [row, if_pos he, room hq]
    · rw [row, if_pos he, full hq, if_pos hst]

end Sys2Proof.Machine
end

section
/-! PROOFS. Command outcomes at a cabin (R74 to R76), and door and handle events at lockers and cabins (R53, R54, R77, R78). -/

namespace Sys2Proof.Machine

/-- The record with the door and latch fields that an outcome sets and its command field cleared (Table 4-3, R69). -/
def Cabin.afterOutcome (k : Cabin) (a : Action) (r : CommandResult) : Cabin :=
  { k with door := outcomeDoor a r k.door, latch := outcomeLatch a r k.latch, command := none }

@[simp] theorem Cabin.afterOutcome_state (k : Cabin) (a : Action) (r : CommandResult) :
    (k.afterOutcome a r).state = k.state := rfl

@[simp] theorem Cabin.afterOutcome_occupant (k : Cabin) (a : Action) (r : CommandResult) :
    (k.afterOutcome a r).occupant = k.occupant := rfl

theorem exec_doorOpen_eq (s : State) : exec .doorOpen s = execDoorOpen s := rfl
theorem exec_doorClosed_eq (s : State) : exec .doorClosed s = execDoorClosed s := rfl
theorem exec_handle_eq (s : State) : exec .handle s = execHandle s := rfl

namespace State

/-! ### Outcomes at a cabin -/

section Outcomes

variable {s : State} {c : Nat} {k : Cabin}

theorem cabinFields_eq (a : Action) (r : CommandResult) (hk : s.cabin c = k) :
    s.cabinFields c a r = s.setCabin c (k.afterOutcome a r) := by
  rw [← hk]
  rfl

theorem cabinLatchDone_latching (hc : 1 ≤ c ∧ c ≤ 64) (hk : s.cabin c = k) (hst : k.state = .latching) :
    s.cabinLatchDone c = s.setCabin c ((k.afterOutcome .latch .done).enter .occupied s.now) := by
  simp [cabinLatchDone, cabinFields_eq _ _ hk, setCabin_cabin_self s _ hc, hst]

/-- R76: a late LATCH DONE is corrected. -/
theorem cabinLatchDone_vacant (hc : 1 ≤ c ∧ c ≤ 64) (hk : s.cabin c = k) (hst : k.state = .vacant) :
    s.cabinLatchDone c =
      if 32 ≤ s.field.queue.length then
        (s.setCabin c (k.afterOutcome .latch .done)).notify .lockerFault (some (.cabin c)) none
      else (s.setCabin c (k.afterOutcome .latch .done)).unlatchCabin c := by
  simp [cabinLatchDone, correctLatch, cabinFields_eq _ _ hk, setCabin_cabin_self s _ hc, hst, queueFull_iff]

theorem cabinLatchDone_unfitted (hc : 1 ≤ c ∧ c ≤ 64) (hk : s.cabin c = k) (hst : k.state = .unfitted) :
    s.cabinLatchDone c = s.setCabin c (k.afterOutcome .latch .done) := by
  simp [cabinLatchDone, cabinFields_eq _ _ hk, setCabin_cabin_self s _ hc, hst]

theorem cabinLatchDoorOpen_eq (hc : 1 ≤ c ∧ c ≤ 64) (hk : s.cabin c = k) :
    s.cabinLatchDoorOpen c =
      if k.state = .latching then (s.setCabin c (k.afterOutcome .latch .doorOpen)).vacate c
      else s.setCabin c (k.afterOutcome .latch .doorOpen) := by
  simp [cabinLatchDoorOpen, cabinFields_eq _ _ hk, setCabin_cabin_self s _ hc]

theorem cabinLatchFails_latching (r : CommandResult) (hc : 1 ≤ c ∧ c ≤ 64) (hk : s.cabin c = k) (hst : k.state = .latching) :
    s.cabinLatchFails r c =
      ((s.setCabin c (k.afterOutcome .latch r)).vacate c).notify .lockerFault (some (.cabin c)) (s.occupantSerial c) := by
  simp [cabinLatchFails, cabinFields_eq _ _ hk, setCabin_cabin_self s _ hc, hst,
    setCabin_occupantSerial (s := s) (r := k.afterOutcome .latch r) hc (by rw [hk]; rfl)]

theorem cabinLatchFails_vacant (r : CommandResult) (hc : 1 ≤ c ∧ c ≤ 64) (hk : s.cabin c = k) (hst : k.state = .vacant) :
    s.cabinLatchFails r c =
      (s.setCabin c (k.afterOutcome .latch r)).notify .lockerFault (some (.cabin c)) none := by
  simp [cabinLatchFails, cabinFields_eq _ _ hk, setCabin_cabin_self s _ hc, hst]

theorem cabinLatchFails_unfitted (r : CommandResult) (hc : 1 ≤ c ∧ c ≤ 64) (hk : s.cabin c = k) (hst : k.state = .unfitted) :
    s.cabinLatchFails r c = s.setCabin c (k.afterOutcome .latch r) := by
  simp [cabinLatchFails, cabinFields_eq _ _ hk, setCabin_cabin_self s _ hc, hst]

theorem cabinUnlatchDone_eq (hc : 1 ≤ c ∧ c ≤ 64) (hk : s.cabin c = k) :
    s.cabinUnlatchDone c =
      if k.state = .unlatching then (s.setCabin c (k.afterOutcome .unlatch .done)).vacate c
      else s.setCabin c (k.afterOutcome .unlatch .done) := by
  simp [cabinUnlatchDone, cabinFields_eq _ _ hk, setCabin_cabin_self s _ hc]

/-- R75: a failed opening leaves an occupied cabin occupied, unless its door is open. -/
theorem cabinUnlatchFails_unlatching (r : CommandResult) (hc : 1 ≤ c ∧ c ≤ 64) (hk : s.cabin c = k)
    (hst : k.state = .unlatching) :
    s.cabinUnlatchFails r c =
      (if (k.afterOutcome .unlatch r).door ≠ .opened ∧ k.occupant ≠ none then
          s.setCabin c { k.afterOutcome .unlatch r with state := .occupied }
        else (s.setCabin c (k.afterOutcome .unlatch r)).vacate c).notify
        .lockerFault (some (.cabin c)) (s.occupantSerial c) := by
  simp [cabinUnlatchFails, cabinFields_eq _ _ hk, setCabin_cabin_self s _ hc, hst, Option.isSome_iff_ne_none,
    setCabin_occupantSerial (s := s) (r := k.afterOutcome .unlatch r) hc (by rw [hk]; rfl)]

theorem cabinUnlatchFails_late (r : CommandResult) (hc : 1 ≤ c ∧ c ≤ 64) (hk : s.cabin c = k)
    (hst : k.state ≠ .unlatching) : s.cabinUnlatchFails r c = s.setCabin c (k.afterOutcome .unlatch r) := by
  simp [cabinUnlatchFails, cabinFields_eq _ _ hk, setCabin_cabin_self s _ hc, hst]

end Outcomes

end State

/-- Settles O47, row by row: an outcome's handling at the cabin, under the grant. -/
theorem commandOutcomesAtACabin : Obligations.CommandOutcomesAtACabin := by
  unfold Obligations.CommandOutcomesAtACabin
  intro cmd c s htarget h1 h2 k g emptied fault
  have hc : 1 ≤ c ∧ c ≤ 64 := ⟨h1, h2⟩
  have hk : g.cabin c = k := State.granted_cabin s .field c
  have granted {a : Action} {r : CommandResult} {f : Place → State → State} (ha : cmd.action = a)
      (hg : s.grantingItem (.outcome cmd r)) : s.grantOutcome a r f = (f (.cabin c) g).popHead :=
    State.grantOutcome_granting f ha htarget hg
  have hvacate (a : Action) (r : CommandResult) :
      (g.setCabin c (k.afterOutcome a r)).vacate c = emptied (outcomeDoor a r k.door) (outcomeLatch a r k.latch) :=
    State.setCabin_vacate hc (by rw [hk]; rfl)
  refine ⟨fun ha hst => ⟨fun hg => ?_, fun hg => ?_, fun hg => ?_, fun hg => ?_⟩,
    fun ha hst => ⟨fun hg => ?_, fun hg => ?_, fun hg => ?_, fun hg => ?_⟩, fun ha hst => ?unlatching, fun ha hst => ?late,
    fun ha hst => ⟨fun hg => ?_, fun hg => ?_, fun hg => ?_, fun hg => ?_⟩⟩
  · rw [exec_latchDone_eq, execLatchDone, granted ha hg, State.latchDoneAt, State.cabinLatchDone_latching hc hk hst]
    rfl
  · rw [exec_latchDoorOpen_eq, execLatchDoorOpen, granted ha hg, State.latchDoorOpenAt, State.cabinLatchDoorOpen_eq hc hk,
      if_pos hst, hvacate]
    rfl
  · rw [exec_latchJammed_eq, execLatchJammed, granted ha hg, State.latchFailsAt,
      State.cabinLatchFails_latching _ hc hk hst, hvacate]
    rfl
  · rw [exec_latchFailed_eq, execLatchFailed, granted ha hg, State.latchFailsAt,
      State.cabinLatchFails_latching _ hc hk hst, hvacate]
    rfl
  · rw [exec_latchDone_eq, execLatchDone, granted ha hg, State.latchDoneAt, State.cabinLatchDone_vacant hc hk hst,
      State.setCabin_unlatchCabin _ hc]
    rfl
  · rw [exec_latchDoorOpen_eq, execLatchDoorOpen, granted ha hg, State.latchDoorOpenAt, State.cabinLatchDoorOpen_eq hc hk,
      if_neg (by rw [hst]; decide)]
    rfl
  · rw [exec_latchJammed_eq, execLatchJammed, granted ha hg, State.latchFailsAt, State.cabinLatchFails_vacant _ hc hk hst]
    rfl
  · rw [exec_latchFailed_eq, execLatchFailed, granted ha hg, State.latchFailsAt, State.cabinLatchFails_vacant _ hc hk hst]
    rfl
  case unlatching =>
    have hfails (r : CommandResult) : g.cabinUnlatchFails r c =
        if k.door ≠ .opened ∧ k.occupant ≠ none then
          fault (g.setCabin c { k with state := .occupied, command := none, latch := outcomeLatch .unlatch r k.latch })
            (s.occupantSerial c)
        else fault (emptied k.door (outcomeLatch .unlatch r k.latch)) (s.occupantSerial c) := by
      rw [State.cabinUnlatchFails_unlatching r hc hk hst, hvacate]
      by_cases h : k.door ≠ .opened ∧ k.occupant ≠ none
      · rw [if_pos h]; exact congrArg (fault · _) (if_pos h)
      · rw [if_neg h]; exact congrArg (fault · _) (if_neg h)
    refine ⟨fun hg => ?_, fun hg => ?_, fun hg => ?_⟩
    · rw [exec_unlatchDone_eq, execUnlatchDone, granted ha hg, State.unlatchDoneAt, State.cabinUnlatchDone_eq hc hk,
        if_pos hst, hvacate]
      rfl
    · rw [exec_unlatchJammed_eq, execUnlatchJammed, granted ha hg, State.unlatchFailsAt, hfails]
      rfl
    · rw [exec_unlatchFailed_eq, execUnlatchFailed, granted ha hg, State.unlatchFailsAt, hfails]
      rfl
  case late =>
    have hstays : k.state ≠ .unlatching := by
      obtain hst | hst := hst <;> rw [hst] <;> decide
    refine ⟨fun hg => ?_, fun hg => ?_, fun hg => ?_⟩
    · rw [exec_unlatchDone_eq, execUnlatchDone, granted ha hg, State.unlatchDoneAt, State.cabinUnlatchDone_eq hc hk,
        if_neg hstays]
      rfl
    · rw [exec_unlatchJammed_eq, execUnlatchJammed, granted ha hg, State.unlatchFailsAt,
        State.cabinUnlatchFails_late _ hc hk hstays]
      rfl
    · rw [exec_unlatchFailed_eq, execUnlatchFailed, granted ha hg, State.unlatchFailsAt,
        State.cabinUnlatchFails_late _ hc hk hstays]
      rfl
  · rw [exec_latchDone_eq, execLatchDone, granted ha hg, State.latchDoneAt, State.cabinLatchDone_unfitted hc hk hst]
    rfl
  · rw [exec_latchDoorOpen_eq, execLatchDoorOpen, granted ha hg, State.latchDoorOpenAt, State.cabinLatchDoorOpen_eq hc hk,
      if_neg (by rw [hst]; decide)]
    rfl
  · rw [exec_latchJammed_eq, execLatchJammed, granted ha hg, State.latchFailsAt,
      State.cabinLatchFails_unfitted _ hc hk hst]
    rfl
  · rw [exec_latchFailed_eq, execLatchFailed, granted ha hg, State.latchFailsAt,
      State.cabinLatchFails_unfitted _ hc hk hst]
    rfl

/-! ### Door and handle events -/

namespace State

section Events

variable {s : State}

theorem setLocker_enterLocker {n : Nat} (l : Locker) (st : LockerState) (hn : 1 ≤ n ∧ n ≤ 1024) :
    (s.setLocker n l).enterLocker n st = s.setLocker n (l.enter st s.now) := by
  rw [enterLocker, setLocker_locker_self s l hn, setLocker_now, setLocker_setLocker]

/-- R53: a locker whose latch is free stands open. -/
theorem lockerDoorOpen_opens {n : Nat} (hn : 1 ≤ n ∧ n ≤ 1024)
    (hst : (s.locker n).state = .released ∨ (s.locker n).state = .closing) :
    s.lockerDoorOpen n = s.setLocker n ({ s.locker n with door := .opened }.enter .opened s.now) := by
  obtain hst | hst := hst <;>
    simp [lockerDoorOpen, setLocker_locker_self s _ hn, hst, setLocker_enterLocker _ _ hn]

/-- R53: a latched locker has been forced. -/
theorem lockerDoorOpen_forced {n : Nat} (hn : 1 ≤ n ∧ n ≤ 1024)
    (hst : (s.locker n).state = .locked ∨ (s.locker n).state = .orphaned) :
    s.lockerDoorOpen n =
      ((s.setLocker n ({ s.locker n with door := .opened }.enter .forced s.now)).notify .lockerForced (some (.locker n))
        (s.holderSerial n)).holdOnForce ((n - 1) / 8 + 1) := by
  obtain hst | hst := hst <;>
    simp [lockerDoorOpen, setLocker_locker_self s _ hn, hst, forceLocker, setLocker_enterLocker _ _ hn, lockerAt,
      setLocker_holderSerial hn]

theorem lockerDoorOpen_other {n : Nat} (hn : 1 ≤ n ∧ n ≤ 1024)
    (hst : (s.locker n).state ∉ [.released, .closing, .locked, .orphaned]) :
    s.lockerDoorOpen n = s.setLocker n { s.locker n with door := .opened } := by
  revert hst
  cases h : (s.locker n).state <;> simp [lockerDoorOpen, setLocker_locker_self s _ hn, h]

theorem lockerDoorClosed_eq {n : Nat} (hn : 1 ≤ n ∧ n ≤ 1024) :
    s.lockerDoorClosed n =
      if (s.locker n).state = .opened then s.setLocker n ({ s.locker n with door := .closed }.enter .closing s.now)
      else s.setLocker n { s.locker n with door := .closed } := by
  simp [lockerDoorClosed, setLocker_locker_self s _ hn, setLocker_enterLocker _ _ hn]

theorem cabinHandle_empties {c : Nat} (hc : 1 ≤ c ∧ c ≤ 64)
    (hst : (s.cabin c).state ∈ [.occupied, .latching, .unlatching]) :
    s.cabinHandle c = (s.setCabin c { s.cabin c with latch := .free }).vacate c := by
  simp only [List.mem_cons, List.not_mem_nil, or_false] at hst
  obtain hst | hst | hst := hst <;> simp [cabinHandle, setCabin_cabin_self s _ hc, hst]

theorem cabinHandle_other {c : Nat} (hc : 1 ≤ c ∧ c ≤ 64)
    (hst : (s.cabin c).state ∉ [.occupied, .latching, .unlatching]) :
    s.cabinHandle c = s.setCabin c { s.cabin c with latch := .free } := by
  revert hst
  cases h : (s.cabin c).state <;> simp [cabinHandle, setCabin_cabin_self s _ hc, h]

theorem cabinDoorOpen_eq {c : Nat} (hc : 1 ≤ c ∧ c ≤ 64) :
    s.cabinDoorOpen c =
      if (s.cabin c).state = .occupied then (s.setCabin c { s.cabin c with door := .opened }).forceCabin c
      else s.setCabin c { s.cabin c with door := .opened } := by
  simp [cabinDoorOpen, setCabin_cabin_self s _ hc]

end Events

end State

/-- Settles O45, event by event: its handling at the place, under the grant. -/
theorem doorAndHandleEvents : Obligations.DoorAndHandleEvents := by
  unfold Obligations.DoorAndHandleEvents
  constructor
  · intro addr pos n s hp h1 h2 l g entered
    have hn : 1 ≤ n ∧ n ≤ 1024 := ⟨h1, h2⟩
    have opened (hg : s.grantingItem (.event addr (.doorOpen pos))) {t : State} (h : g.lockerDoorOpen n = t) :
        exec .doorOpen s = .next ((t.watchEvent (.locker n) .doorOpened none).popHead) := by
      rw [exec_doorOpen_eq, execDoorOpen, State.grantItem_granting hg rfl, hp, State.doorOpenAt, ← h]
    have closed (hg : s.grantingItem (.event addr (.doorClosed pos))) {t : State} (h : g.lockerDoorClosed n = t) :
        exec .doorClosed s = .next t.popHead := by
      rw [exec_doorClosed_eq, execDoorClosed, State.grantItem_granting hg rfl, hp, State.doorClosedAt, ← h]
    have henter {st : LockerState} {d : Door} (h : st ≠ .locked ∧ st ≠ .free ∧ st ≠ .orphaned) :
        { l with door := d }.enter st s.now = entered st d := Locker.enter_of_keeps s.now (.inl h)
    refine ⟨fun hg => ⟨fun hst => opened hg ?_, fun hst => opened hg ?_, fun hst => opened hg ?_⟩,
      fun hg => ⟨fun hst => closed hg ?_, fun hst => closed hg ?_⟩⟩
    · rw [← henter (by decide)]
      exact State.lockerDoorOpen_opens hn hst
    · rw [← henter (by decide)]
      exact State.lockerDoorOpen_forced hn hst
    · exact State.lockerDoorOpen_other hn hst
    · rw [← henter (by decide), State.lockerDoorClosed_eq hn]
      exact if_pos hst
    · rw [State.lockerDoorClosed_eq hn]
      exact if_neg hst
  · intro addr pos c s hp h1 h2 k g
    have hc : 1 ≤ c ∧ c ≤ 64 := ⟨h1, h2⟩
    have hvacate (r : Cabin) (hr : r.occupant = k.occupant) : (g.setCabin c r).vacate c =
        (g.clearOccupant c).setCabin c { r with state := .vacant, occupant := none, since := s.now, stage := 0 } :=
      State.setCabin_vacate hc hr
    refine ⟨fun hg => ⟨fun hst => ?_, fun hst => ?_⟩, fun hg => ⟨fun hst => ?_, fun hst => ?_⟩, fun hg => ?_⟩
    · rw [exec_handle_eq, execHandle, State.grantItem_granting hg rfl, hp, State.handleAt, State.cabinHandle_empties (s := g) hc hst]
      exact congrArg (fun t : State => Host.Outcome.next t.popHead) (hvacate { k with latch := .free } rfl)
    · rw [exec_handle_eq, execHandle, State.grantItem_granting hg rfl, hp, State.handleAt, State.cabinHandle_other (s := g) hc hst]
      rfl
    · have hforced := State.forceCabin_eq (hvacate { k with door := .opened } rfl)
        (State.setCabin_occupantSerial (s := g) (c := c) hc rfl)
      rw [exec_doorOpen_eq, execDoorOpen, State.grantItem_granting hg rfl, hp, State.doorOpenAt, State.cabinDoorOpen_eq hc,
        if_pos (show (g.cabin c).state = .occupied from hst)]
      exact congrArg (fun t : State => Host.Outcome.next (t.watchEvent (.cabin c) .doorOpened none).popHead) hforced
    · rw [exec_doorOpen_eq, execDoorOpen, State.grantItem_granting hg rfl, hp, State.doorOpenAt, State.cabinDoorOpen_eq hc,
        if_neg (show (g.cabin c).state ≠ .occupied from hst)]
      rfl
    · rw [exec_doorClosed_eq, execDoorClosed, State.grantItem_granting hg rfl, hp, State.doorClosedAt]
      rfl

end Sys2Proof.Machine
end

section
/-! PROOFS. A locker brought into agreement with its reading (R131 to R134, Tables 6-3 and 6-4). -/

namespace Sys2Proof.Machine

/-- What `Locker.enter` writes, its clearing of master said as one Boolean. -/
theorem Locker.enter_eq (l : Locker) (st : LockerState) (now : Nat) :
    l.enter st now =
      { l with state := st, since := now, origin := none, fresh := false, release := false,
               master := l.master && !(st == .locked || st == .free || st == .orphaned) } := by
  cases st <;> cases hm : l.master <;> simp [Locker.enter, hm]

namespace State

/-- Unbinding a locker that nobody holds clears master alone (R38, R39). -/
theorem unbindLocker_unheld {s : State} {n : Nat} (hh : (s.locker n).holder = none) :
    s.unbindLocker n = s.setLocker n { s.locker n with master := false } := by
  unfold unbindLocker
  dsimp only
  rw [hh]

section Rows

variable {s t : State} {n : Nat} {l : Locker} {r : Reading} {cold marked : Bool}

/-- A locker with no command out is settled by Table 6-3. -/
theorem reconcileLocker_settled (ht : s.setLocker n { s.locker n with door := r.door, latch := r.latch } = t)
    (hl : t.locker n = l) (hst : l.state ≠ .latching ∧ l.state ≠ .unlatching) :
    s.reconcileLocker n r cold marked = t.settledLocker n r cold := by
  obtain ⟨h1, h2⟩ := hst
  simp only [reconcileLocker, ht, hl]

/-- R131: while the command is on its way only the fields are set. -/
theorem reconcileLocker_marked (ht : s.setLocker n { s.locker n with door := r.door, latch := r.latch } = t)
    (hl : t.locker n = l) (hst : l.state = .latching ∨ l.state = .unlatching) :
    s.reconcileLocker n r cold true = t := by
  obtain hst | hst := hst <;> simp [reconcileLocker, ht, hl, hst]

theorem reconcileLocker_lostLatch (ht : s.setLocker n { s.locker n with door := r.door, latch := r.latch } = t)
    (hl : t.locker n = l) (hst : l.state = .latching) : s.reconcileLocker n r cold false = t.lostLatch n r := by
  simp [reconcileLocker, ht, hl, hst]

theorem reconcileLocker_lostUnlatch (ht : s.setLocker n { s.locker n with door := r.door, latch := r.latch } = t)
    (hl : t.locker n = l) (hst : l.state = .unlatching) : s.reconcileLocker n r cold false = t.lostUnlatch n r := by
  simp [reconcileLocker, ht, hl, hst]

/-! ### The rows of Table 6-3 -/

theorem settledLocker_locked (hl : t.locker n = l) (hst : l.state = .locked) :
    t.settledLocker n r cold =
      if r.engaged = false then t.faultLocker n else if r.doorOpen = true then t.forceLocker n else t := by
  simp [settledLocker, hl, hst]

theorem settledLocker_orphaned (hl : t.locker n = l) (hst : l.state = .orphaned) :
    t.settledLocker n r cold =
      if r.engaged = false then t.enterLocker n .free else if r.doorOpen = true then t.forceLocker n else t := by
  simp [settledLocker, hl, hst]

theorem settledLocker_free (hl : t.locker n = l) (hst : l.state = .free) :
    t.settledLocker n r cold = if r.engaged = true then t.freeEngaged n cold else t := by
  simp [settledLocker, hl, hst]

theorem settledLocker_outOfService (hl : t.locker n = l) (hst : l.state = .outOfService) :
    t.settledLocker n r cold =
      if r.engaged = true then
        if 32 ≤ t.field.queue.length then t.notify .lockerFault (some (.locker n)) none else t.unlatchLocker n false true
      else t := by
  simp [settledLocker, hl, hst, correctionFault, queueFull_iff]

/-- A locker in use that is found latched is LOCKED, or in FAULT where its door stands open. -/
theorem settledLocker_engaged (hl : t.locker n = l) (hst : l.state ∈ [.reserved, .released, .opened, .closing])
    (he : r.engaged = true) :
    t.settledLocker n r cold = if r.doorOpen = true then t.faultLocker n else t.enterLocker n .locked := by
  simp only [List.mem_cons, List.not_mem_nil, or_false] at hst
  obtain hst | hst | hst | hst := hst <;> simp [settledLocker, hl, hst, he]

/-- A locker in use whose latch is free follows its door. -/
theorem settledLocker_unlatched (hl : t.locker n = l) (hst : l.state ∈ [.reserved, .released, .opened, .closing])
    (he : r.engaged = false) :
    t.settledLocker n r cold =
      match l.state, r.doorOpen with
      | .released, true | .closing, true => t.enterLocker n .opened
      | .opened, false => t.enterLocker n .closing
      | _, _ => t := by
  simp only [List.mem_cons, List.not_mem_nil, or_false] at hst
  obtain hst | hst | hst | hst := hst <;> cases hd : r.doorOpen <;> simp [settledLocker, hl, hst, he, hd]

theorem settledLocker_idle (hl : t.locker n = l) (hst : l.state ∈ [.fault, .forced, .unfitted]) :
    t.settledLocker n r cold = t := by
  simp only [List.mem_cons, List.not_mem_nil, or_false] at hst
  obtain hst | hst | hst := hst <;> simp [settledLocker, hl, hst]

/-! ### The rows of Table 6-4 -/

/-- R133: a lost LATCH is settled by the latch; a reservation keeps its since. -/
theorem lostLatch_eq (hl : t.locker n = l) :
    t.lostLatch n r =
      if r.engaged = true then t.enterLocker n (if l.holder = none then .orphaned else .locked)
      else if l.origin = some .reserved then
        t.setLocker n { l.enter .reserved t.now with since := l.since, master := false }
      else if l.holder = none then t.enterLocker n .free
      else t.setLocker n { l.enter (freeState r) t.now with master := false } := by
  cases hh : l.holder <;> simp [lostLatch, hl, hh]

theorem lostUnlatch_bound (hl : t.locker n = l) (hrel : l.release = false) :
    t.lostUnlatch n r =
      t.enterLocker n
        (if r.engaged = true then if l.holder = none then .orphaned else .locked
        else if l.holder = none then .free else freeState r) := by
  cases hh : l.holder <;> cases he : r.engaged <;> simp [lostUnlatch, hl, hh, hrel, he]

theorem lostUnlatch_resumed (hl : t.locker n = l) (hrel : l.release = true) (he : r.engaged = true) :
    t.lostUnlatch n r =
      if 32 ≤ t.field.queue.length then
        (t.enterLocker n (if l.origin = some .outOfService then .outOfService else .orphaned)).notify .lockerFault
          (some (.locker n)) none
      else t.queueCommand ((n - 1) / 8 + 1) ((n - 1) % 8) .unlatch := by
  simp [lostUnlatch, hl, hrel, he, resumeRelease, queueFull_iff, correctionFault, queueLocker, lockerAt]

/-- R133: the release has taken place, and the locker had no holder any more. -/
theorem lostUnlatch_released (hn : 1 ≤ n ∧ n ≤ 1024) (hl : t.locker n = l) (hrel : l.release = true)
    (he : r.engaged = false) (hh : l.holder = none) :
    t.lostUnlatch n r =
      t.setLocker n
        { l with state := if l.origin = some LockerState.outOfService then .outOfService else .free, since := t.now,
                 origin := none, fresh := false, release := false, master := false } := by
  subst hl
  simp [lostUnlatch, hrel, he, unbindLocker_unheld hh, setLocker_locker_self t _ hn, Locker.enter]

end Rows

end State

/-- Settles O49: Table 6-3 by the locker's state, and Table 6-4 by the latch reported. -/
theorem lockersAgreeWithTheirReading : Obligations.LockersAgreeWithTheirReading := by
  unfold Obligations.LockersAgreeWithTheirReading
  constructor
  · intro n r cold marked s h1 h2 l result read entered fault forced freeing
    have hn : 1 ≤ n ∧ n ≤ 1024 := ⟨h1, h2⟩
    have ht : s.setLocker n { s.locker n with door := r.door, latch := r.latch } = s.setLocker n read := rfl
    have hl : (s.setLocker n read).locker n = read := State.setLocker_locker_self s read hn
    have hqueue : (s.setLocker n read).field.queue = s.field.queue := by rw [State.setLocker_field]
    have henter (st : LockerState) : (s.setLocker n read).enterLocker n st = s.setLocker n (entered st) := by
      rw [State.setLocker_enterLocker _ _ hn, Locker.enter_eq]
    have hserial (r' : Locker) (hr : r'.holder = l.holder) : (s.setLocker n r').holderSerial n = s.holderSerial n :=
      State.setLocker_holderSerial hn hr
    have hfault : (s.setLocker n read).faultLocker n = fault := by
      rw [State.faultLocker, henter, hserial read rfl]
    have hforced : (s.setLocker n read).forceLocker n = forced := by
      simp only [State.forceLocker, henter, hserial read rfl]
      rfl
    have hfreeing : (s.setLocker n read).unlatchLocker n false true = freeing := by
      rw [State.unlatchLocker_eq _ _ hl, State.setLocker_setLocker]
    have settled (hst : l.state ≠ .latching ∧ l.state ≠ .unlatching) :
        result = (s.setLocker n read).settledLocker n r cold := State.reconcileLocker_settled ht hl hst
    refine ⟨fun hst => ?locked, fun hst => ?orphaned, fun hst => ?free, fun hst => ?outOfService, fun hst => ?inUse,
      fun hst => ?idle⟩
    case locked =>
      have row := (settled (by rw [hst]; decide)).trans (State.settledLocker_locked hl hst)
      rw [hfault, hforced] at row
      exact ⟨fun he hd => by rw [row, if_neg (by simp [he]), if_neg (by simp [hd])],
        fun he hd => by rw [row, if_neg (by simp [he]), if_pos hd], fun he => row.trans (if_pos he)⟩
    case orphaned =>
      have row := (settled (by rw [hst]; decide)).trans (State.settledLocker_orphaned hl hst)
      rw [henter, hforced] at row
      exact ⟨fun he hd => by rw [row, if_neg (by simp [he]), if_neg (by simp [hd])],
        fun he hd => by rw [row, if_neg (by simp [he]), if_pos hd], fun he => row.trans (if_pos he)⟩
    case free =>
      have row := (settled (by rw [hst]; decide)).trans (State.settledLocker_free hl hst)
      refine ⟨fun he hc => ?_, fun he hc hq => ?_, fun he hc hq => ?_, fun he => row.trans (if_neg (by simp [he]))⟩
      · rw [row, if_pos he, State.freeEngaged, if_pos hc, henter]
      · rw [row, if_pos he, State.freeEngaged, if_neg (by simp [hc]), State.queueFull_of_room (hqueue ▸ hq), hfreeing]
        rfl
      · rw [row, if_pos he, State.freeEngaged, if_neg (by simp [hc]), (State.queueFull_iff _).2 (hqueue ▸ hq), henter]
        rfl
    case outOfService =>
      have row := (settled (by rw [hst]; decide)).trans (State.settledLocker_outOfService hl hst)
      rw [hqueue, hfreeing] at row
      exact ⟨fun he hq => by rw [row, if_pos he, if_neg (Nat.not_le.2 hq)], fun he hq => by rw [row, if_pos he, if_pos hq],
        fun he => row.trans (if_neg (by simp [he]))⟩
    case inUse =>
      have quiet : l.state ≠ .latching ∧ l.state ≠ .unlatching := by
        constructor <;> intro h <;> simp [h] at hst
      refine ⟨fun he hd => ?_, fun he hd => ?_, fun he => ?_⟩
      · rw [settled quiet, State.settledLocker_engaged hl hst he, if_neg (by simp [hd]), henter]
      · rw [settled quiet, State.settledLocker_engaged hl hst he, if_pos hd, hfault]
      · rw [settled quiet, State.settledLocker_unlatched hl hst he, henter, henter]
        revert hst
        cases hs : l.state <;> cases hd : r.doorOpen <;> simp [read, hs]
    case idle =>
      have quiet : l.state ≠ .latching ∧ l.state ≠ .unlatching := by
        constructor <;> intro h <;> simp [h] at hst
      rw [settled quiet, State.settledLocker_idle hl hst]
  · intro n r cold s h1 h2 l result read entered stands
    have hn : 1 ≤ n ∧ n ≤ 1024 := ⟨h1, h2⟩
    have ht : s.setLocker n { s.locker n with door := r.door, latch := r.latch } = s.setLocker n read := rfl
    have hl : (s.setLocker n read).locker n = read := State.setLocker_locker_self s read hn
    have hqueue : (s.setLocker n read).field.queue = s.field.queue := by rw [State.setLocker_field]
    have hnow : (s.setLocker n read).now = s.now := State.setLocker_now s n read
    have henter (st : LockerState) {m : Bool} (hm : (l.master && !(st == .locked || st == .free || st == .orphaned)) = m) :
        (s.setLocker n read).enterLocker n st = s.setLocker n (entered st m) := by
      rw [State.setLocker_enterLocker _ _ hn, Locker.enter_eq, ← hm]
    refine ⟨fun hst => State.reconcileLocker_marked ht hl hst, fun hst hm => ?latching,
      fun hst => ⟨fun hrel he hh => ?_, fun hrel he hh => ?_, fun hrel he hh => ?_, fun hrel he hq => ?_,
        fun hrel he hq ho => ?_, fun hrel he hq ho => ?_, fun hrel he hh => ?_⟩⟩
    case latching =>
      have row := (State.reconcileLocker_lostLatch (cold := cold) ht hl hst).trans (State.lostLatch_eq hl)
      simp only [State.setLocker_setLocker, hnow, Locker.enter_eq] at row
      refine ⟨fun he hh => ?_, fun he hh => ?_, fun he ho => ?_, fun he ho hh => ?_, fun he ho hh => ?_⟩
      · refine row.trans ((if_pos he).trans ?_)
        rw [if_neg hh, henter .locked (m := false) (by simp)]
      · refine row.trans ((if_pos he).trans ?_)
        rw [if_pos hh, henter .orphaned (m := false) (by simp)]
      · exact row.trans ((if_neg (by simp [he])).trans (if_pos ho))
      · refine row.trans ((if_neg (by simp [he])).trans ((if_neg ho).trans ((if_pos hh).trans ?_)))
        exact henter .free (m := false) (by simp)
      · exact row.trans ((if_neg (by simp [he])).trans ((if_neg ho).trans (if_neg hh)))
    all_goals refine (State.reconcileLocker_lostUnlatch (cold := cold) ht hl hst).trans ?_
    · rw [State.lostUnlatch_bound hl hrel, if_pos he, if_neg hh, henter .locked (m := false) (by simp)]
    · rw [State.lostUnlatch_bound hl hrel, if_pos he, if_pos hh, henter .orphaned (m := false) (by simp)]
    · rw [State.lostUnlatch_bound hl hrel, if_neg (by simp [he]), if_neg hh]
      refine henter (State.freeState r) ?_
      cases hd : r.doorOpen <;> simp [State.freeState, hd]
    · rw [State.lostUnlatch_resumed hl hrel he, hqueue, if_neg (Nat.not_le.2 hq)]
    · rw [State.lostUnlatch_resumed hl hrel he, hqueue, if_pos hq, if_neg ho, henter .orphaned (m := false) (by simp)]
    · rw [State.lostUnlatch_resumed hl hrel he, hqueue, if_pos hq, if_pos ho, henter .outOfService (m := l.master) (by simp)]
    · rw [State.lostUnlatch_released hn hl hrel he hh, State.setLocker_setLocker, hnow]

end Sys2Proof.Machine
end

section
/-! PROOFS. The sweep: a step at a locker, a cabin, a band slot (R56 to R58, R79, R105, R138 to R145). -/

namespace Sys2Proof.Machine

theorem exec_sweepStep_eq (s : State) : exec .sweepStep s = .next (s.sweepWhen true) := rfl
theorem exec_sweepRoundComplete_eq (s : State) :
    exec .sweepRoundComplete s = .next (s.sweepWhen (decide (s.sweep.remaining ≤ 1))) := rfl
theorem exec_openWindowExpiry_eq (s : State) :
    exec .openWindowExpiry s = .next (s.sweepWhen (s.findsLocker .released s.settings.windows.opening)) := rfl
theorem exec_relockWindowExpiry_eq (s : State) :
    exec .relockWindowExpiry s = .next (s.sweepWhen (s.findsLocker .closing s.settings.windows.relock)) := rfl
theorem exec_reservationLapsed_eq (s : State) :
    exec .reservationLapsed s = .next (s.sweepWhen (s.findsLocker .reserved s.settings.windows.reservation)) := rfl
theorem exec_cabinOverhold_eq (s : State) : exec .cabinOverhold s = .next (s.sweepWhen s.findsOverhold) := rfl
theorem exec_leaveLapsed_eq (s : State) : exec .leaveLapsed s = .next (s.sweepWhen s.findsLeave) := rfl
theorem exec_longStay_eq (s : State) : exec .longStay s = .next (s.sweepWhen s.findsLongStay) := rfl

theorem sweepPlace_locker {n : Nat} (hn : n ≤ 1024) : sweepPlace n = .locker n := if_pos hn

theorem sweepPlace_cabin {c : Nat} (hc : 1 ≤ c ∧ c ≤ 64) : sweepPlace (1024 + c) = .cabin c := by
  rw [sweepPlace, if_neg (by omega), if_pos (by omega), Nat.add_sub_cancel_left]

theorem sweepPlace_slot {k : Nat} (hk : 1 ≤ k) : sweepPlace (1088 + k) = .slot k := by
  rw [sweepPlace, if_neg (by omega), if_neg (by omega), Nat.add_sub_cancel_left]

namespace State

section Step

variable {s t : State}

theorem advance_eq (w : Sweep) :
    advance w =
      if 1 < w.remaining then { index := w.index + 1, remaining := w.remaining - 1, waiting := false }
      else { index := 1, remaining := 3135, waiting := false } := by
  unfold advance
  by_cases h : 1 < w.remaining
  · rw [if_pos h, if_neg (Nat.not_le.2 h)]
  · rw [if_neg h, if_pos (Nat.not_lt.1 h)]
    rfl

/-- A granted row of the sweep is the whole step: the act, then the index and the count. -/
theorem sweepWhen_acted {wanted : Bool} (hg : s.mayGrant .sweep = true) (hw : wanted = true)
    (ht : (s.granted .sweep).sweepAct = t) : s.sweepWhen wanted = { t with sweep := advance s.sweep } := by
  rw [hw, sweepWhen_granted hg, ht]

theorem sweepAct_locker {n : Nat} (hi : s.sweep.index = n) (hn : n ≤ 1024) : s.sweepAct = s.sweepLocker n := by
  simp only [sweepAct, hi, sweepPlace_locker hn]

theorem sweepAct_cabin {c : Nat} (hi : s.sweep.index = 1024 + c) (hc : 1 ≤ c ∧ c ≤ 64) : s.sweepAct = s.sweepCabin c := by
  simp only [sweepAct, hi, sweepPlace_cabin hc]

theorem sweepAct_slot {k : Nat} (hi : s.sweep.index = 1088 + k) (hk : 1 ≤ k) : s.sweepAct = s.sweepSlot k := by
  simp only [sweepAct, hi, sweepPlace_slot hk]

theorem expired_iff (s : State) (since window : Nat) :
    s.expired since window = true ↔ window ≤ (s.now + 86400 - since) % 86400 := decide_eq_true_iff

theorem expired_of_lt {since window : Nat} (h : (s.now + 86400 - since) % 86400 < window) :
    s.expired since window = false := decide_eq_false_iff_not.2 (Nat.not_le.2 h)

/-! ### A step at a locker (R142) -/

theorem findsLocker_eq {n : Nat} {st : LockerState} {window : Nat} (hi : s.sweep.index = n) (hn : n ≤ 1024)
    (hst : (s.locker n).state = st) (hw : s.expired (s.locker n).since window = true) :
    s.findsLocker st window = true := by
  simp [findsLocker, hi, sweepPlace_locker hn, hst, hw]

theorem sweepLocker_released {n : Nat} (hst : (s.locker n).state = .released)
    (hw : s.expired (s.locker n).since s.settings.windows.opening = true) : s.sweepLocker n = s.relatch n := by
  simp [sweepLocker, hst, hw]

theorem sweepLocker_closing {n : Nat} (hst : (s.locker n).state = .closing)
    (hw : s.expired (s.locker n).since s.settings.windows.relock = true) :
    s.sweepLocker n =
      if (s.locker n).master = true then s.relatch n else (s.unbindLocker n).enterLocker n .free := by
  simp [sweepLocker, hst, hw]

theorem sweepLocker_reserved {n : Nat} (hst : (s.locker n).state = .reserved)
    (hw : s.expired (s.locker n).since s.settings.windows.reservation = true) :
    s.sweepLocker n = s.lapseReservation n := by
  simp [sweepLocker, hst, hw]

/-- Where no window has run out, the step finds nothing to do. -/
theorem sweepLocker_running {n : Nat}
    (h1 : (s.locker n).state = .released → s.expired (s.locker n).since s.settings.windows.opening = false)
    (h2 : (s.locker n).state = .closing → s.expired (s.locker n).since s.settings.windows.relock = false)
    (h3 : (s.locker n).state = .reserved → s.expired (s.locker n).since s.settings.windows.reservation = false) :
    s.sweepLocker n = s := by
  unfold sweepLocker
  dsimp only
  split
  · rw [h1 ‹_›]; rfl
  · rw [h2 ‹_›]; rfl
  · rw [h3 ‹_›]; rfl
  · rfl

/-- A locker unbound that then enters FREE: the holder leaves, and the record is written once. -/
theorem unbindLocker_free {n : Nat} (hn : 1 ≤ n ∧ n ≤ 1024) :
    (s.unbindLocker n).enterLocker n .free =
      (s.unbindLocker n).setLocker n
        { s.locker n with state := .free, holder := none, since := s.now, origin := none, fresh := false, master := false,
                          release := false } := by
  rw [enterLocker, unbindLocker_eq, leaveHolder_locker, setLocker_locker_self s _ hn, leaveHolder_now, setLocker_now,
    Locker.enter_of_clears _ (.inr (.inl rfl))]

theorem relatch_eq {n : Nat} {l : Locker} (hl : s.locker n = l) :
    s.relatch n =
      if 32 ≤ s.field.queue.length then s
      else (s.setLocker n
        { l with state := .latching, origin := some l.state, fresh := false, master := false }).queueCommand
          ((n - 1) / 8 + 1) ((n - 1) % 8) .latch := by
  simp only [relatch, queueFull_iff, latchLocker_eq false hl]

end Step

end State

/-- Settles O51: the step and its row, by the window of the locker it stands at. -/
theorem sweepStepsAndExpiresLockerWindows : Obligations.SweepStepsAndExpiresLockerWindows := by
  unfold Obligations.SweepStepsAndExpiresLockerWindows
  constructor
  · refine fun s => ⟨fun hg => ⟨?granted, fun hlast => ?last⟩, fun hrun hwait => ?waits, fun hstop => ?stopped⟩
    case granted => rw [exec_sweepStep_eq, State.sweepWhen_granted hg, State.advance_eq]
    case last => rw [exec_sweepRoundComplete_eq, exec_sweepStep_eq, hlast]; rfl
    case waits => rw [exec_sweepStep_eq, State.sweepWhen_waits hrun hwait]
    case stopped => rw [exec_sweepStep_eq, State.sweepWhen_idle (.inl hstop)]
  · intro n s hg hi h1 h2 l g age freed step relatched
    have hn : 1 ≤ n ∧ n ≤ 1024 := ⟨h1, h2⟩
    have hact : g.sweepAct = g.sweepLocker n := State.sweepAct_locker hi h2
    have plain {t : State} (h : g.sweepLocker n = t) : step .sweepStep t :=
      congrArg Host.Outcome.next (State.sweepWhen_acted hg rfl (hact.trans h))
    have hrelatch : g.relatch n = relatched := State.relatch_eq (s := g) rfl
    have hfree : (g.unbindLocker n).enterLocker n .free = (g.unbindLocker n).setLocker n freed := State.unbindLocker_free hn
    refine ⟨fun hst hage => ?released, fun hst hage => ⟨fun hm => ?master, fun hm => ?guest⟩, fun hst hage => ?reserved,
      fun h1 h2 h3 => ?running⟩
    case released =>
      have hw := (State.expired_iff s l.since s.settings.windows.opening).2 hage
      have h : g.sweepLocker n = relatched := (State.sweepLocker_released (s := g) hst hw).trans hrelatch
      exact ⟨congrArg Host.Outcome.next (State.sweepWhen_acted hg (State.findsLocker_eq hi h2 hst hw) (hact.trans h)), plain h⟩
    case master =>
      have hw := (State.expired_iff s l.since s.settings.windows.relock).2 hage
      have h : g.sweepLocker n = relatched :=
        ((State.sweepLocker_closing (s := g) hst hw).trans (if_pos hm)).trans hrelatch
      exact ⟨congrArg Host.Outcome.next (State.sweepWhen_acted hg (State.findsLocker_eq hi h2 hst hw) (hact.trans h)), plain h⟩
    case guest =>
      have hw := (State.expired_iff s l.since s.settings.windows.relock).2 hage
      have h : g.sweepLocker n = (g.unbindLocker n).setLocker n freed :=
        ((State.sweepLocker_closing (s := g) hst hw).trans (if_neg (ne_true_of_eq_false hm))).trans hfree
      exact ⟨congrArg Host.Outcome.next (State.sweepWhen_acted hg (State.findsLocker_eq hi h2 hst hw) (hact.trans h)), plain h⟩
    case reserved =>
      have hw := (State.expired_iff s l.since s.settings.windows.reservation).2 hage
      have h : g.sweepLocker n = ((g.unbindLocker n).setLocker n freed).notify .reservationLapsed (some (.locker n))
          (s.holderSerial n) := by
        rw [State.sweepLocker_reserved (s := g) hst hw, State.lapseReservation, hfree]
        rfl
      exact ⟨congrArg Host.Outcome.next (State.sweepWhen_acted hg (State.findsLocker_eq hi h2 hst hw) (hact.trans h)), plain h⟩
    case running =>
      exact plain (State.sweepLocker_running (s := g) (fun hst => State.expired_of_lt (h1 hst))
        (fun hst => State.expired_of_lt (h2 hst)) fun hst => State.expired_of_lt (h3 hst))

end Sys2Proof.Machine
end

section
/-! PROOFS. The sweep: overhold stages at a cabin, clearances and long stays at a band slot (R79, R105, R143 to R145). -/

namespace Sys2Proof.Machine

namespace State

section Step

variable {s : State}

/-! ### A step at a cabin (R143) -/

section Overhold

variable {c : Nat} {k : Cabin}

theorem overholdFirst_due (hk : s.cabin c = k) (h0 : k.stage = 0)
    (hage : s.cabinLimit (s.cabinKind c) ≤ elapsed s.now k.since) :
    s.overholdFirst c =
      (s.setCabin c { k with stage := 1 }).notify .cabinOverhold (some (.cabin c)) (s.occupantSerial c) := by
  simp [overholdFirst, hk, h0, hage]

theorem overholdFirst_not_due (hk : s.cabin c = k)
    (h : k.stage = 0 → elapsed s.now k.since < s.cabinLimit (s.cabinKind c)) : s.overholdFirst c = s := by
  rw [overholdFirst, hk]
  exact if_neg fun hdue => absurd hdue.2 (Nat.not_le.2 (h hdue.1))

theorem overholdSecond_due (hk : s.cabin c = k) (h1 : k.stage = 1)
    (hage : 2 * s.cabinLimit (s.cabinKind c) ≤ elapsed s.now k.since) :
    s.overholdSecond c =
      (s.setCabin c { k with stage := 2 }).notify .cabinOverholdLong (some (.cabin c)) (s.occupantSerial c) := by
  simp [overholdSecond, hk, h1, hage]

theorem overholdSecond_not_due (hk : s.cabin c = k)
    (h : k.stage = 1 → elapsed s.now k.since < 2 * s.cabinLimit (s.cabinKind c)) : s.overholdSecond c = s := by
  rw [overholdSecond, hk]
  exact if_neg fun hdue => absurd hdue.2 (Nat.not_le.2 (h hdue.1))

theorem sweepCabin_occupied (hst : (s.cabin c).state = .occupied) :
    s.sweepCabin c = (s.overholdFirst c).overholdSecond c := if_pos hst

/-- The first stage alone: the second is not due yet. -/
theorem sweepCabin_first (hc : 1 ≤ c ∧ c ≤ 64) (hk : s.cabin c = k) (hst : k.state = .occupied) (h0 : k.stage = 0)
    (hage : s.cabinLimit (s.cabinKind c) ≤ elapsed s.now k.since)
    (hearly : elapsed s.now k.since < 2 * s.cabinLimit (s.cabinKind c)) :
    s.sweepCabin c =
      (s.setCabin c { k with stage := 1 }).notify .cabinOverhold (some (.cabin c)) (s.occupantSerial c) := by
  rw [sweepCabin_occupied (hk ▸ hst), overholdFirst_due hk h0 hage]
  refine overholdSecond_not_due (setCabin_cabin_self s _ hc) fun _ => ?_
  simpa [cabinLimit] using hearly

/-- Both stages in the one step. -/
theorem sweepCabin_both (hc : 1 ≤ c ∧ c ≤ 64) (hk : s.cabin c = k) (hst : k.state = .occupied) (h0 : k.stage = 0)
    (hage : s.cabinLimit (s.cabinKind c) ≤ elapsed s.now k.since)
    (hlate : 2 * s.cabinLimit (s.cabinKind c) ≤ elapsed s.now k.since) :
    s.sweepCabin c =
      ((s.setCabin c { k with stage := 2 }).notify .cabinOverhold (some (.cabin c)) (s.occupantSerial c)).notify
        .cabinOverholdLong (some (.cabin c)) (s.occupantSerial c) := by
  have hserial : (s.setCabin c { k with stage := 1 }).occupantSerial c = s.occupantSerial c :=
    setCabin_occupantSerial hc (by rw [hk])
  have hsecond := overholdSecond_due
    (s := (s.setCabin c { k with stage := 1 }).notify .cabinOverhold (some (.cabin c)) (s.occupantSerial c))
    (setCabin_cabin_self s { k with stage := 1 } hc) rfl (by simpa [cabinLimit] using hlate)
  rw [sweepCabin_occupied (hk ▸ hst), overholdFirst_due hk h0 hage, hsecond, notify_setCabin, setCabin_setCabin]
  exact congrArg _ hserial

/-- The second stage of an occupation already at the first. -/
theorem sweepCabin_second (hk : s.cabin c = k) (hst : k.state = .occupied) (h1 : k.stage = 1)
    (hlate : 2 * s.cabinLimit (s.cabinKind c) ≤ elapsed s.now k.since) :
    s.sweepCabin c =
      (s.setCabin c { k with stage := 2 }).notify .cabinOverholdLong (some (.cabin c)) (s.occupantSerial c) := by
  rw [sweepCabin_occupied (hk ▸ hst), overholdFirst_not_due hk (by simp [h1]), overholdSecond_due hk h1 hlate]

theorem sweepCabin_early (hk : s.cabin c = k) (hst : k.state = .occupied)
    (h0 : k.stage = 0 → elapsed s.now k.since < s.cabinLimit (s.cabinKind c))
    (h1 : k.stage = 1 → elapsed s.now k.since < 2 * s.cabinLimit (s.cabinKind c)) : s.sweepCabin c = s := by
  rw [sweepCabin_occupied (hk ▸ hst), overholdFirst_not_due hk h0, overholdSecond_not_due hk h1]

theorem findsOverhold_eq (hi : s.sweep.index = 1024 + c) (hc : 1 ≤ c ∧ c ≤ 64) (hk : s.cabin c = k)
    (hst : k.state = .occupied)
    (hdue : k.stage = 0 ∧ s.cabinLimit (s.cabinKind c) ≤ elapsed s.now k.since ∨
      k.stage = 1 ∧ 2 * s.cabinLimit (s.cabinKind c) ≤ elapsed s.now k.since) : s.findsOverhold = true := by
  simpa [findsOverhold, hi, sweepPlace_cabin hc, hk, hst] using hdue

end Overhold

/-! ### A step at a band slot (R144) -/

section Slot

variable {slot : Nat} {b : Band} {a : Account}

/-- Is the visit to be marked as a long stay (R145)? -/
theorem checkLongStay_due (hb : s.band slot = some b) (hkind : b.kind = .visitor a)
    (hlong : a.longStay = false ∧ 43200 ≤ elapsed s.now b.entry) :
    s.checkLongStay slot =
      (s.setBand slot (some { b with kind := .visitor { a with longStay := true } })).notify .longStay
        (b.lastPlace.map (·.place)) (some b.serial) := by
  simp [checkLongStay, hb, hkind, hlong.1, Config.longStay, Nat.not_lt.2 hlong.2, Band.updAccount]

theorem checkLongStay_not_due (hb : s.band slot = some b) (hkind : b.kind = .visitor a)
    (h : ¬(a.longStay = false ∧ 43200 ≤ elapsed s.now b.entry)) : s.checkLongStay slot = s := by
  have hnot : a.longStay = false → elapsed s.now b.entry < 43200 := fun hl => Nat.not_le.1 fun hle => h ⟨hl, hle⟩
  rcases hl : a.longStay with _ | _
  · simp [checkLongStay, hb, hkind, hl, Config.longStay, hnot hl]
  · simp [checkLongStay, hb, hkind, hl]

theorem sweepSlot_staying (hb : s.band slot = some b) (hkind : b.kind = .visitor a)
    (hst : b.state = .active ∨ ∃ cents, b.state = .owing cents) : s.sweepSlot slot = s.checkLongStay slot := by
  obtain hst | ⟨cents, hst⟩ := hst <;> simp [sweepSlot, hb, hkind, hst]

theorem sweepSlot_cleared {since : Nat} (hb : s.band slot = some b) (hkind : b.kind = .visitor a)
    (hst : b.state = .cleared since) :
    s.sweepSlot slot =
      if s.expired since s.settings.windows.leave = true then (s.lapseLeave slot b).checkLongStay slot else s := by
  simp [sweepSlot, hb, hkind, hst]

theorem sweepSlot_revoked (hb : s.band slot = some b) (hkind : b.kind = .visitor a) (hst : b.state = .revoked) :
    s.sweepSlot slot = s := by
  simp [sweepSlot, hb, hkind, hst]

theorem lapseLeave_band (hb : s.band slot = some b) :
    (s.lapseLeave slot b).band slot = some { b with state := .active } :=
  setBand_band_self s _ (slot_of_band s hb)

/-- A clearance lapses and the same step marks the visit. -/
theorem lapseLeave_longStay (hb : s.band slot = some b) (hkind : b.kind = .visitor a)
    (hlong : a.longStay = false ∧ 43200 ≤ elapsed s.now b.entry) :
    (s.lapseLeave slot b).checkLongStay slot =
      ((s.setBand slot (some { b with state := .active, kind := .visitor { a with longStay := true } })).notify
        .leaveLapsed none (some b.serial)).notify .longStay (b.lastPlace.map (·.place)) (some b.serial) := by
  have hnow : (s.lapseLeave slot b).now = s.now := setBand_now s slot _
  rw [checkLongStay_due (lapseLeave_band hb) hkind (hnow.symm ▸ hlong), lapseLeave, notify_setBand, setBand_setBand]

theorem lapseLeave_short (hb : s.band slot = some b) (hkind : b.kind = .visitor a)
    (hlong : ¬(a.longStay = false ∧ 43200 ≤ elapsed s.now b.entry)) :
    (s.lapseLeave slot b).checkLongStay slot = s.lapseLeave slot b := by
  have hnow : (s.lapseLeave slot b).now = s.now := setBand_now s slot _
  exact checkLongStay_not_due (lapseLeave_band hb) hkind (hnow.symm ▸ hlong)

theorem findsLeave_eq {since : Nat} (hi : s.sweep.index = 1088 + slot) (hb : s.band slot = some b)
    (hkind : b.kind = .visitor a) (hst : b.state = .cleared since)
    (hw : s.expired since s.settings.windows.leave = true) : s.findsLeave = true := by
  simp [findsLeave, hi, sweepPlace_slot (slot_of_band s hb).1, hb, hkind, hst, hw]

theorem findsLongStay_staying (hi : s.sweep.index = 1088 + slot) (hb : s.band slot = some b)
    (hkind : b.kind = .visitor a) (hlong : a.longStay = false ∧ 43200 ≤ elapsed s.now b.entry)
    (hst : b.state = .active ∨ ∃ cents, b.state = .owing cents) : s.findsLongStay = true := by
  obtain hst | ⟨cents, hst⟩ := hst <;>
    simp [findsLongStay, hi, sweepPlace_slot (slot_of_band s hb).1, hb, hkind, hst, hlong.1, Config.longStay, hlong.2]

theorem findsLongStay_cleared {since : Nat} (hi : s.sweep.index = 1088 + slot) (hb : s.band slot = some b)
    (hkind : b.kind = .visitor a) (hlong : a.longStay = false ∧ 43200 ≤ elapsed s.now b.entry)
    (hst : b.state = .cleared since) (hw : s.expired since s.settings.windows.leave = true) :
    s.findsLongStay = true := by
  simp [findsLongStay, hi, sweepPlace_slot (slot_of_band s hb).1, hb, hkind, hst, hlong.1, Config.longStay, hlong.2, hw]

end Slot

end Step

end State

/-- Settles O52: the stages due at the cabin, or the state of the band in the slot. -/
theorem sweepReportsOverholdLeaveAndLongStay : Obligations.SweepReportsOverholdLeaveAndLongStay := by
  unfold Obligations.SweepReportsOverholdLeaveAndLongStay
  constructor
  · intro c s hg hi h1 h2 hst k g age limit serial step
    have hc : 1 ≤ c ∧ c ≤ 64 := ⟨h1, h2⟩
    have hlimit : g.cabinLimit (g.cabinKind c) = limit := rfl
    have hact : g.sweepAct = g.sweepCabin c := State.sweepAct_cabin hi hc
    have plain {t : State} (h : g.sweepCabin c = t) : step .sweepStep t :=
      congrArg Host.Outcome.next (State.sweepWhen_acted hg rfl (hact.trans h))
    have row {t : State} (hdue : k.stage = 0 ∧ limit ≤ age ∨ k.stage = 1 ∧ 2 * limit ≤ age) (h : g.sweepCabin c = t) :
        step .cabinOverhold t :=
      congrArg Host.Outcome.next (State.sweepWhen_acted hg (State.findsOverhold_eq hi hc rfl hst hdue) (hact.trans h))
    refine ⟨fun h0 hage hearly => ?first, fun h0 hage hlate => ?both, fun h1 hlate => ?second, fun h0 h1 => ?early⟩
    case first =>
      have h := State.sweepCabin_first (s := g) hc rfl hst h0 hage hearly
      exact ⟨row (.inl ⟨h0, hage⟩) h, plain h⟩
    case both =>
      have h := State.sweepCabin_both (s := g) hc rfl hst h0 hage hlate
      exact ⟨row (.inl ⟨h0, hage⟩) h, plain h⟩
    case second =>
      have h := State.sweepCabin_second (s := g) rfl hst h1 hlate
      exact ⟨row (.inr ⟨h1, hlate⟩) h, plain h⟩
    case early => exact plain (State.sweepCabin_early (s := g) rfl hst h0 h1)
  · intro slot b a s hg hi hb hkind g stay long marked place step
    have hact : g.sweepAct = g.sweepSlot slot := State.sweepAct_slot hi (State.slot_of_band s hb).1
    have granted {i : Instr} {wanted : Bool} {t : State} (hexec : exec i s = .next (s.sweepWhen wanted))
        (hw : wanted = true) (h : g.sweepSlot slot = t) : step i t :=
      hexec.trans (congrArg Host.Outcome.next (State.sweepWhen_acted hg hw (hact.trans h)))
    have plain {t : State} (h : g.sweepSlot slot = t) : step .sweepStep t := granted rfl rfl h
    refine ⟨fun hst => ⟨fun hlong => ?marks, fun hlong => ?stays⟩, fun since hst => ⟨fun hage =>
      ⟨fun hlong => ?lapses, fun hlong => ?both⟩, fun hage => ?clear⟩, fun hst => ?revoked⟩
    case marks =>
      have h := (State.sweepSlot_staying (s := g) hb hkind hst).trans (State.checkLongStay_due hb hkind hlong)
      exact ⟨granted rfl (State.findsLongStay_staying hi hb hkind hlong hst) h, plain h⟩
    case stays =>
      exact plain ((State.sweepSlot_staying (s := g) hb hkind hst).trans (State.checkLongStay_not_due hb hkind hlong))
    case lapses =>
      have hw := (State.expired_iff s since s.settings.windows.leave).2 hage
      have h := ((State.sweepSlot_cleared (s := g) hb hkind hst).trans (if_pos hw)).trans
        (State.lapseLeave_short hb hkind hlong)
      exact ⟨granted rfl (State.findsLeave_eq hi hb hkind hst hw) h, plain h⟩
    case both =>
      have hw := (State.expired_iff s since s.settings.windows.leave).2 hage
      have h := ((State.sweepSlot_cleared (s := g) hb hkind hst).trans (if_pos hw)).trans
        (State.lapseLeave_longStay hb hkind hlong)
      exact ⟨granted rfl (State.findsLeave_eq hi hb hkind hst hw) h,
        granted rfl (State.findsLongStay_cleared hi hb hkind hlong hst hw) h, plain h⟩
    case clear =>
      have hw : ¬s.expired since s.settings.windows.leave = true :=
        ne_true_of_eq_false (State.expired_of_lt (s := s) hage)
      exact plain ((State.sweepSlot_cleared (s := g) hb hkind hst).trans (if_neg hw))
    case revoked => exact plain (State.sweepSlot_revoked (s := g) hb hkind hst)

end Sys2Proof.Machine
end

section
/-! PROOFS. A request handled: the row that a grant or a taking runs; REVOKE_BAND (R23) and the cabin requests (R81, R82). -/

namespace Sys2Proof.Machine

/-! ### The row of a request -/

section Rows

variable {p : PortId} {k : ReqKind} {h : Handler} {r : Request} {s t : State} {a : Answer}

theorem exec_row_granted (hk : handlerOf p k = some h) (ha : arbitrated k = true) (hg : s.granting p k r)
    (hh : h r (s.granted (.port p)) = (a, t)) : exec (rowOf p k) s = .next (t.answered p r a.code a.data) := by
  rw [exec_rowOf hk s, if_pos ha, State.grantRequest_granting h hg, hh]

theorem exec_row_taken (hk : handlerOf p k = some h) (ha : arbitrated k = false) (hg : s.taking p k r)
    (hh : h r s = (a, t)) : exec (rowOf p k) s = .next (t.answered p r a.code a.data) := by
  rw [exec_rowOf hk s, if_neg (ne_true_of_eq_false ha), State.takeRequest_taking h hg, hh]

end Rows

/-! ### The checks that requests about a locker or a cabin share (R61, R81) -/

theorem Locker.moving_iff (l : Locker) : l.moving = true ↔ l.state = .latching ∨ l.state = .unlatching := by
  simp [Locker.moving]

theorem Cabin.moving_iff (k : Cabin) : k.moving = true ↔ k.state = .latching ∨ k.state = .unlatching := by
  simp [Cabin.moving]

section Checks

variable {s : State}

theorem onCabin_outside {c : Nat} (f : Cabin → Answer × State) (hc : c = 0 ∨ 64 < c) :
    onCabin c s f = refuse .outOfRange s := by
  simp [onCabin, hc]

theorem onCabin_busy {c : Nat} (f : Cabin → Answer × State) (hc : 1 ≤ c ∧ c ≤ 64)
    (h : (s.cabin c).state = .latching ∨ (s.cabin c).state = .unlatching ∨ (s.cabin c).command ≠ none) :
    onCabin c s f = refuse .lockerBusy s := by
  rw [onCabin, if_neg (by simp; omega), if_pos]
  simpa [Cabin.moving_iff, or_assoc, Option.isSome_iff_ne_none] using h

theorem onCabin_idle {c : Nat} (f : Cabin → Answer × State) (hc : 1 ≤ c ∧ c ≤ 64)
    (h : ¬((s.cabin c).state = .latching ∨ (s.cabin c).state = .unlatching ∨ (s.cabin c).command ≠ none)) :
    onCabin c s f = f (s.cabin c) := by
  rw [onCabin, if_neg (by simp; omega), if_neg]
  simpa [Cabin.moving_iff, or_assoc, Option.isSome_iff_ne_none] using h

theorem onLocker_outside {n : Nat} (f : Locker → Answer × State) (hn : n = 0 ∨ 1024 < n) :
    onLocker n s f = refuse .outOfRange s := by
  simp [onLocker, hn]

theorem onLocker_busy {n : Nat} (f : Locker → Answer × State) (hn : 1 ≤ n ∧ n ≤ 1024)
    (h : (s.locker n).state = .latching ∨ (s.locker n).state = .unlatching) :
    onLocker n s f = refuse .lockerBusy s := by
  rw [onLocker, if_neg (by simp; omega), if_pos ((Locker.moving_iff _).2 h)]

theorem onLocker_idle {n : Nat} (f : Locker → Answer × State) (hn : 1 ≤ n ∧ n ≤ 1024)
    (h : ¬((s.locker n).state = .latching ∨ (s.locker n).state = .unlatching)) :
    onLocker n s f = f (s.locker n) := by
  rw [onLocker, if_neg (by simp; omega), if_neg (mt (Locker.moving_iff _).1 h)]

theorem queuing_silent {addr : Nat} (f : State → State) (h : s.isSilent addr = true) :
    queuing addr s f = refuse .moduleSilent s := if_pos h

theorem queuing_full {addr : Nat} (f : State → State) (h : s.isSilent addr = false) (hq : 32 ≤ s.field.queue.length) :
    queuing addr s f = refuse .fieldBusy s := by
  rw [queuing, if_neg (ne_true_of_eq_false h), if_pos ((State.queueFull_iff s).2 hq)]

theorem queuing_room {addr : Nat} (f : State → State) (h : s.isSilent addr = false) (hq : s.field.queue.length < 32) :
    queuing addr s f = accept [] (f s) := by
  rw [queuing, if_neg (ne_true_of_eq_false h), State.queueFull_of_room hq]
  rfl

end Checks

/-! ### REVOKE_BAND (R23) -/

theorem State.cabin_range {s : State} {c slot : Nat} (h : (s.cabin c).occupant = some slot) : 1 ≤ c ∧ c ≤ 64 := by
  by_contra hc
  have hblank : s.cabin c = Cabin.blank .unfitted 0 := by
    unfold State.cabin
    split
    · rfl
    · exact tableGet_of_le _ _ (by omega)
  rw [hblank] at h
  cases h

/-- The occupant's record and the cabin's, each cleared of the other. -/
theorem State.clearOccupant_of_occupied {s : State} {c slot : Nat} {b : Band} (ho : (s.cabin c).occupant = some slot)
    (hb : s.band slot = some b) :
    s.clearOccupant c =
      (s.setBand slot (some { b with cabin := none })).setCabin c { s.cabin c with occupant := none } := by
  rw [clearOccupant_eq, ho, setBand_setCabin, leaveCabin, updBand_some _ (by rw [setCabin_band, hb])]

section Revoke

variable {s : State} {r : Request} {serial slot : Nat} {b : Band}

theorem revokeBand_of_unfound {c : ResultCode} (hp : parseNumber 4 r.body = some serial)
    (hf : s.findSerial serial = .error c) : revokeBand r s = refuse c s := by
  simp [revokeBand, hp, hf]

theorem revokeBand_of_revoked (hp : parseNumber 4 r.body = some serial) (hf : s.findSerial serial = .ok (slot, b))
    (hst : b.state = .revoked) : revokeBand r s = refuse .wrongState s := by
  simp [revokeBand, hp, hf, hst]

theorem revokeBand_of_outside (hp : parseNumber 4 r.body = some serial) (hf : s.findSerial serial = .ok (slot, b))
    (hst : b.state ≠ .revoked) (hc : b.cabin = none) :
    revokeBand r s = accept [] (s.setBand slot (some { b with state := .revoked, next := none })) := by
  simp [revokeBand, hp, hf, hst, hc, Band.revoke]

/-- A band in a cabin: the cabin's own checks, and then the record, the cabin and its UNLATCH together. -/
theorem revokeBand_in_cabin {c : Nat} (hp : parseNumber 4 r.body = some serial)
    (hf : s.findSerial serial = .ok (slot, b)) (hst : b.state ≠ .revoked) (hc : b.cabin = some c) :
    revokeBand r s =
      if (s.cabin c).moving then refuse .lockerBusy s
      else if s.queueFull then refuse .fieldBusy s
      else accept [] (((s.setBand slot (some b.revoke)).clearOccupant c).unlatchCabin c) := by
  simp [revokeBand, hp, hf, hst, hc]

theorem revoke_unlatch {c : Nat} (hb : s.band slot = some b) (ho : (s.cabin c).occupant = some slot) :
    ((s.setBand slot (some b.revoke)).clearOccupant c).unlatchCabin c =
      ((s.setBand slot (some { b with state := .revoked, next := none, cabin := none })).setCabin c
        { s.cabin c with state := .unlatching, occupant := none, command := some .unlatch }).queueCommand
        (cabinAt c).1 (cabinAt c).2 .unlatch := by
  have ho' : ((s.setBand slot (some b.revoke)).cabin c).occupant = some slot := by rw [State.setBand_cabin, ho]
  rw [State.clearOccupant_of_occupied ho' (State.setBand_band_self s _ (State.slot_of_band s hb)),
    State.setCabin_unlatchCabin _ (State.cabin_range ho), State.setBand_setBand, State.setBand_cabin]
  rfl

end Revoke

/-- Settles O23: the checks of R23 in order; the cabin named by the band is cleared and unlatched with the record. -/
theorem revokeWithdrawsTheBand : Obligations.RevokeWithdrawsTheBand := by
  unfold Obligations.RevokeWithdrawsTheBand
  refine ⟨fun p r serial c s hg hp hf => exec_row_granted (k := .revokeBand) rfl rfl hg (revokeBand_of_unfound hp hf), ?_⟩
  intro p r serial slot b s hg hp hf
  have run {a : Answer} {t : State} (h : revokeBand r (s.granted (.port p)) = (a, t)) :
      exec (.revokeBand p) s = .next (t.answered p r a.code a.data) := exec_row_granted (k := .revokeBand) rfl rfl hg h
  have hf' : (s.granted (.port p)).findSerial serial = .ok (slot, b) := hf
  obtain ⟨-, -, hb⟩ := State.findSerial_ok hf'
  refine ⟨fun hst => run (revokeBand_of_revoked hp hf' hst), fun hst =>
    ⟨fun hc => run (revokeBand_of_outside hp hf' hst hc), fun c hc => ?_⟩⟩
  have inCabin := revokeBand_in_cabin hp hf' hst hc
  refine ⟨fun hmoves => run (inCabin.trans (if_pos ((Cabin.moving_iff _).2 hmoves))), fun h1 h2 => ?_⟩
  have hstill : ¬((s.granted (.port p)).cabin c).moving = true := fun h => ((Cabin.moving_iff _).1 h).elim h1 h2
  rw [if_neg hstill] at inCabin
  refine ⟨fun hq => run (inCabin.trans (if_pos ((State.queueFull_iff _).2 hq))), fun hq ho => ?_⟩
  have hroom : ¬(s.granted (.port p)).queueFull = true := ne_true_of_eq_false (State.queueFull_of_room hq)
  rw [if_neg hroom, revoke_unlatch hb ho] at inCabin
  exact run inCabin

/-! ### OPEN_CABIN and SET_CABIN_SERVICE (R81, R82) -/

/-- The cabin states that OPEN_CABIN accepts: occupied, or vacant with a latch not known to be free (R81). -/
def Cabin.opens (k : Cabin) : Prop := k.state = .occupied ∨ (k.state = .vacant ∧ k.latch ≠ .free)

section Cabins

variable {s : State} {r : Request} {c : Nat} {back : Bool}

theorem openCabin_eq (hp : parseNumber 1 r.body = some c) :
    openCabin r s = onCabin c s fun k =>
      match k.state with
      | .occupied => queuing (cabinAt c).1 s fun t => t.unlatchCabin c
      | .vacant => if k.latch = .free then refuse .wrongState s else queuing (cabinAt c).1 s fun t => t.unlatchCabin c
      | _ => refuse .wrongState s := by
  simp only [openCabin, hp] <;> rfl

theorem setCabinService_eq (hp : parseCabinService r.body = some (c, back)) :
    setCabinService r s = onCabin c s fun k =>
      if k.state = (if back then .outOfService else .vacant) then
        accept [] (s.setCabin c { k with state := if back then .vacant else .outOfService, since := s.now, stage := 0 })
      else refuse .wrongState s := by
  simp only [setCabinService, hp]
  congr 1
  funext k
  cases back <;> cases h : k.state <;> simp [Cabin.enter]

variable (hc : 1 ≤ c ∧ c ≤ 64)
  (hidle : ¬((s.cabin c).state = .latching ∨ (s.cabin c).state = .unlatching ∨ (s.cabin c).command ≠ none))
include hc hidle

theorem openCabin_refuses (hp : parseNumber 1 r.body = some c) (h : ¬(s.cabin c).opens) :
    openCabin r s = refuse .wrongState s := by
  rw [openCabin_eq hp, onCabin_idle _ hc hidle]
  cases hst : (s.cabin c).state <;> simp_all [Cabin.opens]

theorem openCabin_accepts (hp : parseNumber 1 r.body = some c) (h : (s.cabin c).opens) :
    openCabin r s = queuing (cabinAt c).1 s fun t => t.unlatchCabin c := by
  rw [openCabin_eq hp, onCabin_idle _ hc hidle]
  obtain h | ⟨h, hl⟩ := h <;> simp [*]

theorem setCabinService_refuses (hp : parseCabinService r.body = some (c, back))
    (h : (s.cabin c).state ≠ (if back then .outOfService else .vacant)) : setCabinService r s = refuse .wrongState s := by
  rw [setCabinService_eq hp, onCabin_idle _ hc hidle, if_neg h]

theorem setCabinService_accepts (hp : parseCabinService r.body = some (c, back))
    (h : (s.cabin c).state = (if back then .outOfService else .vacant)) :
    setCabinService r s =
      accept [] (s.setCabin c
        { s.cabin c with state := if back then .vacant else .outOfService, since := s.now, stage := 0 }) := by
  rw [setCabinService_eq hp, onCabin_idle _ hc hidle, if_pos h]

end Cabins

/-- Settles O31: range, then a command out, then the state, then the module and the queue. -/
theorem cabinRequestsTakeEffect : Obligations.CabinRequestsTakeEffect := by
  unfold Obligations.CabinRequestsTakeEffect
  refine ⟨?opening, ?service, ?effects⟩
  case opening =>
    intro p r c s hg hp k refusal busy accepts
    have run {a : Answer} {t : State} (h : openCabin r (s.granted (.port p)) = (a, t)) :
        exec (.openCabin p) s = .next (t.answered p r a.code a.data) := exec_row_granted (k := .openCabin) rfl rfl hg h
    refine ⟨fun hc => run ((openCabin_eq hp).trans (onCabin_outside _ hc)), fun h1 h2 => ?_⟩
    refine ⟨fun hbusy => run ((openCabin_eq hp).trans (onCabin_busy _ ⟨h1, h2⟩ hbusy)), fun hidle => ?_⟩
    refine ⟨fun hno => run (openCabin_refuses ⟨h1, h2⟩ hidle hp hno), fun hyes => ?_⟩
    have haccepts := openCabin_accepts (s := s.granted (.port p)) ⟨h1, h2⟩ hidle hp hyes
    exact ⟨fun hsilent => run (haccepts.trans (queuing_silent _ hsilent)),
      fun honline hq => run (haccepts.trans (queuing_full _ honline hq))⟩
  case service =>
    intro p r c back s hg hp k refusal busy
    have run {a : Answer} {t : State} (h : setCabinService r (s.granted (.port p)) = (a, t)) :
        exec (.setCabinService p) s = .next (t.answered p r a.code a.data) :=
      exec_row_granted (k := .setCabinService) rfl rfl hg h
    refine ⟨fun hc => run ((setCabinService_eq hp).trans (onCabin_outside _ hc)), fun h1 h2 => ?_⟩
    exact ⟨fun hbusy => run ((setCabinService_eq hp).trans (onCabin_busy _ ⟨h1, h2⟩ hbusy)),
      fun hidle hno => run (setCabinService_refuses ⟨h1, h2⟩ hidle hp hno)⟩
  case effects =>
    intro p r c s h1 h2 k g
    have idle (hl : k.state ≠ .latching) (hu : k.state ≠ .unlatching) (hnone : k.command = none) :
        ¬(k.state = .latching ∨ k.state = .unlatching ∨ k.command ≠ none) := by simp [hl, hu, hnone]
    refine ⟨fun hg hp hyes hnone honline hq => ?unlatch, fun hg hp hst hnone => ?out, fun hg hp hst hnone => ?into⟩
    case unlatch =>
      have hidle : ¬(k.state = .latching ∨ k.state = .unlatching ∨ k.command ≠ none) := by
        obtain h | ⟨h, -⟩ := hyes <;> exact idle (by simp [h]) (by simp [h]) hnone
      have haccepts := (openCabin_accepts (s := g) ⟨h1, h2⟩ hidle hp hyes).trans (queuing_room _ honline hq)
      rw [State.unlatchCabin_eq (s := g) ⟨h1, h2⟩ (k := k) rfl] at haccepts
      exact exec_row_granted (k := .openCabin) rfl rfl hg haccepts
    case out =>
      exact exec_row_granted (k := .setCabinService) rfl rfl hg
        (setCabinService_accepts (s := g) (back := false) ⟨h1, h2⟩ (idle (by simp [hst]) (by simp [hst]) hnone) hp hst)
    case into =>
      exact exec_row_granted (k := .setCabinService) rfl rfl hg
        (setCabinService_accepts (s := g) (back := true) ⟨h1, h2⟩ (idle (by simp [hst]) (by simp [hst]) hnone) hp hst)

end Sys2Proof.Machine
end

section
/-! PROOFS. The attendant requests about a locker (R61 to R63). -/

namespace Sys2Proof.Machine

/-- The locker states whose latch is held, which OPEN_LOCKER opens (R61). -/
def Locker.latched (l : Locker) : Prop := l.state = .locked ∨ l.state = .fault ∨ l.state = .orphaned

/-- An OPEN_LOCKER's UNLATCH frees the locker at the end: nobody holds it (R62). -/
def Locker.opensFree (l : Locker) : Bool := l.state == .orphaned || (l.state == .fault && l.holder.isNone)

/-- What OPEN_LOCKER, RELEASE_LOCKER and REARM_LOCKER do with a locker that has no command out (R61, R62). -/
def lockerAct (n : Nat) (s : State) : ReqKind → Locker → Answer × State
  | .openLocker, l =>
    match l.state with
    | .locked => queuing (lockerAt n).1 s fun t => t.unlatchLocker n true false
    | .fault => queuing (lockerAt n).1 s fun t => t.unlatchLocker n true l.holder.isNone
    | .orphaned => queuing (lockerAt n).1 s fun t => t.unlatchLocker n true true
    | _ => refuse .wrongState s
  | .releaseLocker, l =>
    match l.state with
    | .locked | .fault | .orphaned => queuing (lockerAt n).1 s (State.releaseLatched n)
    | .forced =>
      if l.latch = .engaged then queuing (lockerAt n).1 s (State.releaseLatched n) else accept [] (s.releaseFree n)
    | .reserved | .released | .opened | .closing => accept [] (s.releaseFree n)
    | _ => refuse .wrongState s
  | .rearmLocker, l =>
    if l.state != .forced then refuse .wrongState s
    else if l.door = .opened then refuse .doorOpen s
    else queuing (lockerAt n).1 s fun t => t.latchLocker n false
  | _, _ => refuse .wrongState s

theorem openLocker_eq {s : State} {r : Request} {n : Nat} (hp : parseNumber 2 r.body = some n) :
    openLocker r s = onLocker n s (lockerAct n s .openLocker) := by
  simp only [openLocker, hp]
  rfl

theorem releaseLocker_eq {s : State} {r : Request} {n : Nat} (hp : parseNumber 2 r.body = some n) :
    releaseLocker r s = onLocker n s (lockerAct n s .releaseLocker) := by
  simp only [releaseLocker, hp]
  rfl

theorem rearmLocker_eq {s : State} {r : Request} {n : Nat} (hp : parseNumber 2 r.body = some n) :
    rearmLocker r s = onLocker n s (lockerAct n s .rearmLocker) := by
  simp only [rearmLocker, hp]
  rfl

/-- The three requests granted: the locker's own checks, then what the kind does with it. -/
theorem exec_lockerRequest {p : PortId} {r : Request} {k : ReqKind} {n : Nat} {s t : State} {a : Answer}
    (hk : k ∈ [.openLocker, .releaseLocker, .rearmLocker]) (hg : s.granting p k r) (hp : parseNumber 2 r.body = some n)
    (hh : onLocker n (s.granted (.port p)) (lockerAct n (s.granted (.port p)) k) = (a, t)) :
    exec (rowOf p k) s = .next (t.answered p r a.code a.data) := by
  simp only [List.mem_cons, List.not_mem_nil, or_false] at hk
  obtain rfl | rfl | rfl := hk
  · exact exec_row_granted rfl rfl hg ((openLocker_eq hp).trans hh)
  · exact exec_row_granted rfl rfl hg ((releaseLocker_eq hp).trans hh)
  · exact exec_row_granted rfl rfl hg ((rearmLocker_eq hp).trans hh)

section Acts

variable {n : Nat} {s : State} {l : Locker}

theorem lockerAct_open_latched (h : l.latched) :
    lockerAct n s .openLocker l = queuing (lockerAt n).1 s fun t => t.unlatchLocker n true l.opensFree := by
  obtain h | h | h := h <;> simp [lockerAct, h, Locker.opensFree] <;> rfl

theorem lockerAct_open_other (h : ¬l.latched) : lockerAct n s .openLocker l = refuse .wrongState s := by
  cases hst : l.state <;> simp_all [lockerAct, Locker.latched]

theorem lockerAct_release_latched (h : l.latched ∨ (l.state = .forced ∧ l.latch = .engaged)) :
    lockerAct n s .releaseLocker l = queuing (lockerAt n).1 s (State.releaseLatched n) := by
  obtain (h | h | h) | ⟨h, hl⟩ := h
  · simp [lockerAct, h]
  · simp [lockerAct, h]
  · simp [lockerAct, h]
  · simp [lockerAct, h, hl]

theorem lockerAct_release_free
    (h : l.state ∈ [.reserved, .released, .opened, .closing] ∨ (l.state = .forced ∧ l.latch ≠ .engaged)) :
    lockerAct n s .releaseLocker l = accept [] (s.releaseFree n) := by
  obtain h | ⟨h, hl⟩ := h
  · revert h
    cases hst : l.state <;> simp [lockerAct, hst]
  · simp [lockerAct, h, hl]

theorem lockerAct_release_other (h : l.state ∈ [.unfitted, .free, .outOfService]) :
    lockerAct n s .releaseLocker l = refuse .wrongState s := by
  revert h
  cases hst : l.state <;> simp [lockerAct, hst]

theorem lockerAct_rearm_other (h : l.state ≠ .forced) : lockerAct n s .rearmLocker l = refuse .wrongState s := by
  simp [lockerAct, h]

theorem lockerAct_rearm_open (h : l.state = .forced) (hd : l.door = .opened) :
    lockerAct n s .rearmLocker l = refuse .doorOpen s := by
  simp [lockerAct, h, hd]

theorem lockerAct_rearm_shut (h : l.state = .forced) (hd : l.door ≠ .opened) :
    lockerAct n s .rearmLocker l = queuing (lockerAt n).1 s fun t => t.latchLocker n false := by
  simp [lockerAct, h, hd]

/-- The requests that must queue a command, in any state of the queue (checks 5 and 6 of R61). -/
theorem lockerAct_queues {k : ReqKind}
    (h : (k = .openLocker ∧ l.latched) ∨ (k = .releaseLocker ∧ (l.latched ∨ (l.state = .forced ∧ l.latch = .engaged))) ∨
      (k = .rearmLocker ∧ l.state = .forced ∧ l.door ≠ .opened)) :
    ∃ f, lockerAct n s k l = queuing (lockerAt n).1 s f := by
  obtain ⟨rfl, h⟩ | ⟨rfl, h⟩ | ⟨rfl, h, hd⟩ := h
  · exact ⟨_, lockerAct_open_latched h⟩
  · exact ⟨_, lockerAct_release_latched h⟩
  · exact ⟨_, lockerAct_rearm_shut h hd⟩

end Acts

/-! ### The effects -/

section Effects

variable {s : State} {n : Nat}

theorem State.unbindLocker_locker_self (hn : 1 ≤ n ∧ n ≤ 1024) :
    (s.unbindLocker n).locker n = { s.locker n with holder := none, master := false } := by
  rw [unbindLocker_eq, leaveHolder_locker, setLocker_locker_self s _ hn]

theorem State.releaseLatched_eq (hn : 1 ≤ n ∧ n ≤ 1024) :
    s.releaseLatched n =
      ((s.unbindLocker n).setLocker n
        { s.locker n with state := .unlatching, holder := none, origin := some (s.locker n).state, master := false,
                          release := true }).queueCommand ((n - 1) / 8 + 1) ((n - 1) % 8) .unlatch := by
  rw [releaseLatched, unlatchLocker_eq false true (unbindLocker_locker_self hn)]

/-- SET_LOCKER_SERVICE: out takes a FREE locker, back an OUT_OF_SERVICE one. -/
theorem setLockerService_eq {r : Request} {back : Bool} (hp : parseLockerService r.body = some (n, back)) :
    setLockerService r s = onLocker n s fun l =>
      if l.state = (if back then .outOfService else .free) then
        accept [] (s.enterLocker n (if back then .free else .outOfService))
      else refuse .wrongState s := by
  simp only [setLockerService, hp]
  congr 1
  funext l
  cases back <;> cases h : l.state <;> simp

end Effects

/-- Settles O30: the checks of R61 in order, and what each request then writes. -/
theorem lockerRequestsTakeEffect : Obligations.LockerRequestsTakeEffect := by
  unfold Obligations.LockerRequestsTakeEffect
  refine ⟨?refusals, ?service, ?queued, ?direct⟩
  case refusals =>
    intro p r k n s hk hg hp l refusal moves latched
    have run {a : Answer} {t : State}
        (h : onLocker n (s.granted (.port p)) (lockerAct n (s.granted (.port p)) k) = (a, t)) :
        exec (rowOf p k) s = .next (t.answered p r a.code a.data) := exec_lockerRequest hk hg hp h
    refine ⟨fun hn => run (onLocker_outside _ hn), fun h1 h2 => ⟨fun hmoves => run (onLocker_busy _ ⟨h1, h2⟩ hmoves),
      fun hstill => ?_⟩⟩
    have act := onLocker_idle (s := s.granted (.port p)) (lockerAct n (s.granted (.port p)) k) ⟨h1, h2⟩ hstill
    refine ⟨?_, ?_, ?_, ?_, fun hqueues => ?_⟩
    · rintro rfl hno
      exact run (act.trans (lockerAct_open_other hno))
    · rintro rfl hno
      exact run (act.trans (lockerAct_release_other hno))
    · rintro rfl hno
      exact run (act.trans (lockerAct_rearm_other hno))
    · rintro rfl hforced hdoor
      exact run (act.trans (lockerAct_rearm_open hforced hdoor))
    · obtain ⟨f, hf⟩ := lockerAct_queues (n := n) (s := s.granted (.port p)) hqueues
      exact ⟨fun hsilent => run ((act.trans hf).trans (queuing_silent _ hsilent)),
        fun honline hq => run ((act.trans hf).trans (queuing_full _ honline hq))⟩
  case service =>
    intro p r n back s hg hp l refusal
    have run {a : Answer} {t : State} (h : setLockerService r (s.granted (.port p)) = (a, t)) :
        exec (.setLockerService p) s = .next (t.answered p r a.code a.data) :=
      exec_row_granted (k := .setLockerService) rfl rfl hg h
    refine ⟨fun hn => run ((setLockerService_eq hp).trans (onLocker_outside _ hn)), fun h1 h2 =>
      ⟨fun hmoves => run ((setLockerService_eq hp).trans (onLocker_busy _ ⟨h1, h2⟩ hmoves)), fun hl hu hno => ?_⟩⟩
    exact run ((setLockerService_eq hp).trans
      ((onLocker_idle (s := s.granted (.port p)) _ ⟨h1, h2⟩ (not_or.2 ⟨hl, hu⟩)).trans (if_neg hno)))
  case queued =>
    intro p r n s hp h1 h2 honline hq l g
    have run {k : ReqKind} {f : State → State} {t : State} (hk : k ∈ [.openLocker, .releaseLocker, .rearmLocker])
        (hg : s.granting p k r) (hstill : ¬(l.state = .latching ∨ l.state = .unlatching))
        (h : lockerAct n g k l = queuing (lockerAt n).1 g f) (ht : f g = t) :
        exec (rowOf p k) s = .next (t.answered p r .ok []) :=
      exec_lockerRequest hk hg hp ((onLocker_idle (s := g) _ ⟨h1, h2⟩ hstill).trans
        (h.trans ((queuing_room (s := g) f honline hq).trans (congrArg _ ht))))
    have latched (h : l.state ∈ [.locked, .fault, .orphaned]) : l.latched := by simpa [Locker.latched] using h
    refine ⟨fun hg hst => ?opens, fun hg hst => ?releases, fun hg hst hd => ?rearms⟩
    case opens =>
      have hstill : ¬(l.state = .latching ∨ l.state = .unlatching) := by
        obtain h | h | h := latched hst <;> simp [h]
      exact run (k := .openLocker) (by simp) hg hstill (lockerAct_open_latched (latched hst))
        (State.unlatchLocker_eq true l.opensFree rfl)
    case releases =>
      have hst' : l.latched ∨ (l.state = .forced ∧ l.latch = .engaged) := hst.imp_left latched
      have hstill : ¬(l.state = .latching ∨ l.state = .unlatching) := by
        obtain (h | h | h) | ⟨h, -⟩ := hst' <;> simp [h]
      exact run (k := .releaseLocker) (by simp) hg hstill (lockerAct_release_latched hst')
        (State.releaseLatched_eq (s := g) ⟨h1, h2⟩)
    case rearms =>
      have row := State.latchLocker_eq (s := g) (n := n) (l := l) false rfl
      rw [hst] at row
      exact run (k := .rearmLocker) (by simp) hg (by simp [hst]) (lockerAct_rearm_shut hst hd) row
  case direct =>
    intro p r n s h1 h2 l g
    refine ⟨fun hg hp hst => ?frees, fun hg hp hst => ?out, fun hg hp hst => ?into⟩
    case frees =>
      have hstill : ¬(l.state = .latching ∨ l.state = .unlatching) := by
        obtain h | ⟨h, -⟩ := hst
        · rintro (h' | h') <;> simp [h'] at h
        · simp [h]
      have hfree : g.releaseFree n = _ := State.unbindLocker_free (s := g) ⟨h1, h2⟩
      exact exec_lockerRequest (k := .releaseLocker) (by simp) hg hp ((onLocker_idle (s := g) _ ⟨h1, h2⟩ hstill).trans
        ((lockerAct_release_free hst).trans (congrArg _ hfree)))
    case out =>
      have henter : g.enterLocker n .outOfService = _ :=
        congrArg (g.setLocker n) (Locker.enter_of_keeps (l := l) s.now (.inl (by simp)))
      exact exec_row_granted (k := .setLockerService) rfl rfl hg ((setLockerService_eq (s := g) hp).trans
        ((onLocker_idle (s := g) _ ⟨h1, h2⟩ (by simp [show (g.locker n).state = .free from hst])).trans
          ((if_pos hst).trans (congrArg _ henter))))
    case into =>
      have henter : g.enterLocker n .free = _ :=
        congrArg (g.setLocker n) (Locker.enter_of_clears (l := l) s.now (.inr (.inl rfl)))
      exact exec_row_granted (k := .setLockerService) rfl rfl hg ((setLockerService_eq (s := g) hp).trans
        ((onLocker_idle (s := g) _ ⟨h1, h2⟩ (by simp [show (g.locker n).state = .outOfService from hst])).trans
          ((if_pos hst).trans (congrArg _ henter))))

end Sys2Proof.Machine
end

section
/-! PROOFS. What is picked from a table (R3, R33, R60), and the checks of ISSUE_BAND and ASSIGN_LOCKER (R5, R9 to R13, R59). -/

namespace Sys2Proof.Machine

/-! ### The first entry of a table, and of a sorted list, that a test accepts -/

section Tables

variable {α : Type} {n : Nat} {t : Vector α n} {P : α × Nat → Bool}

theorem zipIdx_getElem_tableGet (d : α) {i : Nat} (h : i < t.toList.zipIdx.length) :
    t.toList.zipIdx[i] = (tableGet t d i, i) := by
  have hi : i < n := by simpa using h
  simp [tableGet, hi]

/-- The index found is the lowest that passes. -/
theorem find?_zipIdx_some (d : α) {k : Nat} (h : (t.toList.zipIdx.find? P).map (·.2) = some k) :
    k < n ∧ P (tableGet t d k, k) = true ∧ ∀ j < k, P (tableGet t d j, j) = false := by
  obtain ⟨e, he, rfl⟩ := Option.map_eq_some_iff.1 h
  obtain ⟨hp, i, hi, rfl, hbefore⟩ := List.find?_eq_some_iff_getElem.1 he
  rw [zipIdx_getElem_tableGet d hi] at hp ⊢
  refine ⟨by simpa using hi, hp, fun j hj => ?_⟩
  have hj' := hbefore j hj
  rw [zipIdx_getElem_tableGet d (hj.trans hi)] at hj'
  simpa using hj'

theorem find?_zipIdx_none (d : α) (h : (t.toList.zipIdx.find? P).map (·.2) = none) {j : Nat} (hj : j < n) :
    P (tableGet t d j, j) = false := by
  have hall := List.find?_eq_none.1 (Option.map_eq_none_iff.1 h)
  have hlen : j < t.toList.zipIdx.length := by simpa using hj
  have hmem := List.getElem_mem hlen
  rw [zipIdx_getElem_tableGet d hlen] at hmem
  exact Bool.eq_false_iff.2 (hall _ hmem)

end Tables

/-- In a list ordered by `R`, what is found stands before everything else that passes. -/
theorem find?_before_of_pairwise {α : Type} {R : α → α → Prop} {l : List α} {p : α → Bool} {a b : α} (hl : l.Pairwise R)
    (ha : l.find? p = some a) (hb : b ∈ l) (hp : p b = true) : b = a ∨ R a b := by
  induction l with
  | nil => cases hb
  | cons x xs ih =>
    obtain ⟨hx, hxs⟩ := List.pairwise_cons.1 hl
    rw [List.find?_cons] at ha
    split at ha
    · cases ha
      obtain rfl | hb := List.mem_cons.1 hb
      · exact .inl rfl
      · exact .inr (hx b hb)
    · obtain rfl | hb := List.mem_cons.1 hb
      · simp_all
      · exact ih hxs ha hb

/-! ### A free slot (R3) -/

namespace State

theorem band_eq_tableGet {s : State} {k : Nat} (hk : k ≠ 0) : s.band k = tableGet s.engine.bands none k := if_neg hk

theorem freeSlot_some {s : State} {k : Nat} (h : s.freeSlot = some k) :
    1 ≤ k ∧ k ≤ 2047 ∧ s.band k = none ∧ ∀ j, 1 ≤ j → j < k → s.band j ≠ none := by
  obtain ⟨hlt, hempty, hbefore⟩ := find?_zipIdx_some none h
  have hk : k ≠ 0 := by rintro rfl; simp at hempty
  refine ⟨Nat.one_le_iff_ne_zero.2 hk, Nat.le_of_lt_succ hlt, ?_, fun j h1 hj => ?_⟩
  · rw [band_eq_tableGet hk]
    simpa [hk] using hempty
  · have h0 : j ≠ 0 := Nat.one_le_iff_ne_zero.1 h1
    rw [band_eq_tableGet h0]
    simpa [h0] using hbefore j hj

theorem freeSlot_none {s : State} (h : s.freeSlot = none) {k : Nat} (h1 : 1 ≤ k) (h2 : k ≤ 2047) : s.band k ≠ none := by
  have h0 : k ≠ 0 := Nat.one_le_iff_ne_zero.1 h1
  have hin := find?_zipIdx_none none h (Nat.lt_succ_of_le h2)
  rw [band_eq_tableGet h0]
  simpa [h0] using hin

/-! ### A free locker of a zone (R60), and the zone of a locker (R33) -/

theorem mem_zoneNumbers (z : Zone) (n : Nat) : n ∈ zoneNumbers z ↔ z.first ≤ n ∧ n < z.first + z.count := by
  have hup : n ∈ (List.range z.count).map (z.first + ·) ↔ z.first ≤ n ∧ n < z.first + z.count := by
    simp only [List.mem_map, List.mem_range]
    constructor
    · rintro ⟨i, hi, rfl⟩
      omega
    · exact fun h => ⟨n - z.first, by omega, by omega⟩
  unfold zoneNumbers
  cases z.order <;> simpa using hup

/-- The order in which a zone's numbers are tried. -/
def triedBefore (o : ZoneOrder) (n m : Nat) : Prop :=
  match o with
  | .lowFirst => n < m
  | .highFirst => m < n

theorem zoneNumbers_pairwise (z : Zone) : (zoneNumbers z).Pairwise (triedBefore z.order) := by
  have hup : ((List.range z.count).map (z.first + ·)).Pairwise (· < ·) :=
    List.pairwise_map.2 (List.pairwise_lt_range.imp fun h => by omega)
  unfold zoneNumbers triedBefore
  cases z.order
  · exact hup
  · exact List.pairwise_reverse.2 hup

theorem pickFree_some {s : State} {z : Zone} {n : Nat} (h : s.pickFree z = some n) :
    (z.first ≤ n ∧ n < z.first + z.count) ∧ (s.locker n).state = .free ∧
      ∀ m, z.first ≤ m → m < z.first + z.count → (s.locker m).state = .free → m = n ∨ triedBefore z.order n m := by
  refine ⟨(mem_zoneNumbers z n).1 (List.mem_of_find?_eq_some h), by simpa using List.find?_some h, fun m h1 h2 hm => ?_⟩
  exact find?_before_of_pairwise (zoneNumbers_pairwise z) h ((mem_zoneNumbers z m).2 ⟨h1, h2⟩) (by simp [hm])

theorem pickFree_none {s : State} {z : Zone} (h : s.pickFree z = none) {m : Nat} (h1 : z.first ≤ m)
    (h2 : m < z.first + z.count) : (s.locker m).state ≠ .free := by
  simpa using List.find?_eq_none.1 h m ((mem_zoneNumbers z m).2 ⟨h1, h2⟩)

/-- Does zone `z` exist, is it present, and does its range contain locker `n`? -/
def zoneHas (s : State) (z n : Nat) : Prop :=
  z ≤ 15 ∧ (s.zone z).present = true ∧ (s.zone z).first ≤ n ∧ n < (s.zone z).first + (s.zone z).count

theorem zoneOf_some {s : State} {n z : Nat} (h : s.zoneOf n = some z) : s.zoneHas z n := by
  obtain ⟨hlt, hhas, -⟩ := find?_zipIdx_some Zone.factoryOther h
  exact ⟨Nat.le_of_lt_succ hlt, by simpa [zone, and_assoc] using hhas⟩

theorem zoneOf_none {s : State} {n : Nat} (h : s.zoneOf n = none) (z : Nat) : ¬s.zoneHas z n := by
  rintro ⟨hz, hhas⟩
  have hnot := find?_zipIdx_none Zone.factoryOther h (Nat.lt_succ_of_le hz)
  simp_all [zone]

end State

/-- Settles O20: each pick is the first that passes in its own order. -/
theorem picksTakeTheFirstFree : Obligations.PicksTakeTheFirstFree := by
  unfold Obligations.PicksTakeTheFirstFree
  refine ⟨fun s => ⟨fun slot h => State.freeSlot_some h, fun h k h1 h2 => State.freeSlot_none h h1 h2⟩, fun z s => ?_,
    fun n s => ?_⟩
  · refine ⟨fun n h => ?_, fun h m h1 h2 => State.pickFree_none h h1 h2⟩
    obtain ⟨⟨h1, h2⟩, hfree, hbefore⟩ := State.pickFree_some h
    refine ⟨h1, h2, hfree, fun m hm1 hm2 hm => ?_⟩
    have hm := hbefore m hm1 hm2 hm
    revert hm
    unfold State.triedBefore
    cases z.order <;> rintro (rfl | h)
    · exact Nat.le_refl _
    · exact Nat.le_of_lt h
    · exact Nat.le_refl _
    · exact Nat.le_of_lt h
  · intro has
    refine ⟨fun z h => State.zoneOf_some h, fun h z => State.zoneOf_none h z, fun z hz hone => ?_⟩
    cases h : s.zoneOf n with
    | none => exact absurd hz (State.zoneOf_none h z)
    | some y => rw [hone y (State.zoneOf_some h)]

end Sys2Proof.Machine
end

section
/-! PROOFS. ASSIGN_LOCKER (R59, R60) and the checks of ISSUE_BAND (R5, R9 to R13). -/

namespace Sys2Proof.Machine

/-! ### Checks 5 to 8 of R59 -/

section Rights

variable {z : Zone} {d : Nat} {g : Bool}

theorem zoneRights_of_rank (h : z.rank < d) : State.zoneRights z d g = .error .rank := if_pos h

theorem zoneRights_of_group (h : d ≤ z.rank) (hz : z.groupOnly = true) (hg : g = false) :
    State.zoneRights z d g = .error .wrongState := by
  simp [State.zoneRights, Nat.not_lt.2 h, hz, hg]

theorem zoneRights_of_passes (h : d ≤ z.rank) (hg : z.groupOnly = false ∨ g = true) : State.zoneRights z d g = .ok () := by
  obtain hg | hg := hg <;> simp [State.zoneRights, Nat.not_lt.2 h, hg]

end Rights

namespace State

section Assignment

variable {s : State} {rank portRank held : Nat} {role : Role}

theorem assignment_full (a : Assignment) (h : role.capacity ≤ held) :
    s.assignment a rank portRank role held = .error .holdsLocker := if_pos h

/-- What an assignment gives, with room on the holder's list and the zone's rights settled. -/
def pickOf (s : State) (z : Nat) : Assignment → Except ResultCode Nat
  | .zone _ =>
    match s.pickFree (s.zone z) with
    | none => .error .noFreeLocker
    | some n => .ok n
  | .locker n =>
    if (s.locker n).moving then .error .lockerBusy
    else if (s.locker n).state != .free then .error .wrongState
    else .ok n

/-- The zone an assignment falls in, when there is one. -/
def zoneFor (s : State) : Assignment → Option Nat
  | .zone z => if (s.zone z).present then some z else none
  | .locker n => s.zoneOf n

theorem assignment_zoneless {a : Assignment} (hroom : held < role.capacity) (hz : s.zoneFor a = none) :
    s.assignment a rank portRank role held = .error .zoneAbsent := by
  cases a with
  | zone z => simp_all [assignment, zoneFor]
  | locker n => simp_all [assignment, zoneFor]

theorem assignment_refused {a : Assignment} {z : Nat} {c : ResultCode} (hroom : held < role.capacity)
    (hz : s.zoneFor a = some z) (hr : zoneRights (s.zone z) (max rank portRank) (role != .none) = .error c) :
    s.assignment a rank portRank role held = .error c := by
  have hroom' := Nat.not_le.2 hroom
  cases a with
  | zone y =>
    obtain ⟨hp, rfl⟩ : (s.zone y).present = true ∧ y = z := by simpa [zoneFor] using hz
    simp [assignment, hroom', hp, hr]
  | locker n =>
    have hz' : s.zoneOf n = some z := hz
    simp [assignment, hroom', hz', hr]

theorem assignment_passed {a : Assignment} {z : Nat} (hroom : held < role.capacity)
    (hz : s.zoneFor a = some z) (hr : zoneRights (s.zone z) (max rank portRank) (role != .none) = .ok ()) :
    s.assignment a rank portRank role held = s.pickOf z a := by
  have hroom' := Nat.not_le.2 hroom
  cases a with
  | zone y =>
    obtain ⟨hp, rfl⟩ : (s.zone y).present = true ∧ y = z := by simpa [zoneFor] using hz
    simp [assignment, hroom', hp, hr, pickOf] <;> rfl
  | locker n =>
    have hz' : s.zoneOf n = some z := hz
    simp [assignment, hroom', hz', hr, pickOf]

/-- What an assignment gives is a FREE locker. -/
theorem assignment_free {a : Assignment} {n : Nat} (h : s.assignment a rank portRank role held = .ok n) :
    (s.locker n).state = .free := by
  by_cases hroom : held < role.capacity
  · cases hz : s.zoneFor a with
    | none => rw [assignment_zoneless hroom hz] at h; cases h
    | some z =>
      cases hr : zoneRights (s.zone z) (max rank portRank) (role != .none) with
      | error c => rw [assignment_refused hroom hz hr] at h; cases h
      | ok _ =>
        rw [assignment_passed hroom hz hr] at h
        cases a with
        | zone y =>
          cases hp : s.pickFree (s.zone z) <;> simp [pickOf, hp] at h
          subst h
          exact (pickFree_some hp).2.1
        | locker m =>
          by_cases hfree : (s.locker m).state = .free
          · simp [pickOf, Locker.moving, hfree] at h
            exact h ▸ hfree
          · cases hm : (s.locker m).moving <;> simp [pickOf, hm, hfree] at h
  · rw [assignment_full a (Nat.not_lt.1 hroom)] at h
    cases h

theorem assignment_range {a : Assignment} {n : Nat} (h : s.assignment a rank portRank role held = .ok n) :
    1 ≤ n ∧ n ≤ 1024 := locker_range (s := s) (by simp [assignment_free h])

end Assignment

/-! ### The holder-to-be (R43, R59) -/

theorem heldBy_none {s : State} {k : Nat} (h : s.band k = none) : s.heldBy k = 0 := by simp [heldBy, h]

theorem heldBy_some {s : State} {k : Nat} {b : Band} (h : s.band k = some b) : s.heldBy k = b.lockers.length := by
  simp [heldBy, h]

theorem leaderRevoked_iff (s : State) (b : Band) :
    s.leaderRevoked b = true ↔ ∃ l lb, b.role = .member l ∧ s.band l = some lb ∧ lb.state = .revoked := by
  simp only [leaderRevoked, Option.any_eq_true, Option.bind_eq_some_iff, Band.leaderSlot_eq_some_iff, beq_iff_eq]
  exact ⟨fun ⟨lb, ⟨l, hr, hb⟩, hst⟩ => ⟨l, lb, hr, hb, hst⟩, fun ⟨l, lb, hr, hb, hst⟩ => ⟨lb, ⟨l, hr, hb⟩, hst⟩⟩

/-! ### The reservation (R60) -/

theorem bindLocker_of_band {s : State} {h : Nat} {b : Band} (n : Nat) (hb : s.band h = some b) :
    s.bindLocker n h =
      (s.setLocker n { s.locker n with holder := some h }).setBand h (some { b with lockers := b.lockers ++ [n] }) :=
  updBand_some _ ((setLocker_band s n _ h).trans hb)

theorem reserve_eq {s : State} {n h : Nat} {hb : Band} (hn : 1 ≤ n ∧ n ≤ 1024) (hband : s.band h = some hb) :
    s.reserve n h =
      ((s.setLocker n
        { s.locker n with state := .reserved, holder := some h, since := s.now, fresh := false, master := false,
                          release := false, origin := none }).setBand h
        (some { hb with lockers := hb.lockers ++ [n] })).useZone n := by
  simp only [reserve, bindLocker_of_band n hband, setBand_locker, setBand_setLocker, setLocker_setLocker,
    setLocker_locker_self s _ hn]
  rfl

end State

/-! ### ASSIGN_LOCKER in order (R59) -/

section Assign

variable {s : State} {r : Request} {serial slot : Nat} {a : Assignment} {b : Band}

theorem assignLocker_of_range (hp : parseAssign r.body = some (serial, a)) (ha : a.inRange = false) :
    assignLocker r s = refuse .outOfRange s := by
  simp [assignLocker, hp, ha]

theorem assignLocker_of_unfound {c : ResultCode} (hp : parseAssign r.body = some (serial, a)) (ha : a.inRange = true)
    (hf : s.findSerial serial = .error c) : assignLocker r s = refuse c s := by
  simp [assignLocker, hp, ha, hf]

variable (hp : parseAssign r.body = some (serial, a)) (ha : a.inRange = true) (hf : s.findSerial serial = .ok (slot, b))
include hp ha hf

theorem assignLocker_of_hold (hs : s.supply.supply = .hold) : assignLocker r s = refuse .powerHold s := by
  simp [assignLocker, hp, ha, hf, hs]

theorem assignLocker_of_wrongState (hs : s.supply.supply ≠ .hold) (hb : b.state ≠ .active ∨ s.leaderRevoked b = true) :
    assignLocker r s = refuse .wrongState s := by
  simp [assignLocker, hp, ha, hf, hs, hb]

theorem assignLocker_of_active (hs : s.supply.supply ≠ .hold) (hb : b.state = .active) (hl : s.leaderRevoked b = false) :
    assignLocker r s =
      match s.assignment a b.rank r.rank b.role (s.heldBy (b.holderSlot slot)) with
      | .error c => refuse c s
      | .ok n => accept (bytesOf 2 n) (s.reserve n (b.holderSlot slot)) := by
  simp only [assignLocker, hp, ha, hf, hs, hb, hl]
  rfl

end Assign

/-- Settles O29: the checks of R59 in order, those of the zone and the locker by the form of the assignment. -/
theorem assignmentReservesTheLocker : Obligations.AssignmentReservesTheLocker := by
  unfold Obligations.AssignmentReservesTheLocker
  refine ⟨?holder, ?refusals, ?assignment, ?effect⟩
  case holder =>
    exact fun k b s => ⟨State.heldBy_none, State.heldBy_some, State.leaderRevoked_iff s b, b.holderSlot_eq k⟩
  case refusals =>
    intro p r serial a s hg hp refusal
    have run {a : Answer} {t : State} (h : assignLocker r (s.granted (.port p)) = (a, t)) :
        exec (.assignLocker p) s = .next (t.answered p r a.code a.data) :=
      exec_row_granted (k := .assignLocker) rfl rfl hg h
    refine ⟨fun ha => run (assignLocker_of_range hp ha), fun ha => ⟨fun c hf =>
      run (assignLocker_of_unfound (s := s.granted (.port p)) hp ha hf), fun slot b hf => ?_⟩⟩
    have hf' : (s.granted (.port p)).findSerial serial = .ok (slot, b) := hf
    refine ⟨fun hs => run (assignLocker_of_hold hp ha hf' hs), fun hs => ⟨fun hb =>
      run (assignLocker_of_wrongState hp ha hf' hs hb), fun hb hl c hc => ?_⟩⟩
    have row := assignLocker_of_active hp ha hf' hs hb hl
    rw [State.granted_heldBy, State.assignment_granted, hc] at row
    exact run row
  case assignment =>
    intro rank portRank held role s room give rights passes
    have hroom : room = role.capacity := (Role.capacity_eq role).symm
    refine ⟨fun a hfull => State.assignment_full a (hroom ▸ hfull), fun hheld => ?_⟩
    rw [hroom] at hheld
    have hrights {a : Assignment} {z : Nat} (hz : s.zoneFor a = some z) : rights z a :=
      ⟨fun h => State.assignment_refused hheld hz (zoneRights_of_rank h),
        fun h hgroup hrole => State.assignment_refused hheld hz (zoneRights_of_group h hgroup (by simp [hrole]))⟩
    have hpasses {a : Assignment} {z : Nat} (hz : s.zoneFor a = some z) (h : passes z) : give a = s.pickOf z a :=
      State.assignment_passed hheld hz (zoneRights_of_passes h.1 (h.2.imp id (by simp)))
    refine ⟨fun z => ⟨fun habsent => State.assignment_zoneless hheld (by simp [State.zoneFor, habsent]),
      fun hpresent => ?_⟩, fun n => ⟨fun hz => State.assignment_zoneless hheld hz, fun z hz => ?_⟩⟩
    · have hz : s.zoneFor (.zone z) = some z := if_pos hpresent
      refine ⟨hrights hz, fun h => ?_⟩
      rw [hpasses hz h, State.pickOf]
      exact ⟨fun hpick => by rw [hpick], fun n hpick => by rw [hpick]⟩
    · have hz' : s.zoneFor (.locker n) = some z := hz
      refine ⟨hrights hz', fun h => ?_⟩
      rw [hpasses hz' h, State.pickOf]
      refine ⟨fun hmoves => if_pos ((Locker.moving_iff _).2 hmoves), fun hfree => ?_, fun hother => ?_⟩
      · simp [Locker.moving, hfree]
      · simp only [List.mem_cons, List.not_mem_nil, or_false, not_or] at hother
        simp [Locker.moving, hother]
  case effect =>
    intro p r serial slot h n a b hb s hg hp ha hf hs hst hl hassign hholder hband
    have hh : b.holderSlot slot = h := (b.holderSlot_eq slot).trans hholder.symm
    have row := assignLocker_of_active (s := s.granted (.port p)) hp ha hf hs hst hl
    rw [State.granted_heldBy, State.assignment_granted, hassign, hh] at row
    have hband' : (s.granted (.port p)).band h = some hb := hband
    have hreserve := State.reserve_eq (s := s.granted (.port p)) (State.assignment_range hassign) hband'
    exact exec_row_granted (k := .assignLocker) rfl rfl hg (row.trans (congrArg (accept _) hreserve))

/-! ### The checks of ISSUE_BAND (Table 2-3) -/

theorem validSerial_iff (n : Nat) : validSerial n = true ↔ 1 ≤ n ∧ n ≤ 4294967294 := by
  rw [validSerial, Bool.and_eq_true, decide_eq_true_iff, decide_eq_true_iff]
  exact and_congr_right fun _ => Nat.lt_succ_iff

theorem Assignment.inRange_iff (a : Assignment) :
    a.inRange = true ↔ (∀ z, a = .zone z → z ≤ 15) ∧ ∀ n, a = .locker n → 1 ≤ n ∧ n ≤ 1024 := by
  cases a <;> simp [Assignment.inRange]

theorem IssueRequest.inRange_iff (q : IssueRequest) :
    q.inRange = true ↔
      (1 ≤ q.serial ∧ q.serial ≤ 4294967294) ∧
        (if q.staff then q.rank = 0 ∨ q.rank = 1 else (q.rank = 2 ∨ q.rank = 3) ∧ q.cls ≤ 7) ∧
        (∀ l, q.leader = some l → q.staff = false ∧ 1 ≤ l ∧ l ≤ 4294967294) ∧
        (∀ z, q.assignment = some (.zone z) → z ≤ 15) ∧ ∀ n, q.assignment = some (.locker n) → 1 ≤ n ∧ n ≤ 1024 := by
  have hassign : q.assignment.all Assignment.inRange = true ↔
      (∀ z, q.assignment = some (.zone z) → z ≤ 15) ∧ ∀ n, q.assignment = some (.locker n) → 1 ≤ n ∧ n ≤ 1024 := by
    cases q.assignment <;> simp [Assignment.inRange_iff]
  have hkind : ((if q.staff then decide (q.rank ≤ 1) else decide (2 ≤ q.rank) && decide (q.rank ≤ 3)) &&
      (q.staff || decide (q.cls ≤ 7))) = true ↔
        (if q.staff then q.rank = 0 ∨ q.rank = 1 else (q.rank = 2 ∨ q.rank = 3) ∧ q.cls ≤ 7) := by
    cases q.staff <;> simp <;> omega
  have hleader : ((!q.staff || q.leader.isNone) && q.leader.all validSerial) = true ↔
      ∀ l, q.leader = some l → q.staff = false ∧ 1 ≤ l ∧ l ≤ 4294967294 := by
    cases q.leader <;> simp [validSerial_iff]
  rw [← hassign, ← hkind, ← hleader, ← validSerial_iff]
  simp only [IssueRequest.inRange, Bool.and_eq_true, and_assoc]

namespace State

section Issue

variable {s : State} {n slot : Nat} {b : Band}

theorem findSerial_invalid (h : n = 0 ∨ 4294967295 ≤ n) : s.findSerial n = .error .outOfRange := by
  have hnot : ¬validSerial n = true := by rw [validSerial_iff]; omega
  simp [findSerial, hnot]

theorem findSerial_unmapped (hv : validSerial n = true) (h : s.slotOf n = none) :
    s.findSerial n = .error .unknownBand := by
  simp [findSerial, hv, h]

theorem findSerial_mapped (hv : validSerial n = true) (h : s.slotOf n = some slot) (hb : s.band slot = some b) :
    s.findSerial n = .ok (slot, b) := by
  simp [findSerial, hv, h, hb]

theorem leaderFor_unfound {c : ResultCode} (h : s.findSerial n = .error c) : s.leaderFor (some n) = .error c := by
  simp [leaderFor, h]

theorem leaderFor_wrongState (h : s.findSerial n = .ok (slot, b))
    (hb : b.state ≠ .active ∨ b.kind = .staff ∨ ∃ l, b.role = .member l) : s.leaderFor (some n) = .error .wrongState := by
  simp only [leaderFor, h]
  obtain hb | hb | ⟨l, hb⟩ := hb
  · simp [hb]
  · simp [Band.isVisitor, hb]
  · split
    · rfl
    · rw [hb]

theorem leaderFor_alone (h : s.findSerial n = .ok (slot, b)) (ha : b.state = .active) (hv : b.isVisitor = true)
    (hr : b.role = .none) : s.leaderFor (some n) = .ok (some slot) := by
  simp [leaderFor, h, ha, hv, hr]

theorem leaderFor_leader {ms : List Nat} (h : s.findSerial n = .ok (slot, b)) (ha : b.state = .active)
    (hv : b.isVisitor = true) (hr : b.role = .leader ms) :
    s.leaderFor (some n) = if 5 ≤ ms.length then .error .groupFull else .ok (some slot) := by
  simp [leaderFor, h, ha, hv, hr, Config.groupCapacity] <;> rfl

/-- The slot that a leader's serial names holds a record. -/
theorem leaderFor_band {q : Option Nat} {l : Nat} (h : s.leaderFor q = .ok (some l)) : ∃ lb, s.band l = some lb ∧
    lb.state = .active ∧ lb.isVisitor = true ∧ (lb.role = .none ∨ ∃ ms, lb.role = .leader ms ∧ ms.length < 5) := by
  cases q with
  | none => cases h
  | some n =>
    cases hf : s.findSerial n with
    | error c => rw [leaderFor_unfound hf] at h; cases h
    | ok found =>
      obtain ⟨slot, b⟩ := found
      by_cases hwrong : b.state ≠ .active ∨ b.kind = .staff ∨ ∃ l, b.role = .member l
      · rw [leaderFor_wrongState hf hwrong] at h; cases h
      · simp only [not_or, not_not, not_exists] at hwrong
        obtain ⟨ha, hk, hm⟩ := hwrong
        have hv : b.isVisitor = true := by cases hkind : b.kind <;> simp_all [Band.isVisitor]
        cases hr : b.role with
        | member l => exact absurd hr (hm l)
        | none =>
          rw [leaderFor_alone hf ha hv hr] at h
          cases h
          exact ⟨b, (findSerial_ok hf).2.2, ha, hv, .inl hr⟩
        | leader ms =>
          rw [leaderFor_leader hf ha hv hr] at h
          split at h
          · cases h
          · cases h
            exact ⟨b, (findSerial_ok hf).2.2, ha, hv, .inr ⟨ms, hr, Nat.not_le.1 ‹_›⟩⟩

theorem issueLocker_unasked {q : IssueRequest} (leader : Option Nat) (portRank : Nat) (h : q.assignment = none) :
    s.issueLocker q leader portRank = .ok 0 := by
  simp [issueLocker, h]

theorem issueLocker_asked {q : IssueRequest} {a : Assignment} (leader : Option Nat) (portRank : Nat)
    (h : q.assignment = some a) :
    s.issueLocker q leader portRank =
      s.assignment a q.rank portRank (roleFor leader) ((leader.map s.heldBy).getD 0) := by
  simp [issueLocker, h]

end Issue

end State

section IssueChecks

variable {s : State} {r : Request} {q : IssueRequest}

theorem issueBand_of_range (hp : parseIssue r.body = some q) (hq : q.inRange = false) :
    issueBand r s = refuse .outOfRange s := by
  simp [issueBand, hp, hq]

variable (hp : parseIssue r.body = some q) (hq : q.inRange = true)
include hp hq

theorem issueBand_of_clock (hc : s.supply.clockValid = false) : issueBand r s = refuse .clockNotSet s := by
  simp [issueBand, hp, hq, hc]

variable (hc : s.supply.clockValid = true)
include hc

theorem issueBand_of_hold (hs : s.supply.supply = .hold) : issueBand r s = refuse .powerHold s := by
  simp [issueBand, hp, hq, hc, hs]

variable (hs : s.supply.supply ≠ .hold)
include hs

theorem issueBand_of_issued (hm : s.slotOf q.serial ≠ none) : issueBand r s = refuse .alreadyIssued s := by
  simp [issueBand, hp, hq, hc, hs, Option.isSome_iff_ne_none.2 hm]

variable (hm : s.slotOf q.serial = none)
include hm

theorem issueBand_of_leader {c : ResultCode} (hl : s.leaderFor q.leader = .error c) : issueBand r s = refuse c s := by
  simp [issueBand, hp, hq, hc, hs, hm, hl]

variable {leader : Option Nat} (hl : s.leaderFor q.leader = .ok leader)
include hl

theorem issueBand_of_full (hfree : s.freeSlot = none) : issueBand r s = refuse .tableFull s := by
  simp [issueBand, hp, hq, hc, hs, hm, hl, hfree]

variable {slot : Nat} (hfree : s.freeSlot = some slot)
include hfree

theorem issueBand_of_locker {c : ResultCode} (hn : s.issueLocker q leader r.rank = .error c) :
    issueBand r s = refuse c s := by
  simp [issueBand, hp, hq, hc, hs, hm, hl, hfree, hn]

theorem issueBand_of_passes {n : Nat} (hn : s.issueLocker q leader r.rank = .ok n) :
    issueBand r s =
      accept (bytesOf 2 slot ++ bytesOf 2 n)
        (if n = 0 then s.createBand q slot leader else (s.createBand q slot leader).reserve n (leader.getD slot)) := by
  simp [issueBand, hp, hq, hc, hs, hm, hl, hfree, hn]

end IssueChecks

/-- Settles O19: the rows of Table 2-3 in order; each check said whole by its own lemma. -/
theorem issueBandRefusesInOrder : Obligations.IssueBandRefusesInOrder := by
  unfold Obligations.IssueBandRefusesInOrder
  refine ⟨fun q => q.inRange_iff, fun n s => ⟨State.findSerial_invalid, fun h1 h2 => ?found⟩, ?leader, ?locker, ?order⟩
  case found =>
    have hv := (validSerial_iff n).2 ⟨h1, h2⟩
    exact ⟨State.findSerial_unmapped hv, fun slot b => State.findSerial_mapped hv⟩
  case leader =>
    refine fun n s => ⟨rfl, fun c => State.leaderFor_unfound, fun slot b hf => ⟨State.leaderFor_wrongState hf, fun ha hv =>
      ⟨State.leaderFor_alone hf ha hv, fun ms hr => ?_⟩⟩⟩
    have row := State.leaderFor_leader hf ha hv hr
    exact ⟨fun h => row.trans (if_neg (Nat.not_le.2 h)), fun h => row.trans (if_pos h)⟩
  case locker =>
    refine fun q leader portRank s => ⟨State.issueLocker_unasked leader portRank, fun a ha => ⟨?_, ?_⟩⟩
    · rintro rfl
      exact State.issueLocker_asked none portRank ha
    · rintro l rfl
      exact State.issueLocker_asked (some l) portRank ha
  case order =>
    intro p r q s hg hp refusal
    let g := s.granted (.port p)
    have run {a : Answer} {t : State} (h : issueBand r (s.granted (.port p)) = (a, t)) :
        exec (.issueBand p) s = .next (t.answered p r a.code a.data) := exec_row_granted (k := .issueBand) rfl rfl hg h
    refine ⟨fun hq => run (issueBand_of_range hp hq), fun hq => ⟨fun hc => run (issueBand_of_clock hp hq hc), fun hc =>
      ⟨fun hs => run (issueBand_of_hold hp hq hc hs), fun hs => ⟨fun hm => run (issueBand_of_issued hp hq hc hs hm),
        fun hm => ⟨fun c hl => run (issueBand_of_leader (s := g) hp hq hc hs hm hl), fun leader hl =>
          ⟨fun hfree => run (issueBand_of_full (s := g) hp hq hc hs hm hl hfree), fun slot c hfree hn =>
            run (issueBand_of_locker (s := g) hp hq hc hs hm hl hfree hn)⟩⟩⟩⟩⟩⟩

end Sys2Proof.Machine
end

section
/-! PROOFS. The engine's tables: what a writing of one table leaves alone; ISSUE_BAND (R10, R11, R13). -/

namespace Sys2Proof.Machine

theorem Band.addMember_eq {b : Band} (slot : Nat) (h : ∀ l, b.role ≠ .member l) :
    b.addMember slot = { b with role := .leader (b.members ++ [slot]) } := by
  cases hr : b.role with
  | none => simp [Band.addMember, Band.members, hr]
  | member l => exact absurd hr (h l)
  | leader ms => simp [Band.addMember, Band.members, hr]

namespace State

/-! ### Writings of the engine's tables alone -/

/-- Nothing but the binding engine's tables differs. -/
def EngineOnly (s t : State) : Prop := t = { s with engine := t.engine }

namespace EngineOnly

variable {s t u : State}

theorem refl (s : State) : EngineOnly s s := rfl

theorem trans (h : EngineOnly s t) (k : EngineOnly t u) : EngineOnly s u := by
  rw [EngineOnly] at h k ⊢
  rw [h] at k
  exact k

theorem foldl {α : Type} {f : State → α → State} (h : ∀ s a, EngineOnly s (f s a)) (l : List α) (s : State) :
    EngineOnly s (l.foldl f s) := by
  induction l generalizing s with
  | nil => exact refl s
  | cons a l ih => exact (h s a).trans (ih (f s a))

end EngineOnly

variable (s : State)

theorem engineOnly_setBand (k : Nat) (b : Option Band) : EngineOnly s (s.setBand k b) := by
  unfold setBand
  split <;> rfl

theorem engineOnly_updBand (k : Nat) (f : Band → Band) : EngineOnly s (s.updBand k f) := by
  unfold updBand
  split
  · exact s.engineOnly_setBand k _
  · exact .refl s

theorem engineOnly_setLocker (n : Nat) (l : Locker) : EngineOnly s (s.setLocker n l) := by
  unfold setLocker
  split <;> rfl

theorem engineOnly_setCabin (c : Nat) (r : Cabin) : EngineOnly s (s.setCabin c r) := by
  unfold setCabin
  split <;> rfl

theorem engineOnly_mapSerial (n k : Nat) : EngineOnly s (s.mapSerial n k) := rfl

theorem engineOnly_unmapSerial (n : Nat) : EngineOnly s (s.unmapSerial n) := rfl

theorem engineOnly_useZone (n : Nat) : EngineOnly s (s.useZone n) := by
  unfold useZone
  split <;> rfl

/-! ### What each writing leaves alone in the engine -/

theorem updBand_engine (k : Nat) (f : Band → Band) :
    (s.updBand k f).engine = { s.engine with bands := (s.updBand k f).engine.bands } := by
  unfold updBand setBand
  repeat' split
  all_goals rfl

theorem setBand_engine (k : Nat) (b : Option Band) :
    (s.setBand k b).engine = { s.engine with bands := (s.setBand k b).engine.bands } := by
  unfold setBand
  split <;> rfl

theorem setLocker_engine (n : Nat) (l : Locker) :
    (s.setLocker n l).engine = { s.engine with lockers := (s.setLocker n l).engine.lockers } := by
  unfold setLocker
  split <;> rfl

theorem setCabin_engine (c : Nat) (r : Cabin) :
    (s.setCabin c r).engine = { s.engine with cabins := (s.setCabin c r).engine.cabins } := by
  unfold setCabin
  split <;> rfl

theorem useZone_engine (n : Nat) :
    (s.useZone n).engine = { s.engine with zoneUsed := (s.useZone n).engine.zoneUsed } := by
  unfold useZone
  split <;> rfl

theorem slotOf_congr {s t : State} (h : t.engine.serialMap = s.engine.serialMap) (m : Nat) : t.slotOf m = s.slotOf m := by
  unfold slotOf
  rw [h]

@[simp] theorem updBand_slotOf (k : Nat) (f : Band → Band) (m : Nat) : (s.updBand k f).slotOf m = s.slotOf m :=
  slotOf_congr (by rw [updBand_engine]) m

@[simp] theorem useZone_slotOf (n m : Nat) : (s.useZone n).slotOf m = s.slotOf m :=
  slotOf_congr (by rw [useZone_engine]) m

@[simp] theorem useZone_band (n k : Nat) : (s.useZone n).band k = s.band k := by
  unfold useZone
  split <;> rfl

@[simp] theorem useZone_cabin (n c : Nat) : (s.useZone n).cabin c = s.cabin c := by
  unfold useZone
  split <;> rfl

/-! ### Records changed in place -/

theorem updBand_band (k : Nat) (f : Band → Band) (j : Nat) :
    (s.updBand k f).band j = if j = k then (s.band k).map f else s.band j := by
  cases hb : s.band k with
  | none =>
    rw [updBand_none f hb]
    split
    · subst_vars; exact hb
    · rfl
  | some b =>
    rw [updBand_some f hb]
    split
    · subst_vars; exact setBand_band_self s _ (slot_of_band s hb)
    · exact setBand_band_ne s _ (Ne.symm ‹_›)

theorem updBand_band_self {s : State} {k : Nat} {b : Band} (f : Band → Band) (hb : s.band k = some b) :
    (s.updBand k f).band k = some (f b) := by
  simp [updBand_band, hb]

theorem updBand_band_ne {s : State} {k j : Nat} (f : Band → Band) (h : j ≠ k) : (s.updBand k f).band j = s.band j := by
  simp [updBand_band, h]

/-! ### The serial map (R4) -/

/-- The slot an association list gives a serial. -/
def lookupSerial (m : Nat) (l : List (Nat × Nat)) : Option Nat := (l.find? fun e => e.1 == m).map (·.2)

theorem lookupSerial_mapInsert {n : Nat} (k : Nat) {l : List (Nat × Nat)} (h : lookupSerial n l = none) (m : Nat) :
    lookupSerial m (mapInsert n k l) = if m = n then some k else lookupSerial m l := by
  have hnew (l : List (Nat × Nat)) :
      lookupSerial m ((n, k) :: l) = if m = n then some k else lookupSerial m l := by
    by_cases hmn : m = n
    · simp [lookupSerial, hmn]
    · simp [lookupSerial, Ne.symm hmn, hmn]
  induction l with
  | nil => exact hnew []
  | cons e rest ih =>
    unfold mapInsert
    split
    · exact hnew _
    · have hne : e.1 ≠ n := by
        rintro rfl
        simp [lookupSerial] at h
      have ih := ih (by simpa [lookupSerial, hne] using h)
      by_cases hem : e.1 = m
      · simp [lookupSerial, hem, hem ▸ hne]
      · simpa [lookupSerial, hem] using ih

theorem mapSerial_slotOf {s : State} {n : Nat} (k : Nat) (h : s.slotOf n = none) (m : Nat) :
    (s.mapSerial n k).slotOf m = if m = n then some k else s.slotOf m := lookupSerial_mapInsert k h m

theorem unmapSerial_slotOf (n m : Nat) : (s.unmapSerial n).slotOf m = if m = n then none else s.slotOf m := by
  by_cases h : m = n
  · simp [slotOf, unmapSerial, List.find?_filter, h]
  · simp [slotOf, unmapSerial, List.find?_filter, h]
    congr 2
    funext e
    by_cases he : e.1 = m <;> simp [he, h]

/-! ### The used flags (R33) -/

theorem useZone_zoneUsed {s : State} {n : Nat} (z : Nat) :
    (s.useZone n).zoneUsed z = if s.zoneOf n = some z then true else s.zoneUsed z := by
  cases hz : s.zoneOf n with
  | none => simp [useZone, hz]
  | some y =>
    have hy := (zoneOf_some hz).1
    by_cases h : y = z
    · subst h
      simp [useZone, hz, setZoneUsed_zoneUsed_self s true hy]
    · simp [useZone, hz, setZoneUsed_zoneUsed_ne s true h, h]

/-! ### The record created (R10, R13) -/

/-- What joining a leader does, when one is named. -/
def joinLeader (s : State) (slot : Nat) : Option Nat → State
  | none => s
  | some l => s.updBand l (Band.addMember slot)

theorem createBand_eq (q : IssueRequest) (slot : Nat) (leader : Option Nat) :
    s.createBand q slot leader =
      ((s.setBand slot (some (q.band s leader))).mapSerial q.serial slot).joinLeader slot leader := by
  cases leader <;> rfl

theorem joinLeader_band (slot k : Nat) (leader : Option Nat) :
    (s.joinLeader slot leader).band k =
      if leader = some k then (s.band k).map (Band.addMember slot) else s.band k := by
  cases leader with
  | none => rfl
  | some l =>
    rw [joinLeader, updBand_band]
    by_cases h : k = l
    · simp [h]
    · simp [h, Ne.symm h]

theorem joinLeader_engine (slot : Nat) (leader : Option Nat) :
    (s.joinLeader slot leader).engine = { s.engine with bands := (s.joinLeader slot leader).engine.bands } := by
  cases leader with
  | none => rfl
  | some l => exact s.updBand_engine l _

theorem joinLeader_slotOf (slot : Nat) (leader : Option Nat) (m : Nat) :
    (s.joinLeader slot leader).slotOf m = s.slotOf m := slotOf_congr (by rw [joinLeader_engine]) m

theorem engineOnly_joinLeader (slot : Nat) (leader : Option Nat) : EngineOnly s (s.joinLeader slot leader) := by
  cases leader with
  | none => exact .refl s
  | some l => exact s.engineOnly_updBand l _

theorem engineOnly_createBand (q : IssueRequest) (slot : Nat) (leader : Option Nat) :
    EngineOnly s (s.createBand q slot leader) := by
  rw [createBand_eq]
  exact ((s.engineOnly_setBand slot _).trans (engineOnly_mapSerial _ _ _)).trans (engineOnly_joinLeader _ _ _)

theorem createBand_engine (q : IssueRequest) (slot : Nat) (leader : Option Nat) :
    (s.createBand q slot leader).engine =
      { s.engine with bands := (s.createBand q slot leader).engine.bands,
                      serialMap := (s.createBand q slot leader).engine.serialMap } := by
  rw [createBand_eq, joinLeader_engine]
  dsimp only [mapSerial]
  rw [setBand_engine]

section Created

variable {s : State} {q : IssueRequest} {slot : Nat} {leader : Option Nat}

theorem createBand_band_self (hs : 1 ≤ slot ∧ slot ≤ 2047) (hl : leader ≠ some slot) :
    (s.createBand q slot leader).band slot = some (q.band s leader) := by
  rw [createBand_eq, joinLeader_band, if_neg hl, mapSerial_band]
  exact setBand_band_self s _ hs

theorem createBand_band_ne {k : Nat} (hk : k ≠ slot) :
    (s.createBand q slot leader).band k =
      if leader = some k then (s.band k).map (Band.addMember slot) else s.band k := by
  rw [createBand_eq, joinLeader_band, mapSerial_band, setBand_band_ne s _ (Ne.symm hk)]

theorem createBand_slotOf (hm : s.slotOf q.serial = none) (m : Nat) :
    (s.createBand q slot leader).slotOf m = if m = q.serial then some slot else s.slotOf m := by
  rw [createBand_eq, joinLeader_slotOf, mapSerial_slotOf slot (by rw [setBand_slotOf, hm]), setBand_slotOf]

theorem createBand_locker (m : Nat) : (s.createBand q slot leader).locker m = s.locker m := by
  unfold locker
  rw [createBand_engine]

theorem createBand_zoneUsed (z : Nat) : (s.createBand q slot leader).zoneUsed z = s.zoneUsed z := by
  unfold zoneUsed
  rw [createBand_engine]

end Created

/-! ### The reservation read (R60) -/

theorem engineOnly_reserve (n h : Nat) : EngineOnly s (s.reserve n h) :=
  (((s.engineOnly_setLocker n _).trans (engineOnly_updBand _ h _)).trans (engineOnly_setLocker _ n _)).trans
    (engineOnly_useZone _ n)

theorem reserve_engine (n h : Nat) :
    (s.reserve n h).engine =
      { s.engine with bands := (s.reserve n h).engine.bands, lockers := (s.reserve n h).engine.lockers,
                      zoneUsed := (s.reserve n h).engine.zoneUsed } := by
  rw [reserve, useZone_engine, setLocker_engine, bindLocker, updBand_engine, setLocker_engine]

section Reserved

variable {s : State} {n h : Nat} {hb : Band} (hn : 1 ≤ n ∧ n ≤ 1024) (hband : s.band h = some hb)
include hn hband

theorem reserve_band (k : Nat) :
    (s.reserve n h).band k = if k = h then some { hb with lockers := hb.lockers ++ [n] } else s.band k := by
  rw [reserve_eq hn hband, useZone_band]
  split
  · subst_vars; exact setBand_band_self _ _ (slot_of_band s hband)
  · rw [setBand_band_ne _ _ (Ne.symm ‹_›), setLocker_band]

theorem reserve_locker_self :
    (s.reserve n h).locker n =
      { s.locker n with state := .reserved, holder := some h, since := s.now, fresh := false, master := false,
                        release := false, origin := none } := by
  rw [reserve_eq hn hband, useZone_locker, setBand_locker, setLocker_locker_self _ _ hn]

theorem reserve_locker_ne {m : Nat} (hm : m ≠ n) : (s.reserve n h).locker m = s.locker m := by
  rw [reserve_eq hn hband, useZone_locker, setBand_locker, setLocker_locker_ne _ _ (Ne.symm hm)]

theorem reserve_slotOf (m : Nat) : (s.reserve n h).slotOf m = s.slotOf m := by
  rw [reserve_eq hn hband, useZone_slotOf, setBand_slotOf, setLocker_slotOf]

theorem reserve_zoneUsed (z : Nat) :
    (s.reserve n h).zoneUsed z = if s.zoneOf n = some z then true else s.zoneUsed z := by
  rw [reserve_eq hn hband, useZone_zoneUsed, setBand_zoneOf, setLocker_zoneOf, setBand_zoneUsed, setLocker_zoneUsed]

end Reserved

theorem issueLocker_range {s : State} {q : IssueRequest} {leader : Option Nat} {portRank n : Nat}
    (h : s.issueLocker q leader portRank = .ok n) (hn : n ≠ 0) : 1 ≤ n ∧ n ≤ 1024 := by
  cases ha : q.assignment with
  | none =>
    rw [issueLocker_unasked leader portRank ha] at h
    exact absurd (Except.ok.inj h).symm hn
  | some a =>
    rw [issueLocker_asked leader portRank ha] at h
    exact assignment_range h

end State

/-- Settles O18: the record, the map entry and the membership as created, then the reservation that an assignment makes. -/
theorem issueBandCreatesTheRecord : Obligations.IssueBandCreatesTheRecord := by
  unfold Obligations.IssueBandCreatesTheRecord
  intro p r q leader slot n s hg hp hq hc hs hm hl hfree hissue
  let g := s.granted (.port p)
  let created := g.createBand q slot leader
  let t := if n = 0 then created else created.reserve n (leader.getD slot)
  obtain ⟨h1, h2, hempty, -⟩ := State.freeSlot_some hfree
  have hleader (l : Nat) (h : leader = some l) : ∃ b, s.band l = some b ∧ ∀ k, b.role ≠ .member k := by
    obtain ⟨b, hb, -, -, hrole⟩ := State.leaderFor_band (h ▸ hl)
    exact ⟨b, hb, fun k hk => by obtain hr | ⟨ms, hr, -⟩ := hrole <;> rw [hr] at hk <;> cases hk⟩
  have hapart : leader ≠ some slot := fun h => by
    obtain ⟨b, hb, -⟩ := hleader slot h
    rw [hempty] at hb
    cases hb
  have hself : created.band slot = some (q.band s leader) := State.createBand_band_self ⟨h1, h2⟩ hapart
  have hjoined (l : Nat) (b : Band) (h : leader = some l) (hb : s.band l = some b) :
      created.band l = some { b with role := .leader (b.members ++ [slot]) } := by
    have hne : l ≠ slot := fun e => hapart (e ▸ h)
    obtain ⟨b', hb', hrole⟩ := hleader l h
    cases hb.symm.trans hb'
    rw [← Band.addMember_eq slot hrole, State.createBand_band_ne hne, if_pos h, State.granted_band, hb]
    rfl
  have hrest (k : Nat) (hk : k ≠ slot) (h : leader ≠ some k) : created.band k = s.band k := by
    rw [State.createBand_band_ne hk, if_neg h, State.granted_band]
  have hslotOf (m : Nat) : created.slotOf m = if m = q.serial then some slot else s.slotOf m :=
    State.createBand_slotOf (s := g) hm m
  have hlocker (m : Nat) : created.locker m = s.locker m := State.createBand_locker m
  have honly : created = { g with engine := created.engine } := State.engineOnly_createBand g q slot leader
  have hzoneOf (m : Nat) : created.zoneOf m = s.zoneOf m := by
    rw [honly]
    rfl
  have hnow : created.now = s.now := by
    rw [honly]
    rfl
  refine ⟨t, exec_row_granted (k := .issueBand) rfl rfl hg (issueBand_of_passes (s := g) hp hq hc hs hm hl hfree hissue), ?_⟩
  have hframe (u : State) (hu : State.EngineOnly g u) (hcab : u.engine.cabins = s.engine.cabins)
      (hlast : u.engine.lastGranted = .port p) :
      u = { s with engine := { u.engine with cabins := s.engine.cabins, lastGranted := .port p } } := by
    rw [← hcab, ← hlast]
    exact hu
  by_cases hn : n = 0
  · have ht : t = created := if_pos hn
    rw [ht]
    refine ⟨?_, hslotOf, fun l b h hb => ?_, hrest, fun h => absurd hn h, fun m _ => hlocker m,
      fun z _ => State.createBand_zoneUsed z, ?_⟩
    · rw [hself]
      cases leader <;> simp [IssueRequest.band, hn, roleFor, Config.paidMinutesTop]
    · rw [hjoined l b h hb, if_pos hn]
    · exact hframe _ honly (by rw [State.createBand_engine]; rfl)
        (by rw [State.createBand_engine]; rfl)
  · have ht : t = created.reserve n (leader.getD slot) := if_neg hn
    have hrange : 1 ≤ n ∧ n ≤ 1024 := State.issueLocker_range hissue hn
    obtain ⟨hb, hholder⟩ : ∃ hb, created.band (leader.getD slot) = some hb := by
      cases h : leader with
      | none => exact ⟨_, hself⟩
      | some l =>
        obtain ⟨b, hb, -⟩ := hleader l h
        exact ⟨_, hjoined l b h hb⟩
    rw [ht]
    refine ⟨?_, fun m => (State.reserve_slotOf hrange hholder m).trans (hslotOf m), fun l b h hlb => ?_, fun k hk h => ?_,
      fun _ => ⟨?_, fun z hz => ?_⟩, fun m hm => (State.reserve_locker_ne hrange hholder hm).trans (hlocker m),
      fun z hz => ?_, ?_⟩
    · rw [State.reserve_band hrange hholder]
      cases h : leader with
      | none =>
        rw [h] at hholder hself
        cases hholder.symm.trans hself
        simp [IssueRequest.band, hn, roleFor, Config.paidMinutesTop]
      | some l =>
        have hne : slot ≠ l := fun e => hapart (e ▸ h)
        simp [hself, hne, h, IssueRequest.band, roleFor, Config.paidMinutesTop]
    · subst h
      cases hholder.symm.trans (hjoined l b rfl hlb)
      rw [State.reserve_band hrange hholder, if_pos (Option.getD_some ..).symm, if_neg hn]
    · have hne : k ≠ leader.getD slot := by
        cases leader with
        | none => exact hk
        | some l => exact fun e => h (congrArg some e.symm)
      rw [State.reserve_band hrange hholder, if_neg hne, hrest k hk h]
    · rw [State.reserve_locker_self hrange hholder, hlocker, hnow]
    · rw [State.reserve_zoneUsed hrange hholder, hzoneOf, if_pos hz]
    · rw [State.reserve_zoneUsed hrange hholder, hzoneOf, if_neg (hz.resolve_left hn)]
      exact State.createBand_zoneUsed z
    · exact hframe _ (State.EngineOnly.trans honly (State.engineOnly_reserve _ _ _))
        (by rw [State.reserve_engine, State.createBand_engine]; rfl)
        (by rw [State.reserve_engine, State.createBand_engine]; rfl)

end Sys2Proof.Machine
end

section
/-! PROOFS. REISSUE_BAND (R18 to R20). -/

namespace Sys2Proof.Machine

namespace State

/-! ### What a fold keeps, and what it writes -/

theorem foldl_keeps {α β : Type} {f : State → α → State} (g : State → β) (h : ∀ s a, g (f s a) = g s) (l : List α)
    (s : State) : g (l.foldl f s) = g s := by
  induction l generalizing s with
  | nil => rfl
  | cons a l ih => exact (ih (f s a)).trans (h s a)

/-- One change made to several records, in any order and however often. -/
theorem foldl_updBand_band {f : Band → Band} (hf : ∀ b, f (f b) = f b) (ms : List Nat) (s : State) (k : Nat) :
    (ms.foldl (fun t m => t.updBand m f) s).band k = if k ∈ ms then (s.band k).map f else s.band k := by
  induction ms generalizing s with
  | nil => rfl
  | cons m ms ih =>
    rw [List.foldl_cons, ih, updBand_band]
    by_cases hm : k = m
    · subst hm
      cases s.band k <;> simp [hf]
    · simp [hm]

/-! ### The references of Table 2-4 -/

/-- The holder of each locker listed becomes the new slot. -/
def moveHolders (s : State) (ns : List Nat) (new : Nat) : State :=
  ns.foldl (fun t n => t.setLocker n { t.locker n with holder := some new }) s

/-- The occupant of the cabin named becomes the new slot. -/
def moveOccupant (s : State) (cabin : Option Nat) (new : Nat) : State :=
  match cabin with
  | some c => s.setCabin c { s.cabin c with occupant := some new }
  | none => s

/-- The leader of each member listed becomes the new slot. -/
def moveMembers (s : State) (ms : List Nat) (new : Nat) : State :=
  ms.foldl (fun t m => t.updBand m (Band.moveLeader new)) s

/-- The new slot takes the old one's place in the leader's list. -/
def moveInLeader (s : State) (leader : Option Nat) (old new : Nat) : State :=
  match leader with
  | some l => s.updBand l (Band.moveMember old new)
  | none => s

theorem moveReferences_eq (s : State) (b : Band) (old new : Nat) :
    s.moveReferences b old new =
      (((s.moveHolders b.lockers new).moveOccupant b.cabin new).moveMembers b.members new).moveInLeader
        b.leaderSlot old new := rfl

/-- The engine's fields that a reissue's references are no part of. -/
def ledger (s : State) : List (Nat × Nat) × Vector Bool 16 × Requester :=
  (s.engine.serialMap, s.engine.zoneUsed, s.engine.lastGranted)

theorem setLocker_ledger (s : State) (n : Nat) (l : Locker) : (s.setLocker n l).ledger = s.ledger := by
  rw [ledger, setLocker_engine]
  rfl

theorem setCabin_ledger (s : State) (c : Nat) (r : Cabin) : (s.setCabin c r).ledger = s.ledger := by
  rw [ledger, setCabin_engine]
  rfl

theorem updBand_ledger (s : State) (k : Nat) (f : Band → Band) : (s.updBand k f).ledger = s.ledger := by
  rw [ledger, updBand_engine]
  rfl

theorem moveLeader_twice (new : Nat) (b : Band) :
    (b.moveLeader new).moveLeader new = b.moveLeader new := by
  cases h : b.role <;> simp [Band.moveLeader, h]

section Moves

variable (s : State) (new : Nat)

theorem moveHolders_band (ns : List Nat) (k : Nat) : (s.moveHolders ns new).band k = s.band k :=
  foldl_keeps (fun t => t.band k) (fun t n => setLocker_band t n _ k) ns s

theorem moveHolders_cabin (ns : List Nat) (c : Nat) : (s.moveHolders ns new).cabin c = s.cabin c :=
  foldl_keeps (fun t => t.cabin c) (fun t n => setLocker_cabin t n _ c) ns s

theorem moveHolders_ledger (ns : List Nat) : (s.moveHolders ns new).ledger = s.ledger :=
  foldl_keeps ledger (fun t n => setLocker_ledger t n _) ns s

theorem engineOnly_moveHolders (ns : List Nat) : EngineOnly s (s.moveHolders ns new) :=
  .foldl (fun t n => t.engineOnly_setLocker n _) ns s

theorem moveHolders_locker (ns : List Nat) {n : Nat} (hn : 1 ≤ n ∧ n ≤ 1024) :
    (s.moveHolders ns new).locker n =
      if n ∈ ns then { s.locker n with holder := some new } else s.locker n := by
  induction ns generalizing s with
  | nil => rfl
  | cons m ms ih =>
    have hstep := ih (s.setLocker m { s.locker m with holder := some new })
    rw [moveHolders, List.foldl_cons]
    refine hstep.trans ?_
    by_cases hm : n = m
    · subst hm
      simp [setLocker_locker_self s _ hn]
    · simp [setLocker_locker_ne s _ (Ne.symm hm), hm]

theorem moveOccupant_band (o : Option Nat) (k : Nat) : (s.moveOccupant o new).band k = s.band k := by
  cases o with
  | none => rfl
  | some c => exact setCabin_band s c _ k

theorem moveOccupant_locker (o : Option Nat) (n : Nat) : (s.moveOccupant o new).locker n = s.locker n := by
  cases o with
  | none => rfl
  | some c => exact setCabin_locker s c _ n

theorem moveOccupant_ledger (o : Option Nat) : (s.moveOccupant o new).ledger = s.ledger := by
  cases o with
  | none => rfl
  | some c => exact setCabin_ledger s c _

theorem engineOnly_moveOccupant (o : Option Nat) : EngineOnly s (s.moveOccupant o new) := by
  cases o with
  | none => exact .refl s
  | some c => exact s.engineOnly_setCabin c _

theorem moveOccupant_cabin (o : Option Nat) {c : Nat} (hc : 1 ≤ c ∧ c ≤ 64) :
    (s.moveOccupant o new).cabin c =
      if o = some c then { s.cabin c with occupant := some new } else s.cabin c := by
  cases o with
  | none => rfl
  | some d =>
    by_cases h : d = c
    · subst h
      rw [if_pos rfl, moveOccupant, setCabin_cabin_self s _ hc]
    · rw [if_neg (by simpa using h), moveOccupant, setCabin_cabin_ne s _ h]

theorem moveMembers_band (ms : List Nat) (k : Nat) :
    (s.moveMembers ms new).band k = if k ∈ ms then (s.band k).map (Band.moveLeader new) else s.band k :=
  foldl_updBand_band (moveLeader_twice new) ms s k

theorem moveMembers_locker (ms : List Nat) (n : Nat) : (s.moveMembers ms new).locker n = s.locker n :=
  foldl_keeps (fun t => t.locker n) (fun t m => updBand_locker t m _ n) ms s

theorem moveMembers_cabin (ms : List Nat) (c : Nat) : (s.moveMembers ms new).cabin c = s.cabin c :=
  foldl_keeps (fun t => t.cabin c) (fun t m => updBand_cabin t m _ c) ms s

theorem moveMembers_ledger (ms : List Nat) : (s.moveMembers ms new).ledger = s.ledger :=
  foldl_keeps ledger (fun t m => updBand_ledger t m _) ms s

theorem engineOnly_moveMembers (ms : List Nat) : EngineOnly s (s.moveMembers ms new) :=
  .foldl (fun t m => t.engineOnly_updBand m _) ms s

variable (old : Nat) (leader : Option Nat)

theorem moveInLeader_band (k : Nat) :
    (s.moveInLeader leader old new).band k =
      if leader = some k then (s.band k).map (Band.moveMember old new) else s.band k := by
  cases leader with
  | none => rfl
  | some l =>
    rw [moveInLeader, updBand_band]
    by_cases h : k = l
    · simp [h]
    · simp [h, Ne.symm h]

theorem moveInLeader_locker (n : Nat) : (s.moveInLeader leader old new).locker n = s.locker n := by
  cases leader with
  | none => rfl
  | some l => exact updBand_locker s l _ n

theorem moveInLeader_cabin (c : Nat) : (s.moveInLeader leader old new).cabin c = s.cabin c := by
  cases leader with
  | none => rfl
  | some l => exact updBand_cabin s l _ c

theorem moveInLeader_ledger : (s.moveInLeader leader old new).ledger = s.ledger := by
  cases leader with
  | none => rfl
  | some l => exact updBand_ledger s l _

theorem engineOnly_moveInLeader : EngineOnly s (s.moveInLeader leader old new) := by
  cases leader with
  | none => exact .refl s
  | some l => exact s.engineOnly_updBand l _

end Moves

section References

variable (s : State) (b : Band) (old new : Nat)

theorem moveReferences_band (k : Nat) :
    (s.moveReferences b old new).band k =
      let moved := if k ∈ b.members then (s.band k).map (Band.moveLeader new) else s.band k
      if b.leaderSlot = some k then moved.map (Band.moveMember old new) else moved := by
  rw [moveReferences_eq, moveInLeader_band, moveMembers_band, moveOccupant_band, moveHolders_band]

theorem moveReferences_band_of_stranger {k : Nat} (hm : k ∉ b.members) (hl : b.leaderSlot ≠ some k) :
    (s.moveReferences b old new).band k = s.band k := by
  rw [moveReferences_band]
  dsimp only
  rw [if_neg hm, if_neg hl]

theorem moveReferences_locker {n : Nat} (hn : 1 ≤ n ∧ n ≤ 1024) :
    (s.moveReferences b old new).locker n =
      if n ∈ b.lockers then { s.locker n with holder := some new } else s.locker n := by
  rw [moveReferences_eq, moveInLeader_locker, moveMembers_locker, moveOccupant_locker, moveHolders_locker _ _ _ hn]

theorem moveReferences_cabin {c : Nat} (hc : 1 ≤ c ∧ c ≤ 64) :
    (s.moveReferences b old new).cabin c =
      if b.cabin = some c then { s.cabin c with occupant := some new } else s.cabin c := by
  rw [moveReferences_eq, moveInLeader_cabin, moveMembers_cabin, moveOccupant_cabin _ _ _ hc, moveHolders_cabin]

theorem moveReferences_ledger : (s.moveReferences b old new).ledger = s.ledger := by
  rw [moveReferences_eq, moveInLeader_ledger, moveMembers_ledger, moveOccupant_ledger, moveHolders_ledger]

theorem engineOnly_moveReferences : EngineOnly s (s.moveReferences b old new) :=
  (((s.engineOnly_moveHolders new b.lockers).trans (engineOnly_moveOccupant _ new b.cabin)).trans
    (engineOnly_moveMembers _ new b.members)).trans (engineOnly_moveInLeader _ new old b.leaderSlot)

end References

/-! ### The reissue read -/

section Reissued

variable {s : State} {b : Band} {old new serial : Nat}

/-- The two records and the map entry, before the references move (R19). -/
def copied (s : State) (b : Band) (serial old new : Nat) : State :=
  ((s.setBand new (some (b.replacement serial old))).mapSerial serial new).setBand old (some (b.retired new))

theorem reissue_eq : s.reissue old b serial new = (s.copied b serial old new).moveReferences b old new := rfl

theorem engineOnly_copied : EngineOnly s (s.copied b serial old new) :=
  ((s.engineOnly_setBand new _).trans (engineOnly_mapSerial _ _ _)).trans (engineOnly_setBand _ old _)

theorem copied_band (hold : 1 ≤ old ∧ old ≤ 2047) (hnew : 1 ≤ new ∧ new ≤ 2047) (k : Nat) :
    (s.copied b serial old new).band k =
      if k = old then some (b.retired new) else if k = new then some (b.replacement serial old) else s.band k := by
  unfold copied
  by_cases h1 : k = old
  · rw [if_pos h1, h1, setBand_band_self _ _ hold]
  · rw [if_neg h1, setBand_band_ne _ _ (Ne.symm h1), mapSerial_band]
    by_cases h2 : k = new
    · rw [if_pos h2, h2, setBand_band_self _ _ hnew]
    · rw [if_neg h2, setBand_band_ne _ _ (Ne.symm h2)]

theorem copied_locker (n : Nat) : (s.copied b serial old new).locker n = s.locker n := by
  rw [copied, setBand_locker, mapSerial_locker, setBand_locker]

theorem copied_cabin (c : Nat) : (s.copied b serial old new).cabin c = s.cabin c := by
  rw [copied, setBand_cabin, mapSerial_cabin, setBand_cabin]

theorem copied_slotOf (hm : s.slotOf serial = none) (m : Nat) :
    (s.copied b serial old new).slotOf m = if m = serial then some new else s.slotOf m := by
  rw [copied, setBand_slotOf, mapSerial_slotOf new (by rw [setBand_slotOf, hm]), setBand_slotOf]

theorem copied_engine :
    (s.copied b serial old new).engine =
      { s.engine with bands := (s.copied b serial old new).engine.bands,
                      serialMap := (s.copied b serial old new).engine.serialMap } := by
  unfold copied setBand mapSerial
  split <;> split <;> rfl

end Reissued

end State

theorem Band.moveMember_leader {b : Band} {ms : List Nat} (old new : Nat) (h : b.role = .leader ms) :
    b.moveMember old new = { b with role := .leader (ms.map fun m => if m = old then new else m) } := by
  simp [Band.moveMember, h]

theorem Band.moveLeader_member {b : Band} {l : Nat} (new : Nat) (h : b.role = .member l) :
    b.moveLeader new = { b with role := .member new } := by
  simp [Band.moveLeader, h]

theorem Band.moveMember_member {b : Band} {l : Nat} (old new : Nat) (h : b.role = .member l) :
    b.moveMember old new = b := by
  simp [Band.moveMember, h]

/-- A record with members is a leader and so has none. -/
theorem Band.leaderSlot_of_members {b : Band} {m : Nat} (h : m ∈ b.members) : b.leaderSlot = none := by
  cases hr : b.role <;> simp_all [Band.members, Band.leaderSlot]

/-! ### REISSUE_BAND in order (R18) -/

/-- An ACTIVE or OWING visitor may be reissued (R18). -/
def Band.reissuable (b : Band) : Bool :=
  match b.state with
  | .active => b.isVisitor
  | .owing _ => b.isVisitor
  | _ => false

theorem Band.reissuable_of_visitor {b : Band} (hv : b.isVisitor = true)
    (hst : b.state = .active ∨ ∃ cents, b.state = .owing cents) : b.reissuable = true := by
  obtain hst | ⟨cents, hst⟩ := hst <;> simp [Band.reissuable, hst, hv]

theorem Band.not_reissuable {b : Band}
    (h : b.kind = .staff ∨ b.state = .revoked ∨ ∃ since, b.state = .cleared since) : b.reissuable = false := by
  obtain hk | hst | ⟨since, hst⟩ := h
  · cases h : b.state <;> simp [Band.reissuable, Band.isVisitor, h, hk]
  · simp [Band.reissuable, hst]
  · simp [Band.reissuable, hst]

section Reissue

variable {s : State} {r : Request} {oldSerial newSerial old : Nat} {b : Band}

/-- REISSUE_BAND with its first check on a record said by name. -/
theorem reissueBand_eq (hp : parseTwoSerials r.body = some (oldSerial, newSerial)) :
    reissueBand r s =
      if !validSerial oldSerial || !validSerial newSerial then refuse .outOfRange s
      else if s.supply.supply = .hold then refuse .powerHold s
      else
        match s.findSerial oldSerial with
        | .error c => refuse c s
        | .ok (old, b) =>
          if !b.reissuable then refuse .wrongState s
          else if (s.slotOf newSerial).isSome then refuse .alreadyIssued s
          else if 4 ≤ s.chainLength b then refuse .chainFull s
          else
            match s.freeSlot with
            | none => refuse .tableFull s
            | some new => accept (bytesOf 2 new) (s.reissue old b newSerial new) := by
  simp only [reissueBand, hp] <;> rfl

theorem reissueBand_of_range (hp : parseTwoSerials r.body = some (oldSerial, newSerial))
    (h : validSerial oldSerial = false ∨ validSerial newSerial = false) : reissueBand r s = refuse .outOfRange s := by
  rw [reissueBand_eq hp, if_pos (by obtain h | h := h <;> simp [h])]

variable (hp : parseTwoSerials r.body = some (oldSerial, newSerial)) (h1 : validSerial oldSerial = true)
  (h2 : validSerial newSerial = true)
include hp h1 h2

theorem reissueBand_of_hold (hs : s.supply.supply = .hold) : reissueBand r s = refuse .powerHold s := by
  simp [reissueBand_eq hp, h1, h2, hs]

variable (hs : s.supply.supply ≠ .hold)
include hs

theorem reissueBand_of_unfound {c : ResultCode} (hf : s.findSerial oldSerial = .error c) :
    reissueBand r s = refuse c s := by
  simp [reissueBand_eq hp, h1, h2, hs, hf]

variable (hf : s.findSerial oldSerial = .ok (old, b))
include hf

theorem reissueBand_of_wrongState (hb : b.reissuable = false) : reissueBand r s = refuse .wrongState s := by
  simp [reissueBand_eq hp, h1, h2, hs, hf, hb]

variable (hb : b.reissuable = true)
include hb

theorem reissueBand_of_issued (hm : s.slotOf newSerial ≠ none) : reissueBand r s = refuse .alreadyIssued s := by
  simp [reissueBand_eq hp, h1, h2, hs, hf, hb, Option.isSome_iff_ne_none.2 hm]

variable (hm : s.slotOf newSerial = none)
include hm

theorem reissueBand_of_chain (hchain : 4 ≤ s.chainLength b) : reissueBand r s = refuse .chainFull s := by
  simp [reissueBand_eq hp, h1, h2, hs, hf, hb, hm, hchain]

variable (hchain : s.chainLength b < 4)
include hchain

theorem reissueBand_of_full (hfree : s.freeSlot = none) : reissueBand r s = refuse .tableFull s := by
  simp [reissueBand_eq hp, h1, h2, hs, hf, hb, hm, Nat.not_le.2 hchain, hfree]

theorem reissueBand_of_passes {new : Nat} (hfree : s.freeSlot = some new) :
    reissueBand r s = accept (bytesOf 2 new) (s.reissue old b newSerial new) := by
  simp [reissueBand_eq hp, h1, h2, hs, hf, hb, hm, Nat.not_le.2 hchain, hfree]

end Reissue

/-- Settles O22: the two records as copied, and each table read after its references moved. -/
theorem reissueMovesTheVisit : Obligations.ReissueMovesTheVisit := by
  unfold Obligations.ReissueMovesTheVisit
  constructor
  · intro p r oldSerial newSerial s hg hp refusal
    let g := s.granted (.port p)
    have run {a : Answer} {t : State} (h : reissueBand r g = (a, t)) :
        exec (.reissueBand p) s = .next (t.answered p r a.code a.data) :=
      exec_row_granted (k := .reissueBand) rfl rfl hg h
    refine ⟨fun h => run (reissueBand_of_range hp h), fun h1 h2 => ⟨fun hs => run (reissueBand_of_hold hp h1 h2 hs),
      fun hs => ⟨fun hf => run (reissueBand_of_unfound (s := g) hp h1 h2 hs hf), fun old b hf => ?_⟩⟩⟩
    have hf' : g.findSerial oldSerial = .ok (old, b) := hf
    refine ⟨fun hb => run (reissueBand_of_wrongState hp h1 h2 hs hf' (Band.not_reissuable hb)), fun hv hst => ?_⟩
    have hb := Band.reissuable_of_visitor hv hst
    have hlength : g.chainLength b = s.chainLength b := State.chainLength_granted s _ b
    refine ⟨fun hm => run (reissueBand_of_issued hp h1 h2 hs hf' hb hm), fun hm => ⟨fun hchain =>
      run (reissueBand_of_chain hp h1 h2 hs hf' hb hm (hlength ▸ hchain)), fun hchain hfree =>
        run (reissueBand_of_full hp h1 h2 hs hf' hb hm (hlength ▸ hchain) hfree)⟩⟩
  · intro p r oldSerial newSerial old new b s hg hp h2 hs hf hv hst hm hchain hfree
    let g := s.granted (.port p)
    let c := g.copied b newSerial old new
    obtain ⟨h1, -, hband⟩ := State.findSerial_ok hf
    obtain ⟨hn1, hn2, hempty, -⟩ := State.freeSlot_some hfree
    have hold := State.slot_of_band s hband
    have hne : new ≠ old := fun h => by rw [h, hband] at hempty; cases hempty
    have hc (k : Nat) : c.band k =
        if k = old then some (b.retired new) else if k = new then some (b.replacement newSerial old) else s.band k :=
      State.copied_band (s := g) hold ⟨hn1, hn2⟩ k
    have hother (k : Nat) (mb : Band) (hk : k ≠ old) (hmb : s.band k = some mb) : c.band k = some mb := by
      have hkn : k ≠ new := fun h => by rw [h, hempty] at hmb; cases hmb
      rw [hc, if_neg hk, if_neg hkn, hmb]
    refine ⟨c.moveReferences b old new, exec_row_granted (k := .reissueBand) rfl rfl hg
      (reissueBand_of_passes (s := g) hp h1 h2 hs hf (Band.reissuable_of_visitor hv hst) hm
        ((State.chainLength_granted s _ b).symm ▸ hchain) hfree),
      fun hm1 hl1 hm2 hl2 => ⟨?_, ?_⟩, fun m => ?_, fun n h1 h2 => ?_, fun k h1 h2 => ?_,
      fun m mb l hmem hmo hmb hrole => ?_, fun l lb ms hl hlo hlb hrole => ?_, fun k hk1 hk2 hk3 hk4 => ?_, ?_⟩
    · rw [State.moveReferences_band_of_stranger _ _ _ _ hm2 hl2, hc, if_neg hne, if_pos rfl]
      rfl
    · rw [State.moveReferences_band_of_stranger _ _ _ _ hm1 hl1, hc, if_pos rfl]
      rfl
    · have hmap : (c.moveReferences b old new).engine.serialMap = c.engine.serialMap :=
        congrArg Prod.fst (State.moveReferences_ledger c b old new)
      rw [State.slotOf_congr hmap]
      exact State.copied_slotOf (s := g) hm m
    · rw [State.moveReferences_locker _ _ _ _ ⟨h1, h2⟩, State.copied_locker]
      rfl
    · rw [State.moveReferences_cabin _ _ _ _ ⟨h1, h2⟩, State.copied_cabin]
      rfl
    · rw [State.moveReferences_band, hother m mb hmo hmb, if_pos hmem, Band.leaderSlot_of_members hmem]
      simp [Band.moveLeader_member new hrole]
    · have hnot : l ∉ b.members := fun h => by rw [Band.leaderSlot_of_members h] at hl; cases hl
      rw [State.moveReferences_band, hother l lb hlo hlb, if_neg hnot, if_pos hl]
      simp [Band.moveMember_leader old new hrole]
    · rw [State.moveReferences_band_of_stranger _ _ _ _ hk3 hk4, hc, if_neg hk1, if_neg hk2]
    · have honly := (State.engineOnly_copied (s := g) (b := b) (serial := newSerial)).trans
        (State.engineOnly_moveReferences c b old new)
      have hledger := State.moveReferences_ledger c b old new
      have hcopied := State.copied_engine (s := g) (b := b) (serial := newSerial) (old := old) (new := new)
      have hzone : (c.moveReferences b old new).engine.zoneUsed = s.engine.zoneUsed :=
        (congrArg (fun x => x.2.1) hledger).trans (congrArg Engine.zoneUsed hcopied)
      have hlast : (c.moveReferences b old new).engine.lastGranted = .port p :=
        (congrArg (fun x => x.2.2) hledger).trans (congrArg Engine.lastGranted hcopied)
      rw [← hzone, ← hlast]
      exact honly

end Sys2Proof.Machine
end

section
/-! PROOFS. Records emptied: COLLECT and DISCARD_BAND (R2, R22, R25, R103) and CLOSE_DAY (R26). -/

namespace Sys2Proof.Machine

/-! ### A slot out of a member list (R2) -/

theorem Band.dropMember_leader {b : Band} {ms : List Nat} (j : Nat) (h : b.role = .leader ms) :
    b.dropMember j = { b with role := .leader (ms.erase j) } := by
  simp [Band.dropMember, h]

@[simp] theorem Band.dropMember_serial (b : Band) (j : Nat) : (b.dropMember j).serial = b.serial := by
  unfold Band.dropMember
  split <;> rfl

@[simp] theorem Band.dropMember_leaderSlot (b : Band) (j : Nat) : (b.dropMember j).leaderSlot = b.leaderSlot := by
  cases h : b.role <;> simp [Band.dropMember, Band.leaderSlot, h]

namespace State

/-- The leader field of the record in a slot. -/
def leaderOf (s : State) (j : Nat) : Option Nat := (s.band j).bind Band.leaderSlot

theorem leaderOf_eq (s : State) (j : Nat) : s.leaderOf j = ((s.band j).map Band.leaderSlot).getD none := by
  cases h : s.band j <;> simp [leaderOf, h]

/-! ### One slot emptied -/

section Emptied

variable (s : State) (j : Nat)

theorem emptySlot_of_none {s : State} {j : Nat} (h : s.band j = none) : s.emptySlot j = s := by
  simp [emptySlot, h]

/-- What emptying a slot does to its leader's record. -/
def leaveLeader (s : State) (leader : Option Nat) (j : Nat) : State :=
  match leader with
  | some l => s.updBand l (Band.dropMember j)
  | none => s

theorem emptySlot_of_some {s : State} {j : Nat} {b : Band} (h : s.band j = some b) :
    s.emptySlot j = ((s.leaveLeader b.leaderSlot j).setBand j none).unmapSerial b.serial := by
  simp only [emptySlot, h]
  cases b.leaderSlot <;> rfl

theorem leaveLeader_band (leader : Option Nat) (k : Nat) :
    (s.leaveLeader leader j).band k = if leader = some k then (s.band k).map (Band.dropMember j) else s.band k := by
  cases leader with
  | none => rfl
  | some l =>
    rw [leaveLeader, updBand_band]
    by_cases h : k = l
    · simp [h]
    · simp [h, Ne.symm h]

theorem leaveLeader_slotOf (leader : Option Nat) (m : Nat) : (s.leaveLeader leader j).slotOf m = s.slotOf m := by
  cases leader with
  | none => rfl
  | some l => exact updBand_slotOf s l _ m

theorem emptySlot_band (k : Nat) :
    (s.emptySlot j).band k =
      if k = j then none
      else if s.leaderOf j = some k then (s.band k).map (Band.dropMember j) else s.band k := by
  cases hb : s.band j with
  | none =>
    rw [emptySlot_of_none hb, leaderOf, hb]
    by_cases h : k = j
    · simp [h, hb]
    · simp [h]
  | some b =>
    rw [emptySlot_of_some hb, unmapSerial_band, leaderOf, hb]
    by_cases h : k = j
    · rw [if_pos h, h, setBand_band_self _ _ (slot_of_band s hb)]
    · rw [if_neg h, setBand_band_ne _ _ (Ne.symm h), leaveLeader_band]
      rfl

theorem emptySlot_slotOf (m : Nat) :
    (s.emptySlot j).slotOf m = if s.serialOf j = some m then none else s.slotOf m := by
  cases hb : s.band j with
  | none => simp [emptySlot_of_none hb, serialOf, hb]
  | some b =>
    rw [emptySlot_of_some hb, unmapSerial_slotOf, setBand_slotOf, leaveLeader_slotOf, serialOf, hb]
    by_cases h : m = b.serial
    · simp [h]
    · simp [h, Ne.symm h]

/-- Another slot's serial and leader field stand. -/
theorem emptySlot_map_band {α : Type} (f : Band → α) (hf : ∀ b, f (b.dropMember j) = f b) {k : Nat} (h : k ≠ j) :
    ((s.emptySlot j).band k).map f = (s.band k).map f := by
  rw [emptySlot_band, if_neg h]
  split
  · cases s.band k <;> simp [hf]
  · rfl

theorem emptySlot_serialOf {k : Nat} (h : k ≠ j) : (s.emptySlot j).serialOf k = s.serialOf k :=
  s.emptySlot_map_band j (·.serial) (fun b => b.dropMember_serial j) h

theorem emptySlot_leaderOf {k : Nat} (h : k ≠ j) : (s.emptySlot j).leaderOf k = s.leaderOf k := by
  rw [leaderOf_eq, leaderOf_eq, s.emptySlot_map_band j Band.leaderSlot (fun b => b.dropMember_leaderSlot j) h]

theorem emptySlot_leaderOf_self : (s.emptySlot j).leaderOf j = none := by
  rw [leaderOf, emptySlot_band, if_pos rfl]
  rfl

theorem engineOnly_emptySlot : EngineOnly s (s.emptySlot j) := by
  cases hb : s.band j with
  | none => rw [emptySlot_of_none hb]; exact .refl s
  | some b =>
    have hleave : EngineOnly s (s.leaveLeader b.leaderSlot j) := by
      cases b.leaderSlot with
      | none => exact .refl s
      | some l => exact s.engineOnly_updBand l _
    rw [emptySlot_of_some hb]
    exact (hleave.trans (engineOnly_setBand _ _ _)).trans (engineOnly_unmapSerial _ _)

/-- The engine's fields that emptying records is no part of. -/
def beyondBands (s : State) : Engine := { s.engine with bands := Vector.replicate 2048 none, serialMap := [] }

theorem emptySlot_beyondBands : (s.emptySlot j).beyondBands = s.beyondBands := by
  cases hb : s.band j with
  | none => rw [emptySlot_of_none hb]
  | some b =>
    rw [emptySlot_of_some hb]
    unfold leaveLeader unmapSerial beyondBands setBand updBand setBand
    repeat' split
    all_goals rfl

end Emptied

/-! ### A list of slots emptied, one after another -/

section Chain

/-- The slots of a chain emptied in order (R22). -/
def emptyAll (s : State) (chain : List Nat) : State := chain.foldl emptySlot s

theorem emptyAll_cons (s : State) (j : Nat) (chain : List Nat) :
    s.emptyAll (j :: chain) = (s.emptySlot j).emptyAll chain := rfl

theorem emptySlot_band_none {s : State} {k : Nat} (j : Nat) (h : s.band k = none) : (s.emptySlot j).band k = none := by
  rw [emptySlot_band, h]
  simp

theorem emptyAll_band_none {s : State} {k : Nat} (chain : List Nat) (h : s.band k = none) :
    (s.emptyAll chain).band k = none := by
  induction chain generalizing s with
  | nil => exact h
  | cons j chain ih => exact ih (emptySlot_band_none j h)

theorem emptyAll_band_of_mem {s : State} {chain : List Nat} {k : Nat} (h : k ∈ chain) : (s.emptyAll chain).band k = none := by
  induction chain generalizing s with
  | nil => cases h
  | cons j chain ih =>
    rw [emptyAll_cons]
    by_cases hj : k = j
    · exact emptyAll_band_none chain (by rw [emptySlot_band, if_pos hj])
    · exact ih ((List.mem_cons.1 h).resolve_left hj)

theorem emptyAll_slotOf_none {s : State} {m : Nat} (chain : List Nat) (h : s.slotOf m = none) :
    (s.emptyAll chain).slotOf m = none := by
  induction chain generalizing s with
  | nil => exact h
  | cons j chain ih =>
    refine ih ?_
    rw [emptySlot_slotOf, h]
    simp

/-- The serial of every slot emptied is unmapped. -/
theorem emptyAll_slotOf_of_mem {s : State} {chain : List Nat} {k m : Nat} (h : k ∈ chain) (hm : s.serialOf k = some m) :
    (s.emptyAll chain).slotOf m = none := by
  induction chain generalizing s with
  | nil => cases h
  | cons j chain ih =>
    rw [emptyAll_cons]
    by_cases hj : k = j
    · subst hj
      exact emptyAll_slotOf_none chain (by rw [emptySlot_slotOf, if_pos hm])
    · exact ih ((List.mem_cons.1 h).resolve_left hj) (by rw [emptySlot_serialOf s j hj, hm])

theorem emptySlot_serialOf_cases (s : State) (j k : Nat) :
    (s.emptySlot j).serialOf k = none ∨ (s.emptySlot j).serialOf k = s.serialOf k := by
  by_cases h : k = j
  · exact .inl (by rw [serialOf, emptySlot_band, if_pos h]; rfl)
  · exact .inr (s.emptySlot_serialOf j h)

theorem emptySlot_leaderOf_cases (s : State) (j k : Nat) :
    (s.emptySlot j).leaderOf k = none ∨ (s.emptySlot j).leaderOf k = s.leaderOf k := by
  by_cases h : k = j
  · exact .inl (h ▸ s.emptySlot_leaderOf_self j)
  · exact .inr (s.emptySlot_leaderOf j h)

/-- A serial that no slot emptied carries keeps its entry. -/
theorem emptyAll_slotOf_of_apart {s : State} {chain : List Nat} {m : Nat} (h : ∀ k ∈ chain, s.serialOf k ≠ some m) :
    (s.emptyAll chain).slotOf m = s.slotOf m := by
  induction chain generalizing s with
  | nil => rfl
  | cons j chain ih =>
    obtain ⟨hj, hrest⟩ := List.forall_mem_cons.1 h
    rw [emptyAll_cons, ih fun k hk => ?_, emptySlot_slotOf, if_neg hj]
    obtain h | h := emptySlot_serialOf_cases s j k <;> rw [h]
    · simp
    · exact hrest k hk

/-- A record that no slot emptied names as its leader stands. -/
theorem emptyAll_band_of_apart {s : State} {chain : List Nat} {k : Nat} (hk : k ∉ chain)
    (h : ∀ j ∈ chain, s.leaderOf j ≠ some k) : (s.emptyAll chain).band k = s.band k := by
  induction chain generalizing s with
  | nil => rfl
  | cons j chain ih =>
    obtain ⟨hj, hrest⟩ := List.forall_mem_cons.1 h
    obtain ⟨hkj, hkr⟩ := not_or.1 (mt List.mem_cons.2 hk)
    rw [emptyAll_cons, ih hkr fun i hi => ?_, emptySlot_band, if_neg hkj, if_neg hj]
    obtain h | h := emptySlot_leaderOf_cases s j i <;> rw [h]
    · simp
    · exact hrest i hi

/-- The slots emptied leave the member list of the record they name, in order. -/
theorem emptyAll_band_of_nodup {s : State} {chain : List Nat} {k : Nat} {b : Band} (hk : k ∉ chain) (hb : s.band k = some b)
    (hn : chain.Nodup) :
    (s.emptyAll chain).band k =
      some ((chain.filter fun j => s.leaderOf j == some k).foldl (fun x j => x.dropMember j) b) := by
  induction chain generalizing s b with
  | nil => exact hb
  | cons j chain ih =>
    obtain ⟨hkj, hkr⟩ := not_or.1 (mt List.mem_cons.2 hk)
    obtain ⟨hj, hn⟩ := List.nodup_cons.1 hn
    have hstays : (chain.filter fun i => (s.emptySlot j).leaderOf i == some k) =
        chain.filter fun i => s.leaderOf i == some k :=
      List.filter_congr fun i hi => by rw [s.emptySlot_leaderOf j (fun e => hj (e ▸ hi))]
    have hstep : (s.emptySlot j).band k = some (if s.leaderOf j = some k then b.dropMember j else b) := by
      rw [emptySlot_band, if_neg hkj, hb]
      split <;> rfl
    rw [emptyAll_cons, ih hkr hstep hn, hstays]
    by_cases h : s.leaderOf j = some k <;> simp [h]

theorem engineOnly_emptyAll (s : State) (chain : List Nat) : EngineOnly s (s.emptyAll chain) :=
  .foldl engineOnly_emptySlot chain s

theorem emptyAll_beyondBands (s : State) (chain : List Nat) : (s.emptyAll chain).beyondBands = s.beyondBands :=
  foldl_keeps beyondBands emptySlot_beyondBands chain s

/-- The whole effect of a teardown, in the words of the statement: `s` before, `t` after, on the turn of port `p`. -/
theorem emptyAll_torn (s : State) (p : PortId) (chain : List Nat) :
    let t := (s.granted (.port p)).emptyAll chain
    (∀ k ∈ chain, t.band k = none ∧ ∀ bk, s.band k = some bk → t.slotOf bk.serial = none) ∧
    (∀ k bk, k ∉ chain → s.band k = some bk → (∀ j ∈ chain, s.leaderOf j ≠ some k) → t.band k = some bk) ∧
    (∀ k bk, k ∉ chain → s.band k = some bk → chain.Nodup →
      t.band k = some ((chain.filter fun j => s.leaderOf j == some k).foldl (fun x j => x.dropMember j) bk)) ∧
    (∀ k, s.band k = none → t.band k = none) ∧
    (∀ m, (∀ k ∈ chain, ∀ bk, s.band k = some bk → bk.serial ≠ m) → t.slotOf m = s.slotOf m) ∧
    t = { s with engine := { s.engine with bands := t.engine.bands, serialMap := t.engine.serialMap,
                                           lastGranted := .port p } } := by
  let g := s.granted (.port p)
  intro t
  refine ⟨fun k hk => ⟨emptyAll_band_of_mem hk, fun bk hb => emptyAll_slotOf_of_mem (s := g) hk ?_⟩,
    fun k bk hk hb h => ?_, fun k bk hk hb hn => emptyAll_band_of_nodup (s := g) hk hb hn,
    fun k hb => emptyAll_band_none (s := g) chain hb, fun m h => ?_, ?_⟩
  · exact congrArg (Option.map (·.serial)) hb
  · rw [emptyAll_band_of_apart (s := g) hk h]
    exact hb
  · refine emptyAll_slotOf_of_apart (s := g) fun k hk he => ?_
    obtain ⟨bk, hb, hserial⟩ := Option.map_eq_some_iff.1 he
    exact h k hk bk hb hserial
  · have hrest : t.engine = { g.engine with bands := t.engine.bands, serialMap := t.engine.serialMap } :=
      congrArg (fun e : Engine => { e with bands := t.engine.bands, serialMap := t.engine.serialMap })
        (emptyAll_beyondBands g chain)
    calc t = { g with engine := t.engine } := engineOnly_emptyAll g chain
      _ = _ := by rw [hrest]; rfl

end Chain

end State

/-! ### COLLECT (R103) and DISCARD_BAND (R25) in order -/

section Requests

variable {s : State} {r : Request} {serial slot : Nat} {b : Band} {ref : BandRef}

theorem collect_of_unfound {c : ResultCode} (hp : parseNumber 4 r.body = some serial)
    (hf : s.findSerial serial = .error c) : collect r s = refuse c s := by
  simp [collect, hp, hf]

theorem collect_of_found (hp : parseNumber 4 r.body = some serial) (hf : s.findSerial serial = .ok (slot, b)) :
    collect r s =
      if b.isCleared = false then refuse .wrongState s
      else if b.members ≠ [] then refuse .membersInside s
      else accept (bytesOf 1 (s.tearDown slot b).2) (s.tearDown slot b).1 := by
  simp [collect, hp, hf]

theorem discardBand_of_unfound {c : ResultCode} (hp : parseBandRef r.body = some ref)
    (hf : s.findRef ref = .error c) : discardBand r s = refuse c s := by
  simp [discardBand, hp, hf]

theorem discardBand_of_found (hp : parseBandRef r.body = some ref) (hf : s.findRef ref = .ok (slot, b)) :
    discardBand r s =
      if b.state ≠ .revoked ∨ b.next ≠ none then refuse .wrongState s
      else if b.lockers ≠ [] then refuse .holdsLocker s
      else if b.members ≠ [] then refuse .membersInside s
      else accept [] (s.tearDown slot b).1 := by
  simp [discardBand, hp, hf, Option.isSome_iff_ne_none]

end Requests

/-- Settles O24: the checks in order, and the chain emptied slot by slot. -/
theorem collectAndDiscardTearTheChainDown : Obligations.CollectAndDiscardTearTheChainDown := by
  unfold Obligations.CollectAndDiscardTearTheChainDown
  intro p r slot b s chain leaderOf torn refuses
  let g := s.granted (.port p)
  have hchain : slot :: g.predecessors 2047 b.previous = chain :=
    congrArg (slot :: ·) (State.predecessors_granted s (.port p) 2047 b.previous)
  have htear : g.tearDown slot b = (g.emptyAll chain, chain.length) := by
    rw [← hchain]
    rfl
  have htorn : torn (g.emptyAll chain) := State.emptyAll_torn s p chain
  have collects {a : Answer} {t : State} (hg : s.granting p .collect r) (h : collect r g = (a, t)) :
      exec (.collect p) s = .next (t.answered p r a.code a.data) := exec_row_granted (k := .collect) rfl rfl hg h
  have discards {a : Answer} {t : State} (hg : s.granting p .discardBand r) (h : discardBand r g = (a, t)) :
      exec (.discardBand p) s = .next (t.answered p r a.code a.data) :=
    exec_row_granted (k := .discardBand) rfl rfl hg h
  refine ⟨fun bk ms j h => Band.dropMember_leader j h,
    fun serial c hg hp hf => collects hg (collect_of_unfound (s := g) hp hf),
    fun ref c hg hp hf => discards hg (discardBand_of_unfound hp ((State.findRef_granted s _ ref).trans hf)),
    fun serial hg hp hf => ?_, fun ref hg hp hf => ?_⟩
  · have row := collect_of_found (s := g) hp hf
    rw [htear] at row
    refine ⟨fun hc => collects hg (row.trans (if_pos hc)), fun hc hm => collects (a := ⟨.membersInside, []⟩) hg (row.trans ?_), fun hc hm =>
      ⟨_, collects (a := ⟨.ok, bytesOf 1 chain.length⟩) hg (row.trans ?_), htorn⟩⟩
    · rw [if_neg (by simp [hc]), if_pos hm]; rfl
    · rw [if_neg (by simp [hc]), if_neg (not_not.2 hm)]; rfl
  · have row := discardBand_of_found (s := g) hp ((State.findRef_granted s _ ref).trans hf)
    rw [htear] at row
    refine ⟨fun h => discards hg (row.trans (if_pos h)), fun hst hnext => ?_⟩
    rw [if_neg (by simp [hst, hnext])] at row
    refine ⟨fun hl => discards hg (row.trans (if_pos hl)), fun hl hm => discards (a := ⟨.membersInside, []⟩) hg (row.trans ?_), fun hl hm =>
      ⟨_, discards (a := ⟨.ok, []⟩) hg (row.trans ?_), htorn⟩⟩
    · rw [if_neg (not_not.2 hl), if_pos hm]; rfl
    · rw [if_neg (not_not.2 hl), if_neg (not_not.2 hm)]; rfl

/-! ### CLOSE_DAY (R26) -/

namespace State

section Close

variable (s : State)

theorem mem_lockers_iff (l : Locker) : l ∈ s.engine.lockers.toList ↔ ∃ n, 1 ≤ n ∧ n ≤ 1024 ∧ s.locker n = l := by
  constructor
  · intro h
    obtain ⟨i, hi, rfl⟩ := List.mem_iff_getElem.1 h
    have hi' : i < 1024 := by simpa using hi
    exact ⟨i + 1, by omega, by omega, by simp [locker, tableGet, hi']⟩
  · rintro ⟨n, h1, h2, rfl⟩
    exact s.locker_mem ⟨h1, h2⟩

theorem mem_cabins_iff (k : Cabin) : k ∈ s.engine.cabins.toList ↔ ∃ c, 1 ≤ c ∧ c ≤ 64 ∧ s.cabin c = k := by
  constructor
  · intro h
    obtain ⟨i, hi, rfl⟩ := List.mem_iff_getElem.1 h
    have hi' : i < 64 := by simpa using hi
    exact ⟨i + 1, by omega, by omega, by simp [cabin, tableGet, hi']⟩
  · rintro ⟨c, h1, h2, rfl⟩
    exact s.cabin_mem ⟨h1, h2⟩

theorem lockers_any_iff (P : Locker → Bool) :
    s.engine.lockers.toList.any P = true ↔ ∃ n, 1 ≤ n ∧ n ≤ 1024 ∧ P (s.locker n) = true := by
  simp only [List.any_eq_true, mem_lockers_iff]
  exact ⟨fun ⟨l, ⟨n, h1, h2, hl⟩, hp⟩ => ⟨n, h1, h2, hl ▸ hp⟩, fun ⟨n, h1, h2, hp⟩ => ⟨_, ⟨n, h1, h2, rfl⟩, hp⟩⟩

theorem cabins_any_iff (P : Cabin → Bool) :
    s.engine.cabins.toList.any P = true ↔ ∃ c, 1 ≤ c ∧ c ≤ 64 ∧ P (s.cabin c) = true := by
  simp only [List.any_eq_true, mem_cabins_iff]
  exact ⟨fun ⟨k, ⟨c, h1, h2, hk⟩, hp⟩ => ⟨c, h1, h2, hk ▸ hp⟩, fun ⟨c, h1, h2, hp⟩ => ⟨_, ⟨c, h1, h2, rfl⟩, hp⟩⟩

theorem emptyVisitors_band (k : Nat) :
    s.emptyVisitors.band k = if s.holdsVisitor k then none else s.band k := by
  by_cases h0 : k = 0
  · simp [h0]
  · have hband (t : State) : t.band k = tableGet t.engine.bands none k := if_neg h0
    by_cases hk : k < 2048
    · rw [holdsVisitor, hband, hband, emptyVisitors, tableGet_tableMap _ _ none none hk]
    · rw [holdsVisitor, hband, hband, tableGet_of_le _ _ (Nat.not_lt.1 hk), tableGet_of_le _ _ (Nat.not_lt.1 hk)]
      rfl

theorem emptyVisitors_locker {n : Nat} (hn : 1 ≤ n ∧ n ≤ 1024) :
    s.emptyVisitors.locker n = s.closeLocker (s.locker n) := by
  have h0 : n ≠ 0 := Nat.one_le_iff_ne_zero.1 hn.1
  rw [locker, locker, if_neg h0, if_neg h0, emptyVisitors]
  exact tableGet_tableMap _ _ _ _ (by omega)

theorem emptyVisitors_slotOf {m k : Nat} (h : s.emptyVisitors.slotOf m = some k) : s.holdsVisitor k = false := by
  obtain ⟨e, he, rfl⟩ := Option.map_eq_some_iff.1 h
  simpa using (List.mem_filter.1 (List.mem_of_find?_eq_some he)).2

/-- An entry that stays is still the first of its serial. -/
theorem emptyVisitors_slotOf_of_stays {m k : Nat} (h : s.slotOf m = some k) (hk : s.holdsVisitor k = false) :
    s.emptyVisitors.slotOf m = some k := by
  obtain ⟨e, he, rfl⟩ := Option.map_eq_some_iff.1 h
  obtain ⟨hm, before, after, hl, hbefore⟩ := List.find?_eq_some_iff_append.1 he
  let stays (e : Nat × Nat) : Bool := !s.holdsVisitor e.2
  refine Option.map_eq_some_iff.2 ⟨e, List.find?_eq_some_iff_append.2 ⟨hm, before.filter stays, after.filter stays, ?_,
    fun a ha => hbefore a (List.mem_filter.1 ha).1⟩, rfl⟩
  simp [emptyVisitors, hl, hk, stays]

theorem closeLocker_of_visitor {l : Locker} {h : Nat} {st : LockerState} (hh : l.holder = some h)
    (hv : s.holdsVisitor h = true) (hst : l.closeState = some st) :
    s.closeLocker l =
      { l with state := st, holder := none, since := s.now, fresh := false, master := false, release := false,
               origin := none } := by
  simp [closeLocker, hh, hv, hst, Locker.enter]

theorem closeLocker_of_other {l : Locker} (h : l.holder.any s.holdsVisitor = false) : s.closeLocker l = l := by
  simp [closeLocker, h]

end Close

end State

theorem closeDay_eq {s : State} {r : Request} (hp : r.body = []) :
    closeDay r s =
      if s.engine.lockers.toList.any Locker.moving = true ∨ s.engine.cabins.toList.any Cabin.moving = true then
        refuse .lockerBusy s
      else if s.engine.cabins.toList.any (fun k => k.state == .occupied) = true then refuse .wrongState s
      else accept [] s.emptyVisitors := by
  simp [closeDay, hp, parseEmpty]

/-- Settles O25: what moves, then who is inside, then each table of `emptyVisitors` read. -/
theorem closeDayEmptiesTheVisitors : Obligations.CloseDayEmptiesTheVisitors := by
  unfold Obligations.CloseDayEmptiesTheVisitors
  intro p r s hg hp refusal lockerMoves cabinMoves
  let g := s.granted (.port p)
  have run {a : Answer} {t : State} (h : closeDay r g = (a, t)) :
      exec (.closeDay p) s = .next (t.answered p r a.code a.data) := exec_row_granted (k := .closeDay) rfl rfl hg h
  have hlockers : g.engine.lockers.toList.any Locker.moving = true ↔ lockerMoves := by
    rw [State.lockers_any_iff]
    simp only [Locker.moving_iff]
    rfl
  have hcabins : g.engine.cabins.toList.any Cabin.moving = true ↔ cabinMoves := by
    rw [State.cabins_any_iff]
    simp only [Cabin.moving_iff]
    rfl
  have hinside : g.engine.cabins.toList.any (fun k => k.state == .occupied) = true ↔
      ∃ c, 1 ≤ c ∧ c ≤ 64 ∧ (s.cabin c).state = .occupied := by
    rw [State.cabins_any_iff]
    simp only [beq_iff_eq]
    rfl
  have row := closeDay_eq (s := g) hp
  refine ⟨fun h => run (row.trans (if_pos (h.imp hlockers.2 hcabins.2))), fun h1 h2 h3 => run (a := ⟨.wrongState, []⟩) (row.trans ?_), fun h1 h2 => ?_⟩
  · rw [if_neg (not_or.2 ⟨mt hlockers.1 h1, mt hcabins.1 h2⟩), if_pos (hinside.2 h3)]
    rfl
  · have hstill : ¬(lockerMoves ∨ cabinMoves) := by
      rintro (⟨n, hn1, hn2, hm⟩ | ⟨c, hc1, hc2, hm⟩)
      · exact hm.elim (h1 n hn1 hn2).1 (h1 n hn1 hn2).2
      · exact hm.elim (h2 c hc1 hc2).1 (h2 c hc1 hc2).2.1
    have hempty : ¬∃ c, 1 ≤ c ∧ c ≤ 64 ∧ (s.cabin c).state = .occupied := fun ⟨c, hc1, hc2, ho⟩ => (h2 c hc1 hc2).2.2 ho
    rw [if_neg (mt (Or.imp hlockers.1 hcabins.1) hstill), if_neg (mt hinside.1 hempty)] at row
    refine ⟨g.emptyVisitors, run row, g.emptyVisitors_band, fun m k h => g.emptyVisitors_slotOf h,
      fun m k h hk => g.emptyVisitors_slotOf_of_stays h hk,
      fun n h hn1 hn2 hh hv => ⟨fun st hst => ?_, ?_⟩, fun n hn => ?_, rfl⟩
    · rw [g.emptyVisitors_locker ⟨hn1, hn2⟩]
      exact g.closeLocker_of_visitor hh hv hst
    · cases hst : (s.locker n).state <;> simp only [Locker.closeState, hst]
      cases hl : (s.locker n).latch <;> rfl
    · by_cases hrange : 1 ≤ n ∧ n ≤ 1024
      · rw [g.emptyVisitors_locker hrange]
        exact g.closeLocker_of_other hn
      · have hout : n = 0 ∨ 1024 < n := by omega
        rw [State.locker_of_gt _ hout, State.locker_of_gt _ hout]

end Sys2Proof.Machine
end

section
/-! PROOFS. Records laid out as fields one after another (section 13.1); the settings requests (R35, R88, R89, R141, R195). -/

namespace Sys2Proof.Machine

/-! ### Fields one after another -/

/-- Fields given by width and value, written one after another. -/
def writeFields (fs : List (Nat × Nat)) : List Byte := fs.flatMap fun f => bytesOf f.1 f.2

/-- The rows of fields written one after another from an offset on. -/
def rowsFrom : Nat → List (Nat × Nat) → List (Nat × Nat × Nat)
  | _, [] => []
  | off, f :: fs => (off, f.1, f.2) :: rowsFrom (off + f.1) fs

theorem writeFields_cons (w v : Nat) (fs : List (Nat × Nat)) :
    writeFields ((w, v) :: fs) = bytesOf w v ++ writeFields fs := rfl

theorem writeFields_append (fs gs : List (Nat × Nat)) : writeFields (fs ++ gs) = writeFields fs ++ writeFields gs :=
  List.flatMap_append ..

theorem writeFields_length (fs : List (Nat × Nat)) : (writeFields fs).length = (fs.map Prod.fst).sum := by
  induction fs with
  | nil => rfl
  | cons f fs ih => rw [writeFields_cons, List.length_append, bytesOf_length, ih, List.map_cons, List.sum_cons]

/-- Fields written behind `front` and before `back` stand at the rows counted from where `front` ends. -/
theorem holdsRows_writeFields (front : List Byte) (fs : List (Nat × Nat)) (back : List Byte) :
    holdsRows (front ++ (writeFields fs ++ back)) (rowsFrom front.length fs) := by
  induction fs generalizing front with
  | nil =>
    intro e he
    cases he
  | cons f fs ih =>
    intro e he
    obtain rfl | he := List.mem_cons.1 he
    · rw [fieldAt_append_right _ _ _ _ (Nat.le_refl _), Nat.sub_self, writeFields_cons, List.append_assoc,
        fieldAt_append_left _ _ _ _ (by simp), fieldAt_bytesOf]
    · have hrest := ih (front ++ bytesOf f.1 f.2)
      rw [List.append_assoc, List.length_append, bytesOf_length, ← List.append_assoc (bytesOf f.1 f.2),
        ← writeFields_cons] at hrest
      exact hrest e he

/-- A record whose bytes are fields one after another holds them at their offsets. -/
theorem holdsRows_of_fields {d : List Byte} {fs : List (Nat × Nat)} {rows : List (Nat × Nat × Nat)} (hd : d = writeFields fs)
    (hr : rows = rowsFrom 0 fs) : holdsRows d rows := by
  have h := holdsRows_writeFields [] fs []
  rwa [List.append_nil, List.nil_append, ← hd, List.length_nil, ← hr] at h

theorem length_of_fields {d : List Byte} {fs : List (Nat × Nat)} (hd : d = writeFields fs) :
    d.length = (fs.map Prod.fst).sum := hd ▸ writeFields_length fs

/-! ### Some entry of a table -/

theorem tableAny_iff {α : Type} {n : Nat} (f : Nat → α → Bool) (t : Vector α n) (d : α) :
    tableAny f t = true ↔ ∃ i < n, f i (tableGet t d i) = true := by
  unfold tableAny
  simp only [List.any_eq_true, List.mem_iff_getElem]
  constructor
  · rintro ⟨_, ⟨i, hi, rfl⟩, hf⟩
    rw [zipIdx_getElem_tableGet d hi] at hf
    exact ⟨i, by simpa using hi, hf⟩
  · rintro ⟨i, hi, hf⟩
    have hi' : i < t.toList.zipIdx.length := by simpa using hi
    exact ⟨_, ⟨i, hi', rfl⟩, by rw [zipIdx_getElem_tableGet d hi']; exact hf⟩

/-! ### SET_ZONE (R35) -/

theorem ZoneRequest.inRange_iff (q : ZoneRequest) :
    q.inRange = true ↔ q.zone ≤ 15 ∧ 1 ≤ q.value.first ∧ q.value.first ≤ 1024 ∧ 1 ≤ q.value.count ∧
      q.value.first + q.value.count ≤ 1025 ∧ q.value.rank ≤ 3 := by
  simp only [ZoneRequest.inRange, Bool.and_eq_true, decide_eq_true_iff]
  omega

/-- Two ranges that do not meet lie apart. -/
theorem Zone.meets_iff (a b : Zone) :
    a.meets b = true ↔ ¬(b.first + b.count ≤ a.first ∨ a.first + a.count ≤ b.first) := by
  simp only [Zone.meets, Bool.and_eq_true, decide_eq_true_iff]
  omega

theorem Zone.differsInPresentOnly_iff (old new : Zone) :
    old.differsInPresentOnly new = true ↔ new = { old with present := !old.present } := by
  obtain ⟨p, first, count, rank, group, order⟩ := old
  obtain ⟨p', first', count', rank', group', order'⟩ := new
  cases p <;> cases p' <;> simp [Zone.differsInPresentOnly]

namespace State

/-- Another present zone whose range the request's must not meet (check 2 of R35). -/
def otherZone (s : State) (q : ZoneRequest) (i : Nat) : Prop :=
  q.value.present = true ∧ i ≤ 15 ∧ i ≠ q.zone ∧ (s.zone i).present = true

theorem zoneOverlaps_iff (s : State) (q : ZoneRequest) :
    s.zoneOverlaps q = true ↔ ∃ i, s.otherZone q i ∧ q.value.meets (s.zone i) = true := by
  rw [zoneOverlaps, Bool.and_eq_true, tableAny_iff _ _ Zone.factoryOther]
  simp only [Bool.and_eq_true, bne_iff_ne]
  constructor
  · rintro ⟨hp, i, hi, ⟨hne, hpresent⟩, hmeets⟩
    exact ⟨i, ⟨hp, Nat.le_of_lt_succ hi, hne, hpresent⟩, hmeets⟩
  · rintro ⟨i, ⟨hp, hi, hne, hpresent⟩, hmeets⟩
    exact ⟨hp, i, Nat.lt_succ_of_le hi, ⟨hne, hpresent⟩, hmeets⟩

theorem boundIn_iff (s : State) (z : Zone) :
    s.boundIn z = true ↔ ∃ n, 1 ≤ n ∧ n ≤ 1024 ∧ (s.locker n).holder ≠ none ∧ z.first ≤ n ∧ n < z.first + z.count := by
  rw [boundIn, tableAny_iff _ _ (Locker.blank .unfitted 0)]
  simp only [Bool.and_eq_true, decide_eq_true_iff, Option.isSome_iff_ne_none]
  constructor
  · rintro ⟨i, hi, ⟨h1, h2⟩, hh⟩
    exact ⟨i + 1, by omega, by omega, hh, h1, h2⟩
  · rintro ⟨n, hn1, hn2, hh, h1, h2⟩
    obtain ⟨i, rfl⟩ : ∃ i, n = i + 1 := ⟨n - 1, by omega⟩
    exact ⟨i, by omega, ⟨h1, h2⟩, hh⟩

end State

section SetZone

variable {s : State} {r : Request} {q : ZoneRequest}

theorem setZone_eq (hp : parseZone r.body = some q) :
    setZone r s =
      if q.inRange = false then refuse .outOfRange s
      else if s.zoneOverlaps q = true then refuse .overlap s
      else if (s.zone q.zone).differsInPresentOnly q.value = false ∧
          (s.boundIn (s.zone q.zone) = true ∨ s.boundIn q.value = true) then refuse .zoneInUse s
      else accept [] ({ s with settings.zones := tableSet s.settings.zones q.zone q.value }.setZoneUsed q.zone false) := by
  simp [setZone, hp]

end SetZone

/-! ### Clamps and the nearest rate (R88, R141, R195) -/

theorem TariffClass.clamped_eq (t : TariffClass) :
    t.clamped = { step := max 60 (min 3600 t.step), rate := min 10000 t.rate, cap := min 65535 t.cap } := by
  simp [TariffClass.clamped, clamp]

theorem Windows.clamped_eq (w : Windows) :
    w.clamped =
      { opening := max 3 (min 30 w.opening), relock := max 10 (min 300 w.relock),
        reservation := max 60 (min 3600 w.reservation), leave := max 60 (min 1800 w.leave), grace := min 1800 w.grace,
        limitSingle := max 300 (min 3600 w.limitSingle), limitFamily := max 300 (min 3600 w.limitFamily),
        limitStaff := max 300 (min 3600 w.limitStaff), escalation := max 30 (min 600 w.escalation) } := by
  simp [Windows.clamped, clamp]

theorem setTariff_eq {s : State} {r : Request} {q : TariffRequest} (hp : parseTariff r.body = some q) :
    setTariff r s =
      if 7 < q.cls then refuse .outOfRange s
      else accept (bytesOf 2 q.value.clamped.step ++ bytesOf 2 q.value.clamped.rate ++ bytesOf 2 q.value.clamped.cap)
        (s.setTariffClass q.bank q.cls q.value.clamped) := by
  simp only [setTariff, hp]

theorem windowsBytes_eq (v : Windows) (rate : StepRate) :
    windowsBytes v rate =
      writeFields [(2, v.opening), (2, v.relock), (2, v.reservation), (2, v.leave), (2, v.grace), (2, v.limitSingle),
        (2, v.limitFamily), (2, v.limitStaff), (2, v.escalation), (2, rate.perSecond)] := by
  simp [windowsBytes, writeFields]

/-- Settles O32: the checks of R35 in order, the values clamped, and the windows laid out. -/
theorem settingsRequestsAreStored : Obligations.SettingsRequestsAreStored := by
  unfold Obligations.SettingsRequestsAreStored
  refine ⟨?zone, fun p r s hg hp => ?misread, fun p r s => ?stored, fun v rate => ?layout⟩
  case zone =>
    intro p r q s hg hp old refusal inRange other apart bound presentAlone
    let g := s.granted (.port p)
    have run {a : Answer} {t : State} (h : setZone r g = (a, t)) :
        exec (.setZone p) s = .next (t.answered p r a.code a.data) := exec_row_granted (k := .setZone) rfl rfl hg h
    have row := setZone_eq (s := g) hp
    have hbound : g.boundIn (g.zone q.zone) = true ∨ g.boundIn q.value = true ↔ ∃ n, bound n := by
      rw [State.boundIn_iff, State.boundIn_iff]
      constructor
      · rintro (⟨n, h1, h2, hh, hin⟩ | ⟨n, h1, h2, hh, hin⟩)
        · exact ⟨n, h1, h2, hh, .inl hin⟩
        · exact ⟨n, h1, h2, hh, .inr hin⟩
      · rintro ⟨n, h1, h2, hh, hin | hin⟩
        · exact .inl ⟨n, h1, h2, hh, hin⟩
        · exact .inr ⟨n, h1, h2, hh, hin⟩
    have halone : (g.zone q.zone).differsInPresentOnly q.value = true ↔ presentAlone :=
      Zone.differsInPresentOnly_iff _ _
    refine ⟨fun hr => run (row.trans (if_pos (Bool.eq_false_iff.2 (mt q.inRange_iff.1 hr)))), fun hr => ?_⟩
    rw [if_neg (by rw [q.inRange_iff.2 hr]; simp)] at row
    refine ⟨fun i m hi h1 h2 h3 h4 => ?_, fun hapart => ?_⟩
    · have hmeets : q.value.meets (s.zone i) = true := (Zone.meets_iff _ _).2 (by omega)
      exact run (row.trans (if_pos ((State.zoneOverlaps_iff g q).2 ⟨i, hi, hmeets⟩)))
    · have hclear : ¬g.zoneOverlaps q = true := fun h => by
        obtain ⟨i, hi, hmeets⟩ := (State.zoneOverlaps_iff g q).1 h
        exact (Zone.meets_iff _ _).1 hmeets (hapart i hi)
      rw [if_neg hclear] at row
      refine ⟨fun hb hno => run (row.trans (if_pos ⟨Bool.eq_false_iff.2 (mt halone.1 hno), hbound.2 hb⟩)), fun hfree => ?_⟩
      refine run (row.trans (if_neg ?_))
      rintro ⟨hd, hb⟩
      obtain ⟨n, hn⟩ := hbound.1 hb
      obtain hnone | hyes := hfree
      · exact hnone n hn
      · exact absurd (halone.2 hyes) (ne_true_of_eq_false hd)
  case misread =>
    have h : setZone r (s.granted (.port p)) = refuse .outOfRange (s.granted (.port p)) := by simp [setZone, hp]
    exact exec_row_granted (k := .setZone) rfl rfl hg h
  case stored =>
    intro g
    refine ⟨fun q hg hp hc => ?_, fun q hg hp hc => ?_, fun bank hg hp => ?_, fun q hg hp => ?_⟩
    · intro v
      have hin : ¬7 < q.cls := Nat.not_lt.2 hc
      have row := (setTariff_eq (s := g) hp).trans (if_neg hin)
      rw [TariffClass.clamped_eq] at row
      refine (exec_row_granted (k := .setTariff) rfl rfl hg row).trans ?_
      cases q.bank <;> rfl
    · exact exec_row_granted (k := .setTariff) rfl rfl hg ((setTariff_eq (s := g) hp).trans (if_pos hc))
    · have row : selectBank r g = accept [] { g with settings.selected := bank } := by simp [selectBank, hp]
      exact exec_row_granted (k := .selectBank) rfl rfl hg row
    · intro v rate
      have row : setWindows r g = accept (windowsBytes v rate) { g with settings.windows := v, settings.stepRate := rate } := by
        simp only [setWindows, hp, Windows.clamped_eq]
        rfl
      exact exec_row_granted (k := .setWindows) rfl rfl hg row
  case layout =>
    exact ⟨length_of_fields (windowsBytes_eq v rate), holdsRows_of_fields (windowsBytes_eq v rate) rfl⟩

end Sys2Proof.Machine
end

section
/-! PROOFS. The day clock (R148, R186 to R188) and the saving of the settings (R194). -/

namespace Sys2Proof.Machine

/-! ### The request that stands at its block -/

namespace State

theorem request_outstanding {s : State} {p : PortId} {k : ReqKind} {r : Request} (h : s.request p k = some r) :
    (s.port p).outstanding = some r ∧ r.taken = false ∧ kindOf r.code = some k := by
  unfold request at h
  split at h
  · rename_i a ha
    unfold awaiting at ha
    repeat' split at h
    all_goals cases h
    repeat' split at ha
    all_goals cases ha
    exact ⟨‹_›, Bool.eq_false_iff.2 ‹_›, ‹_›⟩
  · cases h

theorem markTaken_of_outstanding {s : State} {p : PortId} {r : Request} (h : (s.port p).outstanding = some r) :
    s.markTaken p = s.setPort p { s.port p with outstanding := some { r with taken := true } } := by
  simp [markTaken, h]

/-! ### The day clock -/

theorem exec_dayClockTick_eq (s : State) :
    exec .dayClockTick s =
      .next (if s.supply.retention then { s with supply.clock := (s.supply.clock + 1) % 86400 } else s) := rfl

/-- A trim moves the clock by the clamped amount, and by whole days besides. -/
theorem trimmed_eq (clock : Nat) (d : Int) :
    ∃ wraps : Int,
      (trimmed clock d : Int) = (clock : Int) + (if d < -60 then -60 else if 60 < d then 60 else d) + wraps * 86400 := by
  have hclamp : max (-60) (min 60 d) = if d < -60 then -60 else if 60 < d then 60 else d := by
    split
    · omega
    · split <;> omega
  refine ⟨-(((clock : Int) + max (-60) (min 60 d)) / 86400), ?_⟩
  rw [← hclamp]
  unfold trimmed Config.day
  omega

end State

theorem trimClock_eq {s : State} {p : PortId} {r : Request} {d : Int} (hp : parseTrim r.body = some d) :
    trimClock p r s =
      accept (bytesOf 3 (trimmed s.now d)) { s.remember p (.clock d) with supply.clock := trimmed s.now d } := by
  simp [trimClock, hp]

/-! ### SET_CLOCK (R187, R148) -/

theorem State.anyVisitor_iff (s : State) : s.anyVisitor = true ↔ ∃ k, s.holdsVisitor k = true := by
  rw [anyVisitor, tableAny_iff _ _ none]
  simp only [Bool.and_eq_true, bne_iff_ne]
  constructor
  · rintro ⟨k, -, h0, hv⟩
    exact ⟨k, by rwa [holdsVisitor, band_eq_tableGet h0]⟩
  · rintro ⟨k, hv⟩
    obtain ⟨b, hb, -⟩ := Option.any_eq_true _ _ |>.1 hv
    obtain ⟨h1, h2⟩ := slot_of_band s hb
    have h0 : k ≠ 0 := Nat.one_le_iff_ne_zero.1 h1
    exact ⟨k, Nat.lt_succ_of_le h2, h0, by rwa [holdsVisitor, band_eq_tableGet h0] at hv⟩

theorem setClock_eq {s : State} {r : Request} {time : Nat} (hp : parseNumber 3 r.body = some time) :
    setClock r s =
      if 86400 ≤ time then refuse .outOfRange s
      else if s.anyVisitor = true then refuse .tableNotEmpty s
      else accept (bytesOf 3 time) (s.setDayClock time) := by
  simp only [setClock, hp]
  rfl

theorem Locker.restart_eq (l : Locker) (t : Nat) :
    l.restart t = if l.state ∈ [.reserved, .released, .closing] then { l with since := t } else l := by
  cases h : l.state <;> simp [Locker.restart, h]

theorem Cabin.restart_eq (k : Cabin) (t : Nat) :
    k.restart t = if k.state = .occupied then { k with since := t, stage := 0 } else k := by
  cases h : k.state <;> simp [Cabin.restart, h]

namespace State

section Clock

variable (s : State) (t : Nat)

theorem setDayClock_locker {n : Nat} (hn : 1 ≤ n ∧ n ≤ 1024) : (s.setDayClock t).locker n = (s.locker n).restart t := by
  have h0 : n ≠ 0 := Nat.one_le_iff_ne_zero.1 hn.1
  rw [locker, locker, if_neg h0, if_neg h0, setDayClock]
  exact tableGet_tableMap _ _ _ _ (by omega)

theorem setDayClock_cabin {c : Nat} (hc : 1 ≤ c ∧ c ≤ 64) : (s.setDayClock t).cabin c = (s.cabin c).restart t := by
  have h0 : c ≠ 0 := Nat.one_le_iff_ne_zero.1 hc.1
  rw [cabin, cabin, if_neg h0, if_neg h0, setDayClock]
  exact tableGet_tableMap _ _ _ _ (by omega)

/-- What a clock set supersedes: every trim still outstanding, and nothing else. -/
theorem supersede_clock :
    s.supersede (.clock 0) = { s with undo := s.undo.filter fun u =>
      match u.before with
      | .clock _ => false
      | _ => true } := by
  have htest : (fun u : Undo => !(Before.clock 0).samePlace u.before) = fun u =>
      match u.before with
      | .clock _ => false
      | _ => true := by
    funext u
    cases h : u.before <;> rfl
  rw [supersede, htest]

theorem setDayClock_frame :
    s.setDayClock t =
      { s with
        supply := { s.supply with clock := t, clockValid := true },
        undo := s.undo.filter fun u =>
          match u.before with
          | .clock _ => false
          | _ => true,
        engine := { s.engine with lockers := (s.setDayClock t).engine.lockers,
                                  cabins := (s.setDayClock t).engine.cabins } } := by
  conv_lhs => rw [setDayClock, supersede_clock]
  rfl

end Clock

end State

/-- Settles O39: the tick, the trim and the setting, each by its own equation. -/
theorem theDayClockCountsAndIsSet : Obligations.TheDayClockCountsAndIsSet := by
  unfold Obligations.TheDayClockCountsAndIsSet
  refine ⟨fun s hday => ⟨fun hr => ?tick, fun hr => ?still⟩, fun p r d s hg hp => ?trim, fun p r time s hg hp htime => ?late,
    fun p r time s hg hp htime => ⟨fun hv => ?visitors, fun hv => ?sets⟩⟩
  case tick =>
    have hnext : (s.supply.clock + 1) % 86400 = if s.supply.clock = 86399 then 0 else s.supply.clock + 1 := by
      split <;> omega
    rw [State.exec_dayClockTick_eq, if_pos hr, hnext]
  case still => rw [State.exec_dayClockTick_eq, if_neg (ne_true_of_eq_false hr)]
  case trim =>
    exact ⟨trimmed s.now d, State.trimmed_lt_day _ _, State.trimmed_eq _ _,
      exec_row_taken (k := .trimClock) rfl rfl hg (trimClock_eq hp)⟩
  case late =>
    exact exec_row_granted (k := .setClock) rfl rfl hg ((setClock_eq hp).trans (if_pos htime))
  case visitors =>
    have row := (setClock_eq (s := s.granted (.port p)) hp).trans (if_neg (Nat.not_le.2 htime))
    exact exec_row_granted (k := .setClock) rfl rfl hg (row.trans (if_pos ((State.anyVisitor_iff _).2 hv)))
  case sets =>
    let g := s.granted (.port p)
    have hnone : ¬g.anyVisitor = true := fun h => by
      obtain ⟨k, hk⟩ := (State.anyVisitor_iff g).1 h
      exact absurd hk (ne_true_of_eq_false (hv k))
    have row := ((setClock_eq (s := g) hp).trans (if_neg (Nat.not_le.2 htime))).trans (if_neg hnone)
    refine ⟨g.setDayClock time, exec_row_granted (k := .setClock) rfl rfl hg row, rfl, fun n h1 h2 => ?_, fun c h1 h2 => ?_,
      ?_⟩
    · exact (g.setDayClock_locker time ⟨h1, h2⟩).trans (Locker.restart_eq _ _)
    · exact (g.setDayClock_cabin time ⟨h1, h2⟩).trans (Cabin.restart_eq _ _)
    · exact g.setDayClock_frame time

/-! ### The settings saved (R194) -/

theorem execSaveSettings_taken {p : PortId} {r : Request} {s : State} (hg : s.taking p .saveSettings r) (hb : r.body = []) :
    exec (.saveSettings p) s =
      .next (if s.supply.save.isSome then s.answered p r .saveBusy [] else s.beginSave p) := by
  obtain ⟨hr, hrun⟩ := hg
  have hexec : exec (.saveSettings p) s = execSaveSettings p s := rfl
  rw [hexec, execSaveSettings, hr]
  cases hs : s.supply.save <;> simp [hrun, hb, hs, State.answered]

theorem execSaveComplete_saving {s : State} {v : Save} (ok : Bool) (hv : s.supply.save = some v) :
    exec (.saveComplete ok) s =
      .next (({ s with supply.save := none, supply.store := if ok then some v.snapshot else none } : State).answerSave
        v.replyTo (if ok then .ok else .storeFault)) := by
  have hexec : exec (.saveComplete ok) s = execSaveComplete ok s := rfl
  rw [hexec, execSaveComplete, hv]

/-- Settles O40: the snapshot and the mark, then the end of the write answered where its port still waits. -/
theorem saveWritesTheSnapshot : Obligations.SaveWritesTheSnapshot := by
  unfold Obligations.SaveWritesTheSnapshot
  refine fun p r s => ⟨fun hg hb => ⟨fun hs => ?busy, fun hs => ?begins⟩, fun v ok hv => ?ends⟩
  case busy => rw [execSaveSettings_taken hg hb, if_pos (Option.isSome_iff_ne_none.2 hs)]
  case begins =>
    have ho := (State.request_outstanding hg.1).1
    let saving : State := { s with supply.save := some { snapshot := s.settings, replyTo := some p } }
    rw [execSaveSettings_taken hg hb, if_neg (by simp [hs])]
    exact congrArg Host.Outcome.next (State.markTaken_of_outstanding (s := saving) ho)
  case ends =>
    intro ended
    rw [execSaveComplete_saving ok hv]
    refine ⟨fun hto => by rw [hto]; rfl, fun hto ho => ?_⟩
    have ho' : (ended.port p).outstanding = some r := ho
    rw [hto]
    show Host.Outcome.next (ended.answerSave (some p) _) = _
    rw [State.answerSave, ho']

end Sys2Proof.Machine
end

section
/-! PROOFS. The requests of the ports and of the notice unit: STATUS and SET_PORT (R182, R183), READ_NOTICE, ACK_ALARM,
SET_THRESHOLD and SET_NOTICE_PRIORITY (R161, R165, R166, R170). -/

namespace Sys2Proof.Machine

/-! ### More of fields -/

theorem holdsRows_append {d : List Byte} {a b : List (Nat × Nat × Nat)} (ha : holdsRows d a) (hb : holdsRows d b) :
    holdsRows d (a ++ b) := fun e he => (List.mem_append.1 he).elim (ha e) (hb e)

/-- Fields at the head of a record whose rest is written otherwise. -/
theorem holdsRows_head {d back : List Byte} {fs : List (Nat × Nat)} {rows : List (Nat × Nat × Nat)}
    (hd : d = writeFields fs ++ back) (hr : rows = rowsFrom 0 fs) : holdsRows d rows := by
  subst hd hr
  exact holdsRows_writeFields [] fs back

/-- Fields behind a part of known length. -/
theorem holdsRows_behind {d front back : List Byte} {fs : List (Nat × Nat)} {rows : List (Nat × Nat × Nat)} {off : Nat}
    (hd : d = front ++ (writeFields fs ++ back)) (hlen : front.length = off) (hr : rows = rowsFrom off fs) :
    holdsRows d rows := by
  subst hd hlen hr
  exact holdsRows_writeFields front fs back

theorem byte_eq_field (b : Byte) : [b] = bytesOf 1 b.toNat := by
  simp [bytesOf]

theorem flags_three (a b c : Bool) : [flagsByte [a, b, c]] = bytesOf 1 (yesNo a + 2 * yesNo b + 4 * yesNo c) := by
  cases a <;> cases b <;> cases c <;> rfl

theorem flags_two (a b : Bool) : [flagsByte [a, b]] = bytesOf 1 (yesNo a + 2 * yesNo b) := by
  cases a <;> cases b <;> rfl

theorem flags_four (a b c d : Bool) :
    [flagsByte [a, b, c, d]] = bytesOf 1 (yesNo a + 2 * yesNo b + 4 * yesNo c + 8 * yesNo d) := by
  cases a <;> cases b <;> cases c <;> cases d <;> rfl

theorem flags_five (a b c d e : Bool) :
    [flagsByte [a, b, c, d, e]] = bytesOf 1 (yesNo a + 2 * yesNo b + 4 * yesNo c + 8 * yesNo d + 16 * yesNo e) := by
  cases a <;> cases b <;> cases c <;> cases d <;> cases e <;> rfl

/-- Records of one width, one after another: what stands where the one at `i` begins. -/
theorem drop_flatMap_width {α : Type} {f : α → List Byte} {w : Nat} (hw : ∀ a, (f a).length = w) {l : List α} {i : Nat} {a : α}
    (h : l[i]? = some a) : ∃ back, (l.flatMap f).drop (w * i) = f a ++ back := by
  induction l generalizing i with
  | nil => simp at h
  | cons x xs ih =>
    cases i with
    | zero =>
      obtain rfl : x = a := by simpa using h
      exact ⟨xs.flatMap f, by simp⟩
    | succ i =>
      obtain ⟨back, hback⟩ := ih (by simpa using h)
      refine ⟨back, ?_⟩
      rw [← hback, List.flatMap_cons, List.drop_append, hw, Nat.mul_succ, Nat.add_sub_cancel,
        List.drop_eq_nil_of_le (by rw [hw]; omega), List.nil_append]

theorem length_flatMap_width {α : Type} {f : α → List Byte} {w : Nat} (hw : ∀ a, (f a).length = w) (l : List α) :
    (l.flatMap f).length = w * l.length := by
  induction l with
  | nil => rfl
  | cons x xs ih => rw [List.flatMap_cons, List.length_append, hw, ih, List.length_cons, Nat.mul_succ, Nat.add_comm]

/-! ### The permission set -/

theorem permBytes_length (set : PermSet) : (permBytes set).length = 5 := by simp [permBytes]

/-- Kind `i + 1` is bit `i mod 8` of byte `i div 8` (section 13.1). -/
theorem permBytes_bit (set : PermSet) {i : Nat} (h : i < 40) :
    ((permBytes set).getD (i / 8) 0#8).getLsbD (i % 8) = set.getLsbD i := by
  have hbyte : i / 8 < 5 := by omega
  have hbit : i % 8 < 8 := Nat.mod_lt _ (by decide)
  have hget : (permBytes set).getD (i / 8) 0#8 = set.extractLsb' (8 * (i / 8)) 8 := by
    simp [permBytes, List.getD_eq_getElem?_getD, List.getElem?_range hbyte]
  rw [hget, BitVec.getLsbD_extractLsb', decide_eq_true hbit, Bool.true_and, Nat.div_add_mod]

/-! ### STATUS (R183) -/

theorem zipIdx_eq_map {α : Type} {n : Nat} (t : Vector α n) (d : α) :
    t.toList.zipIdx = (List.range n).map fun i => (tableGet t d i, i) := by
  apply List.ext_getElem
  · simp
  · intro i h1 h2
    rw [zipIdx_getElem_tableGet d h1]
    simp

theorem State.silentCount_eq (s : State) :
    s.silentCount = ((List.range 144).filter fun i => s.configured (i + 1) && s.isSilent (i + 1)).length := by
  rw [silentCount, zipIdx_eq_map _ (Module.blank false), List.countP_map, List.countP_eq_length_filter]
  congr 2
  funext i
  exact Bool.and_comm _ _

theorem alarmBytes_eq (a : Alarm) :
    alarmBytes a =
      writeFields [(1, noticeCode a.kind), (2, (placeCode a.place).2), (3, a.raised), (2, a.countdown),
        (1, yesNo a.escalated)] := by
  simp [alarmBytes, writeFields]

theorem State.statusBytes_eq (s : State) (p : PortId) :
    s.statusBytes p =
      writeFields [(3, s.now),
        (1, yesNo s.supply.clockValid + 2 * yesNo s.supply.save.isSome + 4 * yesNo (s.notices.overflow.get p) +
          8 * yesNo s.notices.alarmOverflow),
        (1, supplyCode s.supply.supply), (1, s.portRank p)] ++ (permBytes (s.portPermitted p) ++
      (writeFields [(1, s.settings.thresholds.get p), (1, (s.queue p).length), (2, s.sweep.index), (2, s.sweep.remaining),
        (2, s.settings.stepRate.perSecond), (1, s.field.queue.length), (1, s.silentCount), (1, s.notices.alarms.length)] ++
      s.notices.alarms.flatMap alarmBytes)) := by
  have hflags : [s.statusFlags p] = _ := flags_four _ _ _ _
  simp only [statusBytes, hflags, writeFields, List.flatMap_cons, List.flatMap_nil, List.append_nil, List.append_assoc]

/-! ### SET_PORT (R182) -/

section Ports

variable {s : State} {r : Request} {n rank : Nat} {set : PermSet}

theorem setPort_of_range (p : PortId) (hp : parsePort r.body = some (n, rank, set)) (h : 2 < n ∨ rank = 0 ∨ 3 < rank) :
    setPortRequest p r s = refuse .outOfRange s := by
  by_cases hn : 2 < n
  · obtain ⟨m, rfl⟩ : ∃ m, n = m + 3 := ⟨n - 3, by omega⟩
    simp [setPortRequest, hp, portOf]
  · have hrank : rank = 0 ∨ 3 < rank := h.resolve_left hn
    have hrefuse : (rank = 0 || decide (3 < rank)) = true := by simpa using hrank
    simp only [setPortRequest, hp, hrefuse]
    split <;> rfl

theorem setPort_of_cp2 {carrier : PortId} (hp : parsePort r.body = some (2, rank, set)) (h1 : 1 ≤ rank) (h3 : rank ≤ 3) :
    setPortRequest carrier r s = refuse .wrongState s := by
  have hrank : (rank = 0 || decide (3 < rank)) = false := by simp; omega
  simp only [setPortRequest, hp, portOf, hrank]
  rfl

/-- SET_PORT of CP0 or CP1: what it wrote over is kept, and a queue that cannot be read any more is emptied. -/
theorem setPort_of_port {carrier p : PortId} (hp : parsePort r.body = some (n, rank, set)) (hn : portOf n = some p)
    (h2 : p ≠ .cp2) (h1 : 1 ≤ rank) (h3 : rank ≤ 3) :
    setPortRequest carrier r s =
      accept (bytesOf 1 rank ++ permBytes set)
        (if set.getLsbD 26 then
          (s.remember carrier (.port p (s.portSetting p))).setPortSetting p { rank := rank, permitted := set }
        else
          ((s.remember carrier (.port p (s.portSetting p))).setPortSetting p { rank := rank, permitted := set }).setQueue p
            []) := by
  have hrank : (rank = 0 || decide (3 < rank)) = false := by simp; omega
  simp only [setPortRequest, hp, hn, hrank, if_neg h2]
  rfl

end Ports

/-- Settles O16: STATUS laid out around its permission set, and SET_PORT by the port it names. -/
theorem portRequestsTakeEffect : Obligations.PortRequestsTakeEffect := by
  unfold Obligations.PortRequestsTakeEffect
  refine ⟨fun p r s hg hb => ?status, fun p s => ?layout, fun p r rank set s hg h1 h3 => ?set,
    fun p r n rank set s hg hp h => exec_row_taken (k := .setPort) rfl rfl hg (setPort_of_range p hp h)⟩
  case status =>
    have row : statusRequest p r s = accept (s.statusBytes p) (s.setOverflow p false) := by
      simp [statusRequest, hb, parseEmpty]
    exact exec_row_taken (k := .status) rfl rfl hg row
  case layout =>
    intro d silent
    have hd := s.statusBytes_eq p
    have hsilent : silent = s.silentCount := s.silentCount_eq.symm
    refine ⟨?_, ?_, fun i hi => ?_, fun i a ha => ?_⟩
    · rw [show d = _ from hd]
      simp only [List.length_append, writeFields_length, permBytes_length,
        length_flatMap_width (w := 9) (f := alarmBytes) (fun a => by rw [alarmBytes_eq, writeFields_length]; rfl)]
      simp
      omega
    · have hfront := holdsRows_head hd rfl
      rw [← List.append_assoc] at hd
      have hback := holdsRows_behind (off := 11) hd
        (by rw [List.length_append, writeFields_length, permBytes_length]; rfl) rfl
      rw [hsilent]
      exact holdsRows_append hfront hback
    · rw [show d = _ from hd, List.getD_append_right _ _ _ _ (by rw [writeFields_length]; simp), writeFields_length]
      rw [List.getD_append _ _ _ _ (by rw [permBytes_length]; simp; omega)]
      exact (congrArg (fun j => ((permBytes (s.portPermitted p)).getD j 0#8).getLsbD (i % 8)) (by simp)).trans
        (permBytes_bit _ hi)
    · obtain ⟨back, hback⟩ := drop_flatMap_width (f := alarmBytes) (w := 9)
        (fun a => by rw [alarmBytes_eq, writeFields_length]; rfl) ha
      refine holdsRows_head (back := back) (fs := [(1, noticeCode a.kind), (2, (placeCode a.place).2), (3, a.raised),
        (2, a.countdown), (1, yesNo a.escalated)]) ?_ rfl
      rw [← alarmBytes_eq, ← hback, show d = _ from hd, ← List.drop_drop]
      congr 1
  case set =>
    have run {a : Answer} {t : State} (h : setPortRequest p r s = (a, t)) :
        exec (.setPort p) s = .next (t.answered p r a.code a.data) := exec_row_taken (k := .setPort) rfl rfl hg h
    refine ⟨fun hp => (run (setPort_of_port hp rfl (by decide) h1 h3)).trans ?_,
      fun hp => (run (setPort_of_port hp rfl (by decide) h1 h3)).trans ?_, fun hp => run (setPort_of_cp2 hp h1 h3)⟩
    · refine congrArg (fun t : State => Host.Outcome.next (t.answered p r .ok (bytesOf 1 rank ++ permBytes set))) ?_
      cases set.getLsbD 26 <;> rfl
    · refine congrArg (fun t : State => Host.Outcome.next (t.answered p r .ok (bytesOf 1 rank ++ permBytes set))) ?_
      cases set.getLsbD 26 <;> rfl

end Sys2Proof.Machine
end

section
/-! PROOFS. The requests of the notice unit (R161, R165, R166, R170) and the notice record (Table 13-6). -/

namespace Sys2Proof.Machine

theorem orZero_eq (n : Option Nat) : orZero n = n.getD 0 := rfl

theorem noticeBytes_eq (n : Notice) :
    noticeBytes n =
      writeFields [(1, noticeCode n.body.kind), (1, n.priority),
        (1, yesNo n.body.serial.isSome + 2 * yesNo n.body.hit.isSome), (1, (placeCode n.body.place).1),
        (2, (placeCode n.body.place).2), (4, n.body.serial.getD 0), (3, n.body.time),
        (1, (n.body.hit.map fun h => h.watch).getD 0), (1, (n.body.hit.map fun h => watchCode h.event).getD 0)] := by
  have hflags : [n.body.flags] = _ := flags_two _ _
  cases h : n.body.hit <;>
    simp [noticeBytes, hflags, h, placeBytes, writeFields, orZero_eq] <;> rfl

theorem attention_iff (s : State) (p : PortId) : s.attention p = true ↔ s.running = true ∧ s.queue p ≠ [] := by
  simp [State.attention]

theorem alarmPlace_iff (k : NoticeKind) (n : Nat) (place : Place) :
    alarmPlace k n = some place ↔
      (k = .lockerForced ∧ 1 ≤ n ∧ n ≤ 1024 ∧ place = .locker n) ∨
        ((k = .cabinForced ∨ k = .cabinOverholdLong) ∧ 1 ≤ n ∧ n ≤ 64 ∧ place = .cabin n) := by
  have hif (P : Prop) [Decidable P] (x : Place) : (if P then some x else none) = some place ↔ P ∧ place = x := by
    split <;> simp_all [eq_comm]
  cases k <;> simp [alarmPlace, hif, and_assoc]

/-- What the acknowledgement of one alarm finds: the first of that kind and place. -/
theorem ackFrom_one {k : NoticeKind} {place : Place} {before after : List Alarm} {a : Alarm} (hk : a.kind = k)
    (hp : a.place = some place) (hb : ∀ x ∈ before, ¬(x.kind = k ∧ x.place = some place)) :
    ackFrom (some (k, place)) (before ++ a :: after) = before ++ after := by
  have hno : ∀ x ∈ before, ¬(x.kind == k && x.place == some place) = true := fun x hx => by simpa using hb x hx
  rw [ackFrom, List.eraseP_append_right _ hno, List.eraseP_cons_of_pos (by simp [hk, hp])]

section Requests

variable {p : PortId} {r : Request} {s : State}

theorem ackAlarm_of_range {k : NoticeKind} {n : Nat} (hp : parseAck r.body = some (.one k n)) (h : alarmPlace k n = none) :
    ackAlarm p r s = refuse .outOfRange s := by
  simp [ackAlarm, hp, h]

theorem ackAlarm_of_unlisted {k : NoticeKind} {n : Nat} {place : Place} (hp : parseAck r.body = some (.one k n))
    (h : alarmPlace k n = some place) (hl : ∀ a ∈ s.notices.alarms, ¬(a.kind = k ∧ a.place = some place)) :
    ackAlarm p r s = answerNone s := by
  have hnot : s.alarmListed k (some place) = false := by simpa [State.alarmListed] using hl
  simp [ackAlarm, hp, h, hnot]

theorem ackAlarm_of_listed {k : NoticeKind} {n : Nat} {place : Place} (hp : parseAck r.body = some (.one k n))
    (h : alarmPlace k n = some place) {a : Alarm} (ha : a ∈ s.notices.alarms) (hk : a.kind = k) (hplace : a.place = some place) :
    ackAlarm p r s = accept [] (s.acknowledge p (some (k, place))) := by
  have hin : s.alarmListed k (some place) = true := by
    simpa [State.alarmListed] using ⟨a, ha, hk, hplace⟩
  simp [ackAlarm, hp, h, hin]

theorem setThreshold_eq {n : Nat} (hp : parseNumber 1 r.body = some n) :
    setThreshold p r s =
      if 8 < n then refuse .outOfRange s
      else accept [] ((s.remember p (.threshold p (s.settings.thresholds.get p))).setThreshold p n) := by
  simp only [setThreshold, hp]

theorem setNoticePriority_eq {k : NoticeKind} {n : Nat} (hp : parsePriority r.body = some (k, n)) :
    setNoticePriority p r s =
      if 7 < n then refuse .outOfRange s
      else if (isAlarm k || k == .watchHit) = true then refuse .wrongState s
      else accept [] ((s.remember p (.priority k (tableGet s.settings.priorities 0 (noticeCode k - 1)))).setPriority k n) := by
  simp only [setNoticePriority, hp]

theorem isFixed_iff (k : NoticeKind) :
    (isAlarm k || k == .watchHit) = true ↔ k ∈ [.watchHit, .lockerForced, .cabinForced, .cabinOverholdLong] := by
  cases k <;> decide

/-- The kinds whose priority is held are the first fifteen. -/
theorem noticeCode_lt {k : NoticeKind} (h : k ∉ [.watchHit, .lockerForced, .cabinForced, .cabinOverholdLong]) :
    noticeCode k - 1 < 15 := by
  revert h
  cases k <;> decide

theorem tableGet_getElem? {α : Type} {n : Nat} (t : Vector α n) (d : α) {i : Nat} (h : i < n) :
    t[i]? = some (tableGet t d i) := by
  simp [tableGet, h]

end Requests

/-- Settles O34: the notice record laid out, and each request in order of its checks. -/
theorem noticeRequestsTakeEffect : Obligations.NoticeRequestsTakeEffect := by
  unfold Obligations.NoticeRequestsTakeEffect
  refine ⟨by decide, fun n => ⟨?_, ?_⟩, fun p s => attention_iff s p, alarmPlace_iff, fun p r k n s =>
    ⟨fun hg hp => ⟨fun h => ?_, fun place h hl => ?_⟩, fun hg hp h => ?_, fun hg hp h => ?_⟩, fun p r s =>
    ⟨fun hg hb => ⟨fun hq => ?_, fun n rest hq => ?_⟩, fun hg hp => ?_, fun k n place before a after hg hp h hl hk hplace hb => ?_,
      fun n hg hp h => ?_, fun k n hg hp h => ⟨fun hfixed => ?_, fun hfree => ?_⟩⟩⟩
  · exact length_of_fields (noticeBytes_eq n)
  · exact holdsRows_of_fields (noticeBytes_eq n) rfl
  · exact exec_row_taken (k := .ackAlarm) rfl rfl hg (ackAlarm_of_range hp h)
  · exact exec_row_taken (k := .ackAlarm) rfl rfl hg (ackAlarm_of_unlisted hp h hl)
  · exact exec_row_taken (k := .setThreshold) rfl rfl hg ((setThreshold_eq hp).trans (if_pos h))
  · exact exec_row_taken (k := .setNoticePriority) rfl rfl hg ((setNoticePriority_eq hp).trans (if_pos h))
  · have row : readNotice p r s = answerNone s := by simp [readNotice, hb, parseEmpty, hq]
    exact exec_row_taken (k := .readNotice) rfl rfl hg row
  · have row : readNotice p r s = accept (noticeBytes n ++ bytesOf 1 rest.length) (s.setQueue p rest) := by
      simp [readNotice, hb, parseEmpty, hq]
    exact exec_row_taken (k := .readNotice) rfl rfl hg row
  · have row : ackAlarm p r s = accept [] (s.acknowledge p none) := by simp [ackAlarm, hp]
    refine (exec_row_taken (k := .ackAlarm) rfl rfl hg row).trans ?_
    simp only [State.acknowledge, ackFrom, List.isEmpty_nil, Bool.not_true, Bool.and_false]
    rfl
  · have row := ackAlarm_of_listed (p := p) hp h (by rw [hl]; simp) hk hplace
    refine (exec_row_taken (k := .ackAlarm) rfl rfl hg row).trans ?_
    have hfound : ackFrom (some (k, place)) s.notices.alarms = before ++ after := by rw [hl, ackFrom_one hk hplace hb]
    simp only [State.acknowledge, hfound]
    rfl
  · exact exec_row_taken (k := .setThreshold) rfl rfl hg ((setThreshold_eq hp).trans (if_neg (Nat.not_lt.2 h)))
  · exact exec_row_taken (k := .setNoticePriority) rfl rfl hg
      ((setNoticePriority_eq hp).trans ((if_neg (Nat.not_lt.2 h)).trans (if_pos ((isFixed_iff k).2 hfixed))))
  · exact ⟨_, tableGet_getElem? _ 0 (noticeCode_lt hfree), exec_row_taken (k := .setNoticePriority) rfl rfl hg
      ((setNoticePriority_eq hp).trans ((if_neg (Nat.not_lt.2 h)).trans (if_neg (mt (isFixed_iff k).1 hfree))))⟩

end Sys2Proof.Machine
end

section
/-! PROOFS. Queries: the records laid out (Tables 13-1 to 13-5, 13-7) and the rows that answer them (R5, R12, R36, R64, R82, R130,
R156). -/

namespace Sys2Proof.Machine

/-! ### The envelope of a reply (Table 13-1) -/

theorem or_replyBit (b : Byte) : (b ||| 0x80#8).toNat = 128 + b.toNat % 128 := by
  have hlt := b.isLt
  have hlow (m : Nat) (h : m < 128) : m ||| 128 = 128 + m := by
    rw [Nat.or_comm]
    exact (Nat.two_pow_add_eq_or_of_lt (i := 7) h 1).symm
  rw [BitVec.toNat_or]
  show b.toNat ||| 128 = _
  by_cases h : b.toNat < 128
  · rw [hlow _ h, Nat.mod_eq_of_lt h]
  · obtain ⟨m, hm⟩ : ∃ m, b.toNat = 128 + m := ⟨b.toNat - 128, by omega⟩
    have hm' : m < 128 := by omega
    rw [hm, ← hlow m hm', Nat.or_assoc, Nat.or_self, hlow m hm']
    omega

/-- The bytes of a reply frame between the sync byte and the CRC. -/
def Reply.inner (r : Reply) : List Byte :=
  writeFields [(1, r.data.length + 1), (1, r.tag.toNat), (1, 128 + r.code.toNat % 128), (1, resultCode r.result)] ++ r.data

theorem Reply.inner_length (r : Reply) : r.inner.length = r.data.length + 4 := by
  rw [Reply.inner, List.length_append, writeFields_length, Nat.add_comm]
  rfl

theorem Reply.frame_eq (r : Reply) :
    r.frame = writeFields [(1, 0xA5)] ++ (r.inner ++ writeFields [(2, (crc16 r.inner).toNat)]) := by
  have hcode : [r.code ||| 0x80#8] = bytesOf 1 (128 + r.code.toNat % 128) := by rw [byte_eq_field, or_replyBit]
  have htag : [r.tag] = bytesOf 1 r.tag.toNat := byte_eq_field _
  have hpair : [r.tag, r.code ||| 0x80#8] = bytesOf 1 r.tag.toNat ++ bytesOf 1 (128 + r.code.toNat % 128) := by
    rw [← htag, ← hcode]
    rfl
  have hinner : bytesOf 1 (bytesOf 1 (resultCode r.result) ++ r.data).length ++ [r.tag, r.code ||| 0x80#8] ++
      (bytesOf 1 (resultCode r.result) ++ r.data) = r.inner := by
    rw [hpair, List.length_append, bytesOf_length, Nat.add_comm 1]
    simp [Reply.inner, writeFields]
  rw [Reply.frame, hinner, List.append_assoc]
  rfl

/-! ### Padded lists (Table 13-3) -/

theorem take_padded (room : Nat) (l : List Nat) :
    (l ++ List.replicate room 0).take room = (List.range room).map fun i => l.getD i 0 := by
  apply List.ext_getElem
  · simp
  · intro i h1 h2
    have hi : i < room := by simpa using h2
    rw [List.getElem_take, List.getElem_map, List.getElem_range]
    by_cases hl : i < l.length
    · rw [List.getElem_append_left hl, List.getD_eq_getElem _ _ hl]
    · rw [List.getElem_append_right (Nat.not_lt.1 hl), List.getElem_replicate, List.getD_eq_default _ _ (Nat.not_lt.1 hl)]

theorem countedBytes_eq (room : Nat) (l : List Nat) :
    countedBytes room l = writeFields ((1, l.length) :: (List.range room).map fun i => (2, l.getD i 0)) := by
  rw [countedBytes, take_padded, writeFields_cons, List.flatMap_map]
  simp [writeFields, List.flatMap_map]

/-! ### The records -/

/-- The account that a staff record shows: every field 0 (Table 13-3). -/
def noAccount : Account := { paidMinutes := 0, tariff := { bank := .a, cls := 0 }, paidCents := 0, longStay := false }

/-- A number of a visitor's account, 0 for a staff record. -/
def Band.ofAccount (b : Band) (f : Account → Nat) : Nat :=
  match b.kind with
  | .visitor a => f a
  | .staff => 0

theorem Band.flags_eq (b : Band) :
    [b.flags] = bytesOf 1 ((match b.state with
      | .cleared _ => 1
      | _ => 0) + 2 * b.ofAccount (fun a => yesNo a.longStay) + 4 * yesNo b.lastPlace.isSome) := by
  rw [Band.flags, flags_three]
  cases hs : b.state <;> cases hk : b.kind <;> simp [Band.ofAccount, hk, yesNo] <;> rfl

theorem bandBytes_eq (slot : Nat) (b : Band) :
    bandBytes slot b =
      writeFields [(2, slot), (1, bandCode b.state), (1, bandKindCode b.kind), (1, b.rank),
        (1, (match b.state with
          | .cleared _ => 1
          | _ => 0) + 2 * b.ofAccount (fun a => yesNo a.longStay) + 4 * yesNo b.lastPlace.isSome),
        (4, b.serial), (3, b.entry), (2, b.ofAccount fun a => a.paidMinutes),
        (1, b.ofAccount fun a => bankCode a.tariff.bank), (1, b.ofAccount fun a => a.tariff.cls),
        (2, b.ofAccount fun a => a.paidCents),
        (2, match b.state with
          | .owing cents => cents
          | _ => 0),
        (1, b.lockers.length), (2, b.lockers.getD 0 0), (2, b.lockers.getD 1 0), (1, b.cabin.getD 0), (1, roleCode b.role),
        (2, b.leaderSlot.getD 0), (1, b.members.length), (2, b.members.getD 0 0), (2, b.members.getD 1 0),
        (2, b.members.getD 2 0), (2, b.members.getD 3 0), (2, b.members.getD 4 0), (2, b.previous.getD 0),
        (2, b.next.getD 0),
        (3, match b.state with
          | .cleared since => since
          | _ => 0),
        (1, (placeCode (b.lastPlace.map fun l => l.place)).1), (2, (placeCode (b.lastPlace.map fun l => l.place)).2),
        (3, (b.lastPlace.map fun l => l.time).getD 0)] := by
  have haccount (f : Account → Nat) (h : f noAccount = 0) :
      f (match b.kind with
        | .visitor a => a
        | .staff => noAccount) = b.ofAccount f := by
    cases hk : b.kind <;> simp [Band.ofAccount, hk, h]
  have hlast : (match b.lastPlace with
      | some l => placeBytes (some l.place) ++ bytesOf 3 l.time
      | none => placeBytes none ++ bytesOf 3 0) =
      writeFields [(1, (placeCode (b.lastPlace.map fun l => l.place)).1),
        (2, (placeCode (b.lastPlace.map fun l => l.place)).2), (3, (b.lastPlace.map fun l => l.time).getD 0)] := by
    cases b.lastPlace <;> simp [placeBytes, writeFields]
  unfold bandBytes
  extract_lets account owed since last
  rw [show last = _ from hlast, Band.flags_eq, countedBytes_eq, countedBytes_eq,
    show account.paidMinutes = _ from haccount (fun a => a.paidMinutes) rfl,
    show bankCode account.tariff.bank = _ from haccount (fun a => bankCode a.tariff.bank) rfl,
    show account.tariff.cls = _ from haccount (fun a => a.tariff.cls) rfl,
    show account.paidCents = _ from haccount (fun a => a.paidCents) rfl]
  simp [writeFields, orZero_eq, owed, since, List.range, List.range.loop] <;> rfl

theorem State.lockerBytes_eq (s : State) (n : Nat) :
    s.lockerBytes n =
      writeFields [(1, lockerCode (s.locker n).state),
        (1, yesNo (s.locker n).fresh + 2 * yesNo (s.locker n).master + 4 * yesNo (s.locker n).release +
          8 * yesNo (s.locker n).origin.isSome + 16 * yesNo (s.zoneOf n).isNone),
        (2, (s.locker n).holder.getD 0), (4, (s.holderSerial n).getD 0), (3, (s.locker n).since),
        (1, ((s.locker n).origin.map lockerCode).getD 0), (1, doorCode (s.locker n).door), (1, latchCode (s.locker n).latch),
        (1, (s.zoneOf n).getD 0)] := by
  simp [lockerBytes, Locker.flags, flags_five, writeFields, orZero_eq]

theorem State.cabinBytes_eq (s : State) (c : Nat) :
    s.cabinBytes c =
      writeFields [(1, cabinKindCode (s.cabinKind c)), (1, cabinCode (s.cabin c).state), (2, (s.cabin c).occupant.getD 0),
        (4, (s.occupantSerial c).getD 0), (3, (s.cabin c).since), (1, (s.cabin c).stage.val),
        (1, commandCode (s.cabin c).command), (1, doorCode (s.cabin c).door), (1, latchCode (s.cabin c).latch)] := by
  simp [cabinBytes, writeFields, orZero_eq]

theorem State.zoneBytes_eq (s : State) (z : Nat) :
    s.zoneBytes z =
      writeFields [(1, z), (1, yesNo (s.zone z).present), (2, (s.zone z).first), (2, (s.zone z).count), (1, (s.zone z).rank),
        (1, yesNo (s.zone z).groupOnly), (1, zoneOrderCode (s.zone z).order), (1, yesNo (s.zoneUsed z))] := by
  simp [zoneBytes, writeFields]

theorem subjectBytes_eq (sub : Subject) :
    subjectBytes sub =
      writeFields [(1, match sub with
          | .band .. => 0
          | .places .locker _ _ => 1
          | .places .cabin _ _ => 2),
        (4, match sub with
          | .band first _ => first
          | .places _ first _ => first),
        (2, match sub with
          | .band _ count => count
          | .places _ _ final => final)] := by
  cases sub with
  | band first count => simp [subjectBytes, writeFields]
  | places kind first final => cases kind <;> simp [subjectBytes, writeFields]

theorem watchBytes_eq (w : Watch) :
    watchBytes w =
      writeFields [(1, yesNo w.enabled + 2 * yesNo w.stop + 4 * yesNo w.lastHit.isSome),
        (1, match w.subject with
          | .band .. => 0
          | .places .locker _ _ => 1
          | .places .cabin _ _ => 2),
        (4, match w.subject with
          | .band first _ => first
          | .places _ first _ => first),
        (2, match w.subject with
          | .band _ count => count
          | .places _ _ final => final),
        (1, w.mask.toNat), (1, w.priority), (1, w.hits), (1, (placeCode (w.lastHit.map fun h => h.place)).1),
        (2, (placeCode (w.lastHit.map fun h => h.place)).2), (1, (w.lastHit.map fun h => watchCode h.event).getD 0),
        (4, (w.lastHit.bind fun h => h.serial).getD 0), (3, (w.lastHit.map fun h => h.time).getD 0)] := by
  cases h : w.lastHit <;>
    simp [watchBytes, Watch.flags, flags_three, subjectBytes_eq, h, placeBytes, writeFields, orZero_eq] <;> rfl

/-! ### The module record (Table 13-7) -/

/-- The three fields of a module's position. -/
def Position.fields (q : Position) : List (Nat × Nat) :=
  [(1, latchCode q.latch), (1, doorCode q.door), (1, indicationCode q.shown)]

theorem positionCount_eq (addr : Nat) : positionCount addr = if 129 ≤ addr ∧ addr ≤ 144 then 4 else 8 := by
  simp [positionCount, isCabinModule]

theorem positionCount_le (addr : Nat) : positionCount addr ≤ 8 := by
  rw [positionCount_eq]
  split <;> omega

theorem State.moduleBytes_eq (s : State) (addr : Nat) :
    s.moduleBytes addr =
      writeFields [(1, yesNo (s.moduleSetting addr).configured + 2 * yesNo (s.moduleSetting addr).holdOnForce +
          4 * yesNo (s.module addr).held + 8 * yesNo (s.module addr).resync + 16 * yesNo (s.module addr).coldRead),
        (1, yesNo (s.module addr).silent), (1, (s.module addr).failures), (1, positionCount addr)] ++
      (((s.module addr).positions.toList.take (positionCount addr)).flatMap (fun q => writeFields q.fields) ++
      writeFields [(1, (s.field.queue.filter fun cmd => cmd.addr == addr).length),
        (1, ((s.field.exchange.filter fun x => x.addr == addr).map fun x => functionCode x.kind).getD 0),
        (1, ((s.field.exchange.filter fun x => x.addr == addr).map fun x => x.attempt).getD 0)]) := by
  have hexchange : (match s.field.exchange with
      | some x => if x.addr = addr then bytesOf 1 (functionCode x.kind) ++ bytesOf 1 x.attempt else bytesOf 2 0
      | none => bytesOf 2 0) =
      writeFields [(1, ((s.field.exchange.filter fun x => x.addr == addr).map fun x => functionCode x.kind).getD 0),
        (1, ((s.field.exchange.filter fun x => x.addr == addr).map fun x => x.attempt).getD 0)] := by
    have hzero : bytesOf 2 0 = bytesOf 1 0 ++ bytesOf 1 0 := rfl
    cases s.field.exchange with
    | none => simp [Option.filter, writeFields, hzero]
    | some x => by_cases h : x.addr = addr <;> simp [Option.filter, h, writeFields, hzero]
  have hfields : (fun q : Position => bytesOf 1 (latchCode q.latch) ++ bytesOf 1 (doorCode q.door) ++
      bytesOf 1 (indicationCode q.shown)) = fun q => writeFields q.fields := by
    funext q
    simp [Position.fields, writeFields]
  unfold moduleBytes
  extract_lets m exchange
  rw [show exchange = _ from hexchange, hfields, List.countP_eq_length_filter, Module.flags, flags_five]
  simp only [writeFields, List.flatMap_cons, List.flatMap_nil, List.append_nil, List.append_assoc]
  rfl

theorem State.findRef_slot (s : State) (n : Nat) :
    s.findRef (.slot n) =
      if 2047 < n then .error .outOfRange
      else
        match s.band n with
        | none => .error .unknownBand
        | some b => .ok (n, b) := rfl

section Rows

variable {s : State} {r : Request} {n : Nat}

theorem queryBand_eq {ref : BandRef} (hp : parseBandRef r.body = some ref) :
    queryBand r s =
      match s.findRef ref with
      | .error c => refuse c s
      | .ok (slot, b) => accept (bandBytes slot b) s := by
  simp only [queryBand, hp] <;> rfl

theorem queryLocker_eq (hp : parseNumber 2 r.body = some n) :
    queryLocker r s = if n = 0 ∨ 1024 < n then refuse .outOfRange s else accept (s.lockerBytes n) s := by
  simp [queryLocker, hp]

theorem queryCabin_eq (hp : parseNumber 1 r.body = some n) :
    queryCabin r s = if n = 0 ∨ 64 < n then refuse .outOfRange s else accept (s.cabinBytes n) s := by
  simp [queryCabin, hp]

theorem queryZone_eq (hp : parseNumber 1 r.body = some n) :
    queryZone r s = if 15 < n then refuse .outOfRange s else accept (s.zoneBytes n) s := by
  simp [queryZone, hp]

theorem queryWatch_eq (hp : parseNumber 1 r.body = some n) :
    queryWatch r s = if 3 < n then refuse .outOfRange s else accept (watchBytes (s.watch n)) s := by
  simp [queryWatch, hp]

theorem queryModule_eq (hp : parseNumber 1 r.body = some n) :
    queryModule r s = if n = 0 ∨ 144 < n then refuse .outOfRange s else accept (s.moduleBytes n) s := by
  simp [queryModule, hp]

end Rows

/-! ### The module record's parts -/

section ModuleRecord

variable (s : State) (addr : Nat)

/-- The positions that the module's record lists. -/
def State.listed (s : State) (addr : Nat) : List Position :=
  (s.module addr).positions.toList.take (positionCount addr)

theorem State.listed_length : (s.listed addr).length = positionCount addr := by
  have := positionCount_le addr
  simp [listed]
  omega

theorem State.listed_getElem? {i : Nat} (h : i < positionCount addr) :
    (s.listed addr)[i]? = some (tableGet (s.module addr).positions Position.blank i) := by
  have hi : i < 8 := Nat.lt_of_lt_of_le h (positionCount_le addr)
  rw [listed, List.getElem?_take_of_lt h]
  simp [tableGet, hi]

theorem Position.fields_length (q : Position) : (writeFields q.fields).length = 3 := writeFields_length _

theorem State.listed_bytes_length :
    ((s.listed addr).flatMap fun q => writeFields q.fields).length = 3 * positionCount addr := by
  rw [length_flatMap_width Position.fields_length, listed_length]

theorem State.moduleBytes_position {i : Nat} (h : i < positionCount addr) :
    ∃ rest, (s.moduleBytes addr).drop (4 + 3 * i) =
      writeFields (tableGet (s.module addr).positions Position.blank i).fields ++ rest := by
  obtain ⟨back, hback⟩ := drop_flatMap_width Position.fields_length (s.listed_getElem? addr h)
  have hlen : 3 * i ≤ ((s.listed addr).flatMap fun q => writeFields q.fields).length := by
    rw [s.listed_bytes_length]
    omega
  rw [State.listed] at hback hlen
  constructor
  rw [s.moduleBytes_eq, ← List.drop_drop, List.drop_left' (i := 4) (by simp [writeFields_length]),
    List.drop_append_of_le_length hlen, hback, List.append_assoc]

end ModuleRecord

/-- Settles O17: the codes by evaluation, the records by their fields, the rows by what their number finds. -/
theorem queriesReportAndChangeNothing : Obligations.QueriesReportAndChangeNothing := by
  unfold Obligations.QueriesReportAndChangeNothing
  refine ⟨?codes, fun r hr => ?frame, fun slot b => ?band, fun n s => ?locker, fun c s => ?cabin, fun z s => ?zone,
    fun w => ?watch, fun addr s => ?module, fun n s => ?found, fun p r n s => ?refusals, fun p r s => ?answers⟩
  case codes =>
    exact ⟨rfl, rfl, rfl, rfl, rfl, rfl, rfl, rfl, rfl, rfl, rfl, rfl, fun _ => rfl, fun _ => rfl, fun _ => rfl⟩
  case frame =>
    intro f
    have hf : f = _ := r.frame_eq
    have hinner : (f.drop 1).take (r.data.length + 4) = r.inner := by
      rw [hf, List.drop_left' (i := 1) (by simp [writeFields_length]), ← r.inner_length, List.take_left]
    have hhead := holdsRows_head (d := f) (fs := [(1, 0xA5), (1, r.data.length + 1), (1, r.tag.toNat),
      (1, 128 + r.code.toNat % 128), (1, resultCode r.result)])
      (back := r.data ++ writeFields [(2, (crc16 r.inner).toNat)])
      (by rw [hf, Reply.inner, List.append_assoc, ← List.append_assoc, ← writeFields_append]; rfl) rfl
    have htail := holdsRows_behind (d := f) (front := writeFields [(1, 0xA5)] ++ r.inner) (back := [])
      (fs := [(2, (crc16 r.inner).toNat)]) (off := 5 + r.data.length) (by rw [hf, List.append_assoc, List.append_nil])
      (by rw [List.length_append, writeFields_length, r.inner_length]; simp; omega) rfl
    refine ⟨?_, ?_, ?_⟩
    · rw [hf]
      simp only [List.length_append, writeFields_length, r.inner_length]
      simp
      omega
    · rw [hf, Reply.inner, List.append_assoc, ← List.append_assoc, List.drop_left' (i := 5) (by
        simp [writeFields_length]), List.take_left]
    · rw [hinner]
      exact holdsRows_append hhead htail
  case band =>
    intro d account last
    refine ⟨(length_of_fields (bandBytes_eq slot b)).trans (by simp), holdsRows_of_fields (bandBytes_eq slot b) ?_⟩
    simp only [rowsFrom]
    rfl
  case locker =>
    intro l d
    have hserial : ((l.holder.bind s.band).map fun b => b.serial) = s.holderSerial n := Option.map_bind
    rw [hserial]
    exact ⟨(length_of_fields (s.lockerBytes_eq n)).trans (by simp), holdsRows_of_fields (s.lockerBytes_eq n) rfl⟩
  case cabin =>
    intro k d
    have hserial : ((k.occupant.bind s.band).map fun b => b.serial) = s.occupantSerial c := Option.map_bind
    rw [hserial]
    exact ⟨(length_of_fields (s.cabinBytes_eq c)).trans (by simp), holdsRows_of_fields (s.cabinBytes_eq c) rfl⟩
  case zone =>
    exact ⟨(length_of_fields (s.zoneBytes_eq z)).trans (by simp), holdsRows_of_fields (s.zoneBytes_eq z) rfl⟩
  case watch =>
    exact ⟨(length_of_fields (watchBytes_eq w)).trans (by simp), holdsRows_of_fields (watchBytes_eq w) rfl⟩
  case module =>
    intro m d count mine function
    have hcount : count = positionCount addr := (positionCount_eq addr).symm
    clear_value count
    subst hcount
    have hd : d = _ := s.moduleBytes_eq addr
    refine ⟨?_, holdsRows_append (holdsRows_head hd rfl) ?_, fun i hi => ?_⟩
    · rw [hd]
      have hbytes := s.listed_bytes_length addr
      rw [State.listed] at hbytes
      simp only [List.length_append, writeFields_length, hbytes]
      simp
      omega
    · rw [← List.append_assoc, ← List.append_nil (writeFields [(1, List.length _), (1, _), (1, _)])] at hd
      refine holdsRows_behind (off := 4 + 3 * positionCount addr) hd ?_ ?_
      · rw [List.length_append, writeFields_length]
        exact congrArg (4 + ·) (s.listed_bytes_length addr)
      · have h5 : 5 + 3 * positionCount addr = 4 + 3 * positionCount addr + 1 := by omega
        have h6 : 6 + 3 * positionCount addr = 4 + 3 * positionCount addr + 1 + 1 := by omega
        rw [h5, h6]
        rfl
    · intro q
      obtain ⟨rest, hrest⟩ := s.moduleBytes_position addr hi
      exact holdsRows_head hrest rfl
  case found =>
    refine ⟨rfl, fun h => if_pos h, fun h => ?_, fun b h hb => ?_⟩
    · obtain rfl | ⟨hn, hb⟩ := h
      · rfl
      · rw [s.findRef_slot, if_neg (Nat.not_lt.2 hn), hb]
    · rw [s.findRef_slot, if_neg (Nat.not_lt.2 h), hb]
  case refusals =>
    refine ⟨fun ref c hg hp hf => ?_, fun hg hp hn => ?_, fun hg hp hn => ?_, fun hg hp hn => ?_, fun hg hp hn => ?_,
      fun hg hp hn => ?_⟩
    · have row := queryBand_eq (s := s.granted (.port p)) hp
      rw [State.findRef_granted, hf] at row
      exact exec_row_granted (k := .queryBand) rfl rfl hg row
    · exact exec_row_granted (k := .queryLocker) rfl rfl hg ((queryLocker_eq hp).trans (if_pos hn))
    · exact exec_row_granted (k := .queryCabin) rfl rfl hg ((queryCabin_eq hp).trans (if_pos hn))
    · exact exec_row_granted (k := .queryZone) rfl rfl hg ((queryZone_eq hp).trans (if_pos hn))
    · exact exec_row_taken (k := .queryWatch) rfl rfl hg ((queryWatch_eq hp).trans (if_pos hn))
    · exact exec_row_taken (k := .queryModule) rfl rfl hg ((queryModule_eq hp).trans (if_pos hn))
  case answers =>
    refine ⟨fun ref slot b hg hp hf => ?_, fun n hg hp h1 h2 => ?_, fun c hg hp h1 h2 => ?_, fun z hg hp h => ?_,
      fun i hg hp h => ?_, fun a hg hp h1 h2 => ?_⟩
    · have row := queryBand_eq (s := s.granted (.port p)) hp
      rw [State.findRef_granted, hf] at row
      exact exec_row_granted (k := .queryBand) rfl rfl hg row
    · have hin : ¬(n = 0 ∨ 1024 < n) := by omega
      exact exec_row_granted (k := .queryLocker) rfl rfl hg ((queryLocker_eq (s := s.granted (.port p)) hp).trans (if_neg hin))
    · have hin : ¬(c = 0 ∨ 64 < c) := by omega
      exact exec_row_granted (k := .queryCabin) rfl rfl hg ((queryCabin_eq (s := s.granted (.port p)) hp).trans (if_neg hin))
    · exact exec_row_granted (k := .queryZone) rfl rfl hg
        ((queryZone_eq (s := s.granted (.port p)) hp).trans (if_neg (Nat.not_lt.2 h)))
    · exact exec_row_taken (k := .queryWatch) rfl rfl hg ((queryWatch_eq hp).trans (if_neg (Nat.not_lt.2 h)))
    · have hin : ¬(a = 0 ∨ 144 < a) := by omega
      exact exec_row_taken (k := .queryModule) rfl rfl hg ((queryModule_eq hp).trans (if_neg hin))

end Sys2Proof.Machine
end

section
/-! PROOFS. The notice unit (R159 to R171): a notice taken, its copies in the queues and its place in the alarm list; the
escalation of alarms and the ALARM output. -/

namespace Sys2Proof.Machine

/-! ### Where a notice joins a queue (R163, R164) -/

section Queue

variable {n : Notice} {higher lower : List Notice}

theorem insertNotice_between (hh : ∀ m ∈ higher, n.priority ≤ m.priority) (hl : ∀ m ∈ lower, m.priority < n.priority) :
    insertNotice n (higher ++ lower) = higher ++ n :: lower := by
  have hin : ∀ m ∈ higher, decide (n.priority ≤ m.priority) = true := fun m hm => decide_eq_true (hh m hm)
  unfold insertNotice
  rw [List.takeWhile_append_of_pos hin, List.dropWhile_append_of_pos hin]
  cases lower with
  | nil => simp
  | cons m ms =>
    have hout : ¬n.priority ≤ m.priority := Nat.not_le.2 (hl m List.mem_cons_self)
    simp [List.takeWhile_cons, List.dropWhile_cons, hout]

theorem lowestPriority_append (q : List Notice) (m : Notice) : lowestPriority (q ++ [m]) = m.priority := by
  simp [lowestPriority]

theorem queueAfter_room (hroom : (higher ++ lower).length < 16) (hh : ∀ m ∈ higher, n.priority ≤ m.priority)
    (hl : ∀ m ∈ lower, m.priority < n.priority) : queueAfter n (higher ++ lower) = higher ++ n :: lower :=
  (if_pos hroom).trans (insertNotice_between hh hl)

theorem queueAfter_full_lower (hfull : (higher ++ lower).length = 16) (hne : lower ≠ [])
    (hh : ∀ m ∈ higher, n.priority ≤ m.priority) (hl : ∀ m ∈ lower, m.priority < n.priority) :
    queueAfter n (higher ++ lower) = higher ++ n :: lower.dropLast := by
  obtain ⟨ms, m, rfl⟩ : ∃ ms m, lower = ms ++ [m] := ⟨_, _, (List.dropLast_append_getLast hne).symm⟩
  have hlow : lowestPriority (higher ++ (ms ++ [m])) < n.priority := by
    rw [← List.append_assoc, lowestPriority_append]
    exact hl m (by simp)
  refine (if_neg (by simp [hfull, Config.noticeCapacity])).trans ((if_pos hlow).trans ?_)
  rw [← List.append_assoc, List.dropLast_concat, List.dropLast_concat]
  exact insertNotice_between hh fun x hx => hl x (List.mem_append_left _ hx)

theorem queueAfter_full_none (hfull : higher.length = 16) (hh : ∀ m ∈ higher, n.priority ≤ m.priority) :
    queueAfter n higher = higher := by
  have hne : higher ≠ [] := by rintro rfl; cases hfull
  obtain ⟨ms, m, rfl⟩ : ∃ ms m, higher = ms ++ [m] := ⟨_, _, (List.dropLast_append_getLast hne).symm⟩
  refine (if_neg (by simp [hfull, Config.noticeCapacity])).trans (if_neg ?_)
  rw [lowestPriority_append]
  exact Nat.not_lt.2 (hh m (by simp))

end Queue

/-! ### The copies of a notice (R162, R164) -/

namespace State

variable {s t : State} {m : Notice} {p q : PortId}

theorem routeNotice_out (h : s.routedTo p m = false) : routeNotice m s p = s := by
  unfold routeNotice
  rw [if_neg (ne_true_of_eq_false h)]

theorem routeNotice_in (h : s.routedTo p m = true) :
    (routeNotice m s p).queue p = queueAfter m (s.queue p) ∧
      (routeNotice m s p).notices.overflow.get p = (s.notices.overflow.get p || decide (16 ≤ (s.queue p).length)) := by
  unfold routeNotice
  dsimp only
  rw [if_pos h]
  split
  · rename_i hroom
    have hroom : ¬16 ≤ (s.queue p).length := Nat.not_le.2 hroom
    simp [hroom]
  · rename_i hfull
    have hfull : 16 ≤ (s.queue p).length := Nat.not_lt.1 hfull
    exact ⟨(setOverflow_queue _ _ _ _).trans (setQueue_queue_self _ _ _), by simp [hfull, setOverflow]⟩

theorem routeNotice_other (h : p ≠ q) :
    (routeNotice m s p).queue q = s.queue q ∧
      (routeNotice m s p).notices.overflow.get q = s.notices.overflow.get q := by
  unfold routeNotice
  dsimp only
  split
  · split
    · exact ⟨setQueue_queue_ne _ _ h, rfl⟩
    · exact ⟨(setOverflow_queue _ _ _ _).trans (setQueue_queue_ne _ _ h), PerPort.get_set_ne _ _ h⟩
  · exact ⟨rfl, rfl⟩

theorem routeNotice_listed :
    (routeNotice m s p).notices.alarms = s.notices.alarms ∧
      (routeNotice m s p).notices.alarmOverflow = s.notices.alarmOverflow ∧
      (routeNotice m s p).notices.raised = s.notices.raised ∧ (routeNotice m s p).undo = s.undo ∧
      (routeNotice m s p).settings = s.settings := by
  unfold routeNotice
  dsimp only
  split
  · split <;> exact ⟨rfl, rfl, rfl, rfl, rfl⟩
  · exact ⟨rfl, rfl, rfl, rfl, rfl⟩

theorem routedTo_congr (h : t.settings = s.settings) : t.routedTo p m = s.routedTo p m := by
  have hset : t.portPermitted p = s.portPermitted p := by cases p <;> simp [portPermitted, h]
  rw [routedTo, hset, h]
  rfl

/-- Every port is routed its own copy, and the other ports' copies leave its queue as it stands. -/
theorem routeNotice_all (s : State) (m : Notice) (p : PortId) :
    let t := [PortId.cp0, .cp1, .cp2].foldl (routeNotice m) s
    (s.routedTo p m = false → t.queue p = s.queue p ∧ t.notices.overflow.get p = s.notices.overflow.get p) ∧
      (s.routedTo p m = true →
        t.queue p = queueAfter m (s.queue p) ∧
          t.notices.overflow.get p = (s.notices.overflow.get p || decide (16 ≤ (s.queue p).length))) := by
  intro t
  have own (u : State) (h : u.queue p = s.queue p ∧ u.notices.overflow.get p = s.notices.overflow.get p)
      (hset : u.settings = s.settings) :
      (s.routedTo p m = false → (routeNotice m u p).queue p = s.queue p ∧
          (routeNotice m u p).notices.overflow.get p = s.notices.overflow.get p) ∧
        (s.routedTo p m = true → (routeNotice m u p).queue p = queueAfter m (s.queue p) ∧
          (routeNotice m u p).notices.overflow.get p =
            (s.notices.overflow.get p || decide (16 ≤ (s.queue p).length))) := by
    rw [← h.1, ← h.2, ← routedTo_congr hset]
    exact ⟨fun hr => by rw [routeNotice_out hr]; exact ⟨rfl, rfl⟩, routeNotice_in⟩
  have past {u v : State} {r : PortId} (hr : r ≠ p)
      (h : u.queue p = v.queue p ∧ u.notices.overflow.get p = v.notices.overflow.get p) :
      (routeNotice m u r).queue p = v.queue p ∧ (routeNotice m u r).notices.overflow.get p = v.notices.overflow.get p :=
    ⟨(routeNotice_other hr).1.trans h.1, (routeNotice_other hr).2.trans h.2⟩
  have kept (u : State) (r : PortId) : (routeNotice m u r).settings = u.settings := routeNotice_listed.2.2.2.2
  cases p with
  | cp0 =>
    have h := own s ⟨rfl, rfl⟩ rfl
    have after := past (r := .cp2) nofun (past (r := .cp1) nofun (u := routeNotice m s .cp0) ⟨rfl, rfl⟩)
    exact ⟨fun hr => ⟨after.1.trans (h.1 hr).1, after.2.trans (h.1 hr).2⟩,
      fun hr => ⟨after.1.trans (h.2 hr).1, after.2.trans (h.2 hr).2⟩⟩
  | cp1 =>
    have h := own (routeNotice m s .cp0) (past nofun ⟨rfl, rfl⟩) (kept _ _)
    have after := past (r := .cp2) nofun (u := routeNotice m (routeNotice m s .cp0) .cp1) ⟨rfl, rfl⟩
    exact ⟨fun hr => ⟨after.1.trans (h.1 hr).1, after.2.trans (h.1 hr).2⟩,
      fun hr => ⟨after.1.trans (h.2 hr).1, after.2.trans (h.2 hr).2⟩⟩
  | cp2 =>
    exact own (routeNotice m (routeNotice m s .cp0) .cp1) (past nofun (past nofun ⟨rfl, rfl⟩))
      ((kept _ _).trans (kept _ _))

theorem routeNotice_all_listed (s : State) (m : Notice) :
    let t := [PortId.cp0, .cp1, .cp2].foldl (routeNotice m) s
    t.notices.alarms = s.notices.alarms ∧ t.notices.alarmOverflow = s.notices.alarmOverflow ∧
      t.notices.raised = s.notices.raised ∧ t.undo = s.undo := by
  have one (u : State) (r : PortId) := routeNotice_listed (m := m) (s := u) (p := r)
  obtain ⟨a0, o0, r0, u0, -⟩ := one s .cp0
  obtain ⟨a1, o1, r1, u1, -⟩ := one (routeNotice m s .cp0) .cp1
  obtain ⟨a2, o2, r2, u2, -⟩ := one (routeNotice m (routeNotice m s .cp0) .cp1) .cp2
  exact ⟨a2.trans (a1.trans a0), o2.trans (o1.trans o0), r2.trans (r1.trans r0), u2.trans (u1.trans u0)⟩

end State

/-! ### A notice entered in an alarm list (R167) -/

section Entered

variable {n : Raised} {e : Nat} {l : List Alarm} {full : Bool}

theorem alarmListed_iff :
    (l.any fun r => r.kind == n.kind && r.place == n.place) = true ↔ ∃ a ∈ l, a.kind = n.kind ∧ a.place = n.place := by
  simp [List.any_eq_true]

theorem alarmEntered_listed (h : ∃ a ∈ l, a.kind = n.kind ∧ a.place = n.place) :
    alarmEntered n e (l, full) = (l, full) := if_pos (alarmListed_iff.2 h)

theorem not_alarmListed (h : ∀ a ∈ l, ¬(a.kind = n.kind ∧ a.place = n.place)) :
    ¬(l.any fun r => r.kind == n.kind && r.place == n.place) = true := fun hl => by
  obtain ⟨a, ha, hsame⟩ := alarmListed_iff.1 hl
  exact h a ha hsame

theorem alarmEntered_room (h : ∀ a ∈ l, ¬(a.kind = n.kind ∧ a.place = n.place)) (hroom : l.length < 8) :
    alarmEntered n e (l, full) =
      (l ++ [{ kind := n.kind, place := n.place, raised := n.time, countdown := e, escalated := false }], full) :=
  (if_neg (not_alarmListed h)).trans (if_pos hroom)

theorem alarmEntered_full (h : ∀ a ∈ l, ¬(a.kind = n.kind ∧ a.place = n.place)) (hfull : 8 ≤ l.length) :
    alarmEntered n e (l, full) = (l, true) := (if_neg (not_alarmListed h)).trans (if_neg (Nat.not_lt.2 hfull))

end Entered

namespace State

theorem exec_noticeTaken {s : State} {n : Raised} {rest : List Raised} (h : s.notices.raised = n :: rest)
    (hr : s.running = true) : exec .noticeTaken s = .next ({ s with notices.raised := rest }.takeNotice n) := by
  change execNoticeTaken s = _
  unfold execNoticeTaken
  rw [h]
  exact if_pos hr

theorem takeNotice_plain {s : State} {n : Raised} (h : isAlarm n.kind = false) :
    s.takeNotice n = [PortId.cp0, .cp1, .cp2].foldl (routeNotice { body := n, priority := s.priorityOf n }) s := by
  unfold takeNotice
  rw [if_neg (ne_true_of_eq_false h)]

theorem takeNotice_alarm {s : State} {n : Raised} (h : isAlarm n.kind = true) :
    s.takeNotice n =
      [PortId.cp0, .cp1, .cp2].foldl (routeNotice { body := n, priority := s.priorityOf n }) (s.enterAlarm n) := by
  unfold takeNotice
  rw [if_pos h]

end State

theorem isAlarm_iff (k : NoticeKind) :
    isAlarm k = true ↔ k = .lockerForced ∨ k = .cabinForced ∨ k = .cabinOverholdLong := by
  cases k <;> decide

/-- Settles O35: a notice that is an alarm is entered first, then each port is routed its copy. -/
theorem noticeTakenIsListedRoutedAndQueued : Obligations.NoticeTakenIsListedRoutedAndQueued := by
  unfold Obligations.NoticeTakenIsListedRoutedAndQueued
  refine ⟨fun n rest s h hr => ?_, fun n higher lower hh hl => ⟨fun h => queueAfter_room h hh hl,
    fun h hne => queueAfter_full_lower h hne hh hl, fun h hnil => ?_⟩, isAlarm_iff, fun p n s => ?_, fun n s => ⟨?_, ?_⟩⟩
  · let u : State := { s with notices.raised := rest }
    refine ⟨_, State.exec_noticeTaken h hr, ?_, ?_, ?_, ?_, ?_⟩
    · cases ha : isAlarm n.kind with
      | false => rw [State.takeNotice_plain ha]; exact (u.routeNotice_all_listed _).2.2.1
      | true => rw [State.takeNotice_alarm ha]; exact ((u.enterAlarm n).routeNotice_all_listed _).2.2.1
    · intro ha
      obtain ⟨h1, h2, -, h4⟩ := u.routeNotice_all_listed { body := n, priority := s.priorityOf n }
      rw [State.takeNotice_plain ha]
      exact ⟨h1, h2, h4⟩
    · intro ha entered
      obtain ⟨h1, h2, -, h4⟩ := (u.enterAlarm n).routeNotice_all_listed { body := n, priority := s.priorityOf n }
      have hentered (l : List Alarm) (full : Bool) : entered l full
          (alarmEntered n s.settings.windows.escalation (l, full)).1
          (alarmEntered n s.settings.windows.escalation (l, full)).2 :=
        ⟨fun hl => by rw [alarmEntered_listed hl]; exact ⟨rfl, rfl⟩, fun hl =>
          ⟨fun hroom => by rw [alarmEntered_room hl hroom]; exact ⟨rfl, rfl⟩,
            fun hfull => by rw [alarmEntered_full hl hfull]; exact ⟨rfl, rfl⟩⟩⟩
      rw [State.takeNotice_alarm ha]
      refine ⟨h1 ▸ h2 ▸ hentered _ _, h4 ▸ List.length_map _, fun i x v hx hv => ?_⟩
      have hv : (u.enterAlarm n).undo[i]? = some v := h4 ▸ hv
      have hmap : (u.enterAlarm n).undo[i]? = _ := List.getElem?_map
      have hx' : u.undo[i]? = some x := hx
      rw [hv, hx'] at hmap
      have hmap := Option.some.inj hmap
      cases hb : x.before with
      | alarms which l full =>
        simp only [hb] at hmap
        exact ⟨_, _, hmap, hentered l full⟩
      | _ => simpa only [hb] using hmap
    · intro p record
      cases ha : isAlarm n.kind with
      | false => rw [State.takeNotice_plain ha]; exact u.routeNotice_all record p
      | true => rw [State.takeNotice_alarm ha]; exact (u.enterAlarm n).routeNotice_all record p
    · exact u.takeNotice_frame n
  · subst hnil
    rw [List.append_nil] at h ⊢
    exact queueAfter_full_none h hh
  · have hcode : kindCode .readNotice - 1 = 26 := rfl
    simp [State.routedTo, hcode]
    tauto
  · intro h hn
    simp [State.priorityOf, hn]
  · refine fun hn => ⟨fun ha => by simp [State.priorityOf, hn, ha], fun ha hw => ?_⟩
    have hk : n.kind ∉ [.watchHit, .lockerForced, .cabinForced, .cabinOverholdLong] := by
      have := mt (isAlarm_iff n.kind).2 (ne_true_of_eq_false ha)
      simp only [List.mem_cons, List.not_mem_nil, or_false]
      tauto
    have hp : s.priorityOf n = tableGet s.settings.priorities 0 (noticeCode n.kind - 1) := by
      simp [State.priorityOf, hn, ha]
    rw [hp]
    exact tableGet_getElem? _ 0 (noticeCode_lt hk)

end Sys2Proof.Machine
end

section
/-! PROOFS. The escalation of alarms and the ALARM output (R167 to R171, R185). -/

namespace Sys2Proof.Machine

/-- One record at an escalation tick, without its cases: at a countdown of 1 or less it is escalated. -/
theorem Alarm.tick_eq (a : Alarm) :
    a.tick = if a.escalated then a else { a with countdown := a.countdown - 1, escalated := decide (a.countdown ≤ 1) } := by
  obtain ⟨kind, place, raised, countdown, escalated⟩ := a
  unfold Alarm.tick
  cases escalated with
  | true => rfl
  | false =>
    by_cases h : countdown ≤ 1
    · have hz : countdown - 1 = 0 := by omega
      simp [h, hz]
    · simp [h]

namespace State

variable {s t : State}

theorem escalationTick_eq (s : State) : s.escalationTick =
    { s with
      notices.alarms := s.notices.alarms.map Alarm.tick,
      undo := s.undo.map fun u =>
        match u.before with
        | .alarms which l full => { port := u.port, before := .alarms which (l.map Alarm.tick) full }
        | _ => u } := rfl

theorem escalationDue_iff (s : State) :
    s.escalationDue = true ↔ ∃ a ∈ s.notices.alarms, a.escalated = false ∧ a.countdown ≤ 1 := by
  simp [escalationDue, List.any_eq_true]

theorem alarmLine_iff (s : State) :
    s.alarmLine = true ↔
      s.running = true ∧ ((∃ a ∈ s.notices.alarms, a.escalated = true) ∨ s.notices.alarmOverflow = true) := by
  simp [alarmLine, List.any_eq_true]

/-- The ALARM output depends on the supply, the alarm list and its overflow flag alone. -/
theorem alarmLine_congr (hs : t.supply = s.supply) (ha : t.notices.alarms = s.notices.alarms)
    (ho : t.notices.alarmOverflow = s.notices.alarmOverflow) : t.alarmLine = s.alarmLine := by
  unfold alarmLine running
  rw [hs, ha, ho]

theorem answered_alarmLine (s : State) (p : PortId) (r : Request) (c : ResultCode) (d : List Byte) :
    (s.answered p r c d).alarmLine = s.alarmLine := by
  rw [answered_frame]
  exact alarmLine_congr rfl rfl rfl

/-- The ALARM output with one port's acknowledgement written. -/
theorem acknowledge_alarmLine (hr : s.running = true) (p : PortId) (which : Option (NoticeKind × Place)) :
    (s.acknowledge p which).alarmLine = true ↔
      (∃ x ∈ ackFrom which s.notices.alarms, x.escalated = true) ∨
        (s.notices.alarmOverflow = true ∧ ackFrom which s.notices.alarms ≠ []) := by
  rw [alarmLine_iff]
  simp [acknowledge]
  exact fun _ => hr

end State

/-- Settles O36: the tick written over the list and over what each ACK_ALARM found, and the ALARM output by what it reads. -/
theorem escalationCountsDown : Obligations.EscalationCountsDown := by
  unfold Obligations.EscalationCountsDown
  refine ⟨fun s hr => ?_, fun s => ⟨s.alarmLine_iff, fun hr => ⟨?_, fun c hc => ?_⟩⟩, fun n rest s h hr ha hl hfull => ?_,
    fun p r s hg => ⟨fun hp => ?_, fun k n place before a after hp hplace hlist hk ha hb => ?_⟩⟩
  · intro ticked t
    have hticked (l : List Alarm) : l.map Alarm.tick = ticked l := List.map_congr_left fun a _ => a.tick_eq
    have htick : s.escalationTick = t := by
      rw [State.escalationTick_eq]
      simp only [hticked]
      rfl
    refine ⟨?_, fun hdue => ⟨?_, ?_⟩⟩
    · change Host.Outcome.next (if s.running then s.escalationTick else s) = _
      rw [if_pos hr, htick]
    · change Host.Outcome.next (if s.running && s.escalationDue then s.escalationTick else s) = _
      rw [hr, s.escalationDue_iff.2 hdue, Bool.and_self, if_pos rfl, htick]
    · obtain ⟨a, ha, hne, hone⟩ := hdue
      refine (State.alarmLine_iff t).2 ⟨hr, .inl ⟨_, List.mem_map_of_mem ha, ?_⟩⟩
      simp [hne, hone]
  · simp [State.alarmLine, hr]
  · simp only [List.mem_cons, List.not_mem_nil, or_false] at hc
    obtain rfl | rfl | rfl := hc
    · exact congrArg Host.Outcome.next (if_neg (ne_true_of_eq_false hr))
    · exact congrArg Host.Outcome.next (if_neg (by simp [hr]))
    · change execNoticeTaken s = _
      unfold execNoticeTaken
      rw [hr]
      split <;> rfl
  · let u : State := { s with notices.raised := rest }
    refine ⟨_, State.exec_noticeTaken h hr, ?_⟩
    have hframe := u.takeNotice_frame n
    obtain ⟨-, ho, -, -⟩ := (u.enterAlarm n).routeNotice_all_listed { body := n, priority := s.priorityOf n }
    refine (State.alarmLine_iff _).2 ⟨?_, .inr ?_⟩
    · rw [hframe]
      exact hr
    · rw [State.takeNotice_alarm ha]
      refine ho.trans ?_
      exact congrArg Prod.snd (alarmEntered_full (full := s.notices.alarmOverflow) hl hfull)
  · have row : ackAlarm p r s = accept [] (s.acknowledge p none) := by simp [ackAlarm, hp]
    refine ⟨_, exec_row_taken (k := .ackAlarm) rfl rfl hg row, ?_⟩
    rw [State.answered_alarmLine, ← Bool.not_eq_true, State.acknowledge_alarmLine (hg.2)]
    simp [ackFrom]
  · have row := ackAlarm_of_listed (p := p) (s := s) hp hplace (by rw [hlist]; simp) hk ha
    refine ⟨_, exec_row_taken (k := .ackAlarm) rfl rfl hg row, ?_⟩
    rw [State.answered_alarmLine, State.acknowledge_alarmLine (hg.2), hlist, ackFrom_one hk ha hb]

end Sys2Proof.Machine
end

section
/-! PROOFS. The service hold (R119, R120, R129, R185): the held flag, the item that becomes the waiting item, and a PRESENT that
met a held module. -/

namespace Sys2Proof.Machine

namespace State

variable {s t : State}

/-! ### What matching an event against the watches may change (R154) -/

theorem matchSlot_frame (place : Place) (e : WatchEvent) (n : Option Nat) (s : State) (i : Nat) :
    matchSlot place e n s i =
      { s with watches := (matchSlot place e n s i).watches,
               notices.raised := (matchSlot place e n s i).notices.raised } := by
  unfold matchSlot
  dsimp only
  split <;> rfl

theorem watchEvent_frame (s : State) (place : Place) (e : WatchEvent) (n : Option Nat) :
    s.watchEvent place e n =
      { s with watches := (s.watchEvent place e n).watches,
               notices.raised := (s.watchEvent place e n).notices.raised } := by
  have slot (t : State) (i : Nat) := matchSlot_frame place e n t i
  unfold watchEvent
  dsimp only [List.foldl]
  rw [slot _ 3, slot _ 2, slot _ 1, slot _ 0]

/-! ### The held flag -/

/-- What is done with once a module's held flag has been written for good (R185). -/
theorem supersede_held (s : State) (a : Nat) (h : Bool) : s.supersede (.held a h) =
    { s with undo := s.undo.filter fun u =>
        match u.before with
        | .held b _ => a != b
        | _ => true } := by
  unfold supersede
  congr 1
  refine List.filter_congr fun u _ => ?_
  cases u.before <;> rfl

theorem holdOnForce_eq (s : State) (a : Nat) : s.holdOnForce a =
    if (s.moduleSetting a).holdOnForce = true then
      { s.setModule a { s.module a with held := true } with
        undo := s.undo.filter fun u =>
          match u.before with
          | .held b _ => a != b
          | _ => true }
    else s := by
  unfold holdOnForce
  split
  · rw [supersede_held, setModule_undo]
  · rfl

theorem holdOnForce_held {a : Nat} (ha : 1 ≤ a ∧ a ≤ 144) (h : (s.moduleSetting a).holdOnForce = true) :
    ((s.holdOnForce a).module a).held = true := by
  unfold holdOnForce
  rw [if_pos h]
  exact congrArg Module.held (setModule_module_self s _ ha)

theorem setHeld_eq {p : PortId} {r : Request} {a : Nat} (held : Bool) (h : parseNumber 1 r.body = some a) :
    setHeld held p r s =
      if a = 0 ∨ 144 < a then refuse .outOfRange s
      else if s.configured a = true then
        accept [] { s.setModule a { s.module a with held := held } with
          undo := { port := p, before := .held a (s.module a).held } :: s.undo }
      else refuse .wrongState s := by
  unfold setHeld
  rw [h]
  have hmodule : (s.remember p (.held a (s.module a).held)).setModule a { s.module a with held := held } =
      { s.setModule a { s.module a with held := held } with
        undo := { port := p, before := .held a (s.module a).held } :: s.undo } := by
    unfold setModule
    split <;> rfl
  by_cases hr : a = 0 ∨ 144 < a
  · simp [hr]
  · have hr' : ¬(decide (a = 0) || decide (144 < a)) = true := by simpa using hr
    dsimp only
    rw [if_neg hr', if_neg hr]
    cases hc : s.configured a with
    | false => rfl
    | true => exact congrArg (accept []) hmodule

/-! ### The item that becomes the waiting item (R119, R120) -/

theorem setModule_handover (s : State) (items : List HandItem) (a : Nat) (m : Module) :
    ({ s with field.handover := items } : State).setModule a m = { s.setModule a m with field.handover := items } := by
  unfold setModule
  split <;> rfl

theorem updPosition_handover (s : State) (items : List HandItem) (a pos : Nat) (f : Position → Position) :
    ({ s with field.handover := items } : State).updPosition a pos f =
      { s.updPosition a pos f with field.handover := items } := s.setModule_handover items a _

theorem holdOnForce_handover (s : State) (a : Nat) : (s.holdOnForce a).field.handover = s.field.handover := by
  unfold holdOnForce
  split
  · simp [supersede]
  · rfl

/-- A PRESENT at the head is marked as its module is held at this moment (R120). -/
theorem meetHead_present (s : State) {addr pos serial : Nat} {rest : List HandItem}
    (h : s.field.handover = .event addr (.present pos serial) :: rest) :
    s.meetHead = { s with field.waitingHeld := (s.module addr).held } := by
  unfold meetHead
  rw [h]

theorem popHead_present (s : State) {first : HandItem} {addr pos serial : Nat} {rest : List HandItem}
    (h : s.field.handover = first :: .event addr (.present pos serial) :: rest) :
    s.popHead = { s with field.handover := .event addr (.present pos serial) :: rest,
                         field.waitingHeld := (s.module addr).held } := by
  unfold popHead
  rw [h]
  exact meetHead_present _ rfl

/-- A marked PRESENT waits for no grant, so its row leaves the state as it stands. -/
theorem exec_present_held {addr pos serial : Nat} {rest : List HandItem}
    (h : s.field.handover = .event addr (.present pos serial) :: rest) (hheld : s.field.waitingHeld = true) :
    exec .present s = .next s := by
  have hnone : s.waitingItem = none := by simp [waitingItem, h, hheld]
  change execPresent s = _
  simp [execPresent, grantItem, hnone]

theorem exec_heldPresentRefused {addr pos serial : Nat} {rest : List HandItem}
    (h : s.field.handover = .event addr (.present pos serial) :: rest) (hheld : s.field.waitingHeld = true)
    (hr : s.running = true) : exec .heldPresentRefused s = .next ((s.indicate addr pos .red).popHead) := by
  change execHeldPresentRefused s = _
  simp [execHeldPresentRefused, h, hheld, hr]

end State

/-- A position of a module whose eight lockers lie in the table is served by that module. -/
theorem lockerAt_placeAt {addr pos n : Nat} (ha : 1 ≤ addr) (hpos : pos < 8) (h : placeAt addr pos = .locker n) :
    (n - 1) / 8 + 1 = addr := by
  unfold placeAt at h
  split at h
  · cases h
  · cases h
    omega

/-- Settles O38: the flag and its refusals, what becoming the waiting item does, and a forcing DOOR_OPEN with a PRESENT behind
it. -/
theorem serviceHoldRefusesPresentations : Obligations.ServiceHoldRefusesPresentations := by
  unfold Obligations.ServiceHoldRefusesPresentations
  refine ⟨fun p r a s hp => ?_, fun a s => s.holdOnForce_eq a, fun addr pos serial rest s h hheld =>
    ⟨s.exec_present_held h hheld, s.exec_heldPresentRefused h hheld⟩, ?_, ?_⟩
  · have hold := State.setHeld_eq (s := s) (p := p) true hp
    have release := State.setHeld_eq (s := s) (p := p) false hp
    refine ⟨fun hr => ⟨fun hg => ?_, fun hg => ?_⟩, fun h1 h2 hg => ⟨fun hc => ?_, fun hc => ?_⟩,
      fun h1 h2 hg => ⟨fun hc => ?_, fun hc => ?_⟩⟩
    · exact exec_row_taken (k := .holdModule) rfl rfl hg (hold.trans (if_pos hr))
    · exact exec_row_taken (k := .releaseModule) rfl rfl hg (release.trans (if_pos hr))
    · exact exec_row_taken (k := .holdModule) rfl rfl hg (hold.trans ((if_neg (by omega)).trans (if_pos hc)))
    · exact exec_row_taken (k := .holdModule) rfl rfl hg
        (hold.trans ((if_neg (by omega)).trans (if_neg (ne_true_of_eq_false hc))))
    · exact exec_row_taken (k := .releaseModule) rfl rfl hg (release.trans ((if_neg (by omega)).trans (if_pos hc)))
    · exact exec_row_taken (k := .releaseModule) rfl rfl hg
        (release.trans ((if_neg (by omega)).trans (if_neg (ne_true_of_eq_false hc))))
  · intro met first items s
    have hmet : met items s ({ s with field.handover := items } : State).meetHead := by
      rcases items with _ | ⟨item, rest⟩
      · rfl
      · rcases item with ⟨addr, e⟩ | _ | _
        · cases e with
          | present pos serial => exact State.meetHead_present _ rfl
          | doorOpen pos => exact congrArg (fun t : State => { t with field.waitingHeld := false }) (s.updPosition_handover _ _ _ _)
          | doorClosed pos => exact congrArg (fun t : State => { t with field.waitingHeld := false }) (s.updPosition_handover _ _ _ _)
          | handle pos => exact congrArg (fun t : State => { t with field.waitingHeld := false }) (s.updPosition_handover _ _ _ _)
        · rfl
        · rfl
    refine ⟨fun hempty hitems => ?_, fun h => ?_, fun hne => ?_⟩
    · have hjoin : s.handOver items = ({ s with field.handover := items } : State).meetHead := by
        unfold State.handOver
        rw [hempty]
        exact if_pos (by simpa using hitems)
      rw [hjoin]
      exact hmet
    · rw [State.popHead, h]
      exact hmet
    · exact if_neg (by simp [hne])
  · intro addr pos n pos' serial rest s ha hpos hplace hn hlist hg hst hforce
    have hn : 1 ≤ n ∧ n ≤ 1024 := ⟨by unfold placeAt at hplace; split at hplace <;> cases hplace; omega, hn⟩
    have haddr : (n - 1) / 8 + 1 = addr := lockerAt_placeAt ha hpos hplace
    let forced : State := ((s.granted .field).lockerDoorOpen n).watchEvent (.locker n) .doorOpened none
    have hexec : exec .doorOpen s = .next forced.popHead := by
      rw [exec_doorOpen_eq, execDoorOpen, State.grantItem_granting hg rfl, hplace, State.doorOpenAt]
    have hopen := (s.granted .field).lockerDoorOpen_forced hn hst
    rw [haddr] at hopen
    have hframe := State.watchEvent_frame ((s.granted .field).lockerDoorOpen n) (.locker n) .doorOpened none
    have hlist' : forced.field.handover = .event addr (.doorOpen pos) :: .event addr (.present pos' serial) :: rest := by
      refine (congrArg (fun t : State => t.field.handover) hframe).trans ?_
      rw [hopen]
      rw [State.holdOnForce_handover]
      simpa using hlist
    have hheld : (forced.module addr).held = true := by
      refine (congrArg (fun t : State => (t.module addr).held) hframe).trans ?_
      rw [hopen]
      exact State.holdOnForce_held (by omega) (by simpa using hforce)
    have hrun : forced.popHead.running = true := by
      have hw : State.Writes 0 s forced.popHead := (s.writes_granted .field).next
        ((State.writes_lockerDoorOpen _ n).next ((State.writes_watchEvent _ _ _ _).next (State.writes_popHead _)))
      have hs := State.running_of_mayGrant hg.2
      unfold State.running at hs ⊢
      rwa [hw.supply]
    have hpop := forced.popHead_present hlist'
    have hheld' : forced.popHead.field.waitingHeld = true := by rw [hpop]; exact hheld
    have hhead : forced.popHead.field.handover = .event addr (.present pos' serial) :: rest := by rw [hpop]
    refine ⟨_, hexec, hhead, hheld', State.exec_present_held hhead hheld', State.exec_heldPresentRefused hhead hheld' hrun⟩

end Sys2Proof.Machine
end

section
/-! PROOFS. SET_MODULES (R112): the stored configuration, the positions of a module fitted or unfitted, and its commands failed. -/

namespace Sys2Proof.Machine

namespace State

variable {s t : State}

/-! ### Positions given a state -/

theorem foldl_resetLocker_frame (st : LockerState) (l : List Nat) (s : State) :
    l.foldl (resetLocker st) s = { s with engine.lockers := (l.foldl (resetLocker st) s).engine.lockers } := by
  induction l generalizing s with
  | nil => rfl
  | cons n l ih =>
    rw [List.foldl_cons, ih]
    unfold resetLocker setLocker
    split <;> rfl

theorem foldl_resetCabin_frame (st : CabinState) (l : List Nat) (s : State) :
    l.foldl (resetCabin st) s = { s with engine.cabins := (l.foldl (resetCabin st) s).engine.cabins } := by
  induction l generalizing s with
  | nil => rfl
  | cons c l ih =>
    rw [List.foldl_cons, ih]
    unfold resetCabin setCabin
    split <;> rfl

theorem foldl_resetLocker_locker (st : LockerState) {l : List Nat} (hl : ∀ n ∈ l, 1 ≤ n ∧ n ≤ 1024) (s : State) (m : Nat) :
    (l.foldl (resetLocker st) s).locker m = if m ∈ l then Locker.blank st s.now else s.locker m := by
  induction l generalizing s with
  | nil => rfl
  | cons n l ih =>
    have hnow : (s.resetLocker st n).now = s.now := setLocker_now _ _ _
    rw [List.foldl_cons, ih (fun x hx => hl x (List.mem_cons_of_mem n hx)), hnow]
    by_cases hm : m ∈ l
    · simp [hm]
    · by_cases h : m = n
      · subst h
        simp [hm, resetLocker, setLocker_locker_self s _ (hl m List.mem_cons_self)]
      · simp [hm, h, resetLocker, setLocker_locker_ne s _ (Ne.symm h)]

theorem foldl_resetCabin_cabin (st : CabinState) {l : List Nat} (hl : ∀ c ∈ l, 1 ≤ c ∧ c ≤ 64) (hnd : l.Nodup) (s : State)
    (d : Nat) :
    (l.foldl (resetCabin st) s).cabin d =
      if d ∈ l then { Cabin.blank st s.now with command := (s.cabin d).command } else s.cabin d := by
  induction l generalizing s with
  | nil => rfl
  | cons c l ih =>
    obtain ⟨hc, hnd⟩ := List.nodup_cons.1 hnd
    have hnow : (s.resetCabin st c).now = s.now := setCabin_now _ _ _
    rw [List.foldl_cons, ih (fun x hx => hl x (List.mem_cons_of_mem c hx)) hnd, hnow]
    by_cases h : d = c
    · subst h
      simp [hc, resetCabin, setCabin_cabin_self s _ (hl d List.mem_cons_self)]
    · simp [h, resetCabin, setCabin_cabin_ne s _ (Ne.symm h)]

end State

theorem moduleLockers_range {addr n : Nat} (ha : 1 ≤ addr ∧ addr ≤ 144) (h : n ∈ moduleLockers addr) : 1 ≤ n ∧ n ≤ 1024 := by
  unfold moduleLockers at h
  split at h
  · cases h
  · rename_i hk
    simp only [isCabinModule, Bool.and_eq_true, decide_eq_true_eq, List.mem_map, List.mem_range] at hk h
    obtain ⟨i, hi, rfl⟩ := h
    omega

theorem moduleCabins_range {addr c : Nat} (h : c ∈ moduleCabins addr) : 1 ≤ c ∧ c ≤ 64 := by
  unfold moduleCabins at h
  split at h
  · rename_i hk
    simp only [isCabinModule, Bool.and_eq_true, decide_eq_true_eq, List.mem_map, List.mem_range] at hk h
    obtain ⟨i, hi, rfl⟩ := h
    omega
  · cases h

theorem moduleCabins_nodup (addr : Nat) : (moduleCabins addr).Nodup := by
  unfold moduleCabins
  split
  · exact List.nodup_range.map fun i j h => by simpa using h
  · exact List.nodup_nil

theorem moduleCabins_eq {addr : Nat} (h : isCabinModule addr = true) :
    moduleCabins addr = [4 * (addr - 129) + 1, 4 * (addr - 129) + 2, 4 * (addr - 129) + 3, 4 * (addr - 129) + 4] := by
  simp [moduleCabins, h, List.range_succ]

theorem moduleCabins_nil {addr : Nat} (h : isCabinModule addr = false) : moduleCabins addr = [] := by
  simp [moduleCabins, h]

/-! ### Outcomes handed over (R119, R126) -/

namespace State

variable {s t : State}

theorem meetHead_outcome (s : State) {cmd : Command} {c : CommandResult} {rest : List HandItem}
    (h : s.field.handover = .outcome cmd c :: rest) : s.meetHead = { s with field.waitingHeld := false } := by
  unfold meetHead
  rw [h]

/-- Outcomes that join the list mark nothing; the first to join an empty list becomes the waiting item. -/
theorem handOver_outcomes (s : State) (cmds : List Command) (c : CommandResult) :
    s.handOver (cmds.map fun cmd => .outcome cmd c) =
      { s with field.handover := s.field.handover ++ cmds.map fun cmd => .outcome cmd c,
               field.waitingHeld := if s.field.handover = [] ∧ cmds ≠ [] then false else s.field.waitingHeld } := by
  unfold handOver
  cases cmds with
  | nil => simp
  | cons cmd cmds =>
    by_cases h : s.field.handover = []
    · simp only [h]
      rw [meetHead_outcome _ rfl]
      simp
    · simp [h]

theorem failEntries_eq (s : State) (addr : Nat) :
    s.failEntries addr =
      { s with
        field.queue := s.field.queue.filter fun c => c.addr != addr,
        field.handover := s.field.handover ++ (s.field.queue.filter fun c => c.addr == addr).map fun c => .outcome c .failed,
        field.waitingHeld :=
          if s.field.handover = [] ∧ (s.field.queue.filter fun c => c.addr == addr) ≠ [] then false
          else s.field.waitingHeld } := handOver_outcomes _ _ _

theorem clearIndications_position (m : Module) {i : Nat} (h : i < 8) :
    tableGet (clearIndications m).positions Position.blank i =
      { tableGet m.positions Position.blank i with shown := none } := tableGet_tableMap _ _ Position.blank _ h

/-! ### A module's settings stored (R111, R112) -/

theorem writeModuleSetting_frame (s : State) (q : ModulesRequest) : s.writeModuleSetting q =
    { s with settings := { s.settings with
        modules := (s.writeModuleSetting q).settings.modules,
        cabinKinds := (s.writeModuleSetting q).settings.cabinKinds } } := rfl

theorem writeModuleSetting_self (s : State) {q : ModulesRequest} (ha : 1 ≤ q.addr ∧ q.addr ≤ 144) :
    (s.writeModuleSetting q).moduleSetting q.addr = { configured := q.configured, holdOnForce := q.holdOnForce } := by
  have hz : q.addr ≠ 0 := by omega
  simp only [moduleSetting, if_neg hz]
  exact tableGet_tableSet_self _ _ _ (by omega)

theorem writeModuleSetting_ne (s : State) {q : ModulesRequest} (hq : 1 ≤ q.addr) {a : Nat} (h : a ≠ q.addr) :
    (s.writeModuleSetting q).moduleSetting a = s.moduleSetting a := by
  unfold moduleSetting
  split
  · rfl
  · exact tableGet_tableSet_ne _ _ _ (by omega)

/-- A table written at several places keeps every other. -/
theorem tableGet_foldl_tableSet_ne {α : Type} {n : Nat} (d : α) {l : List (Nat × α)} {j : Nat} (h : ∀ e ∈ l, e.1 - 1 ≠ j)
    (t : Vector α n) : tableGet (l.foldl (fun t e => tableSet t (e.1 - 1) e.2) t) d j = tableGet t d j := by
  induction l generalizing t with
  | nil => rfl
  | cons e l ih =>
    rw [List.foldl_cons, ih (fun x hx => h x (List.mem_cons_of_mem e hx))]
    exact tableGet_tableSet_ne _ _ _ (h e List.mem_cons_self)

theorem writeModuleSetting_otherKind (s : State) (q : ModulesRequest) {c : Nat} (h1 : 1 ≤ c) (h : c ∉ moduleCabins q.addr) :
    (s.writeModuleSetting q).cabinKind c = s.cabinKind c := by
  refine tableGet_foldl_tableSet_ne _ (fun e he => ?_) _
  have hmem : e.1 ∈ moduleCabins q.addr := (List.of_mem_zip he).1
  have hpos := (moduleCabins_range hmem).1
  have hne : e.1 ≠ c := fun h' => h (h' ▸ hmem)
  omega

/-- Four cells in a row written from a list of four. -/
theorem tableGet_foldl_four {n k : Nat} (hk : k + 3 < n) (t : Vector CabinKind n) {kinds : List CabinKind}
    (hlen : kinds.length = 4) {i : Nat} (hi : i < 4) :
    some (tableGet (([k + 1, k + 2, k + 3, k + 4].zip kinds).foldl (fun t e => tableSet t (e.1 - 1) e.2) t) .single (k + i)) =
      kinds[i]? := by
  have hself (t : Vector CabinKind n) (x : CabinKind) {j : Nat} (hj : j < 4) :
      tableGet (tableSet t (k + j) x) .single (k + j) = x := tableGet_tableSet_self _ _ _ (by omega)
  have hne (t : Vector CabinKind n) (x : CabinKind) {j j' : Nat} (hj : j ≠ j') :
      tableGet (tableSet t (k + j) x) .single (k + j') = tableGet t .single (k + j') :=
    tableGet_tableSet_ne _ _ _ (by omega)
  match kinds, hlen with
  | [a, b, c, d], _ =>
    change some (tableGet (tableSet (tableSet (tableSet (tableSet t (k + 0) a) (k + 1) b) (k + 2) c) (k + 3) d)
      .single (k + i)) = _
    match i, hi with
    | 0, _ => rw [hne _ _ (by decide), hne _ _ (by decide), hne _ _ (by decide), hself _ _ (by decide)]; rfl
    | 1, _ => rw [hne _ _ (by decide), hne _ _ (by decide), hself _ _ (by decide)]; rfl
    | 2, _ => rw [hne _ _ (by decide), hself _ _ (by decide)]; rfl
    | 3, _ => rw [hself _ _ (by decide)]; rfl

theorem writeModuleSetting_kind (s : State) {q : ModulesRequest} (hq : isCabinModule q.addr = true) (hk : q.kinds.length = 4)
    {i : Nat} (hi : i < 4) :
    some ((s.writeModuleSetting q).cabinKind (4 * (q.addr - 129) + i + 1)) = q.kinds[i]? := by
  have haddr : 129 ≤ q.addr ∧ q.addr ≤ 144 := by simpa [isCabinModule] using hq
  rw [← tableGet_foldl_four (k := 4 * (q.addr - 129)) (n := 64) (by omega) s.settings.cabinKinds hk hi, ← moduleCabins_eq hq]
  rfl

/-! ### A module configured and unconfigured -/

section Positions

variable (s) {addr : Nat}

/-- The positions of a module given their states, the lockers' and the cabins'. -/
def fit (s : State) (addr : Nat) (lockers : LockerState) (cabins : CabinState) : State :=
  (moduleCabins addr).foldl (resetCabin cabins) ((moduleLockers addr).foldl (resetLocker lockers) s)

theorem fit_frame (lockers : LockerState) (cabins : CabinState) :
    s.fit addr lockers cabins =
      { s with engine := { s.engine with
          lockers := (s.fit addr lockers cabins).engine.lockers,
          cabins := (s.fit addr lockers cabins).engine.cabins } } := by
  have h := foldl_resetCabin_frame cabins (moduleCabins addr) ((moduleLockers addr).foldl (resetLocker lockers) s)
  rw [foldl_resetLocker_frame] at h
  have hl : (s.fit addr lockers cabins).engine.lockers = ((moduleLockers addr).foldl (resetLocker lockers) s).engine.lockers := by
    have e := congrArg (fun t : State => t.engine.lockers)
      (foldl_resetCabin_frame cabins (moduleCabins addr) ((moduleLockers addr).foldl (resetLocker lockers) s))
    exact e
  rw [hl]
  unfold fit
  rw [foldl_resetLocker_frame]
  exact h

theorem fit_locker (ha : 1 ≤ addr ∧ addr ≤ 144) (lockers : LockerState) (cabins : CabinState) (n : Nat) :
    (s.fit addr lockers cabins).locker n =
      if n ∈ moduleLockers addr then Locker.blank lockers s.now else s.locker n := by
  have h : (s.fit addr lockers cabins).locker n = ((moduleLockers addr).foldl (resetLocker lockers) s).locker n := by
    have e := congrArg (fun t : State => t.locker n)
      (foldl_resetCabin_frame cabins (moduleCabins addr) ((moduleLockers addr).foldl (resetLocker lockers) s))
    exact e
  rw [h, foldl_resetLocker_locker _ (fun m => moduleLockers_range ha)]

theorem fit_cabin (lockers : LockerState) (cabins : CabinState) (c : Nat) :
    (s.fit addr lockers cabins).cabin c =
      if c ∈ moduleCabins addr then { Cabin.blank cabins s.now with command := (s.cabin c).command } else s.cabin c := by
  unfold fit
  rw [foldl_resetCabin_cabin _ (fun c => moduleCabins_range) (moduleCabins_nodup addr), foldl_resetLocker_frame]
  rfl

/-- A module configured, from the positions fitted (R112, R185). -/
theorem configure_eq (ha : 1 ≤ addr) : s.configure addr =
    { s with
      engine := { s.engine with lockers := (s.fit addr .free .vacant).engine.lockers,
                                cabins := (s.fit addr .free .vacant).engine.cabins },
      field.modules := tableSet s.field.modules (addr - 1) (Module.blank true),
      undo := s.undo.filter fun u =>
        match u.before with
        | .held a _ => addr != a
        | _ => true } := by
  have e : s.configure addr = ((s.fit addr .free .vacant).setModule addr (Module.blank true)).supersede (.held addr false) :=
    rfl
  have hf := s.fit_frame (addr := addr) .free .vacant
  rw [e, supersede_held, setModule_undo, setModule, if_neg (by omega)]
  generalize s.fit addr .free .vacant = f at hf
  rw [hf] <;> rfl

/-- A module unconfigured, from the positions unfitted (R112, R122, R127, R185). -/
theorem unconfigure_eq (ha : 1 ≤ addr) : s.unconfigure addr =
    { s with
      engine := { s.engine with lockers := (s.fit addr .unfitted .unfitted).engine.lockers,
                                cabins := (s.fit addr .unfitted .unfitted).engine.cabins },
      undo := s.undo.filter fun u =>
        match u.before with
        | .held a _ => addr != a
        | _ => true,
      field.modules := tableSet s.field.modules (addr - 1)
        { clearIndications (s.module addr) with held := false, resync := false, coldRead := false },
      field.queue := s.field.queue.filter fun c => c.addr != addr,
      field.handover := s.field.handover ++ (s.field.queue.filter fun c => c.addr == addr).map fun c => .outcome c .failed,
      field.waitingHeld :=
        if s.field.handover = [] ∧ (s.field.queue.filter fun c => c.addr == addr) ≠ [] then false
        else s.field.waitingHeld } := by
  have e : s.unconfigure addr = (((s.fit addr .unfitted .unfitted).setModule addr
      { clearIndications ((s.fit addr .unfitted .unfitted).module addr) with
        held := false, resync := false, coldRead := false }).supersede (.held addr false)).failEntries addr := rfl
  have hf := s.fit_frame (addr := addr) .unfitted .unfitted
  rw [e, failEntries_eq, supersede_held, setModule_undo, setModule, if_neg (by omega)]
  generalize s.fit addr .unfitted .unfitted = f at hf
  rw [hf] <;> rfl

end Positions

end State

section Request

variable {r : Request} {q : ModulesRequest} {s : State}

theorem parseModules_kinds {body : List Byte} {q : ModulesRequest} (h : parseModules body = some q)
    (hq : isCabinModule q.addr = true) : q.kinds.length = 4 := by
  unfold parseModules at h
  split at h
  · split at h
    · dsimp only at h
      split at h
      · split at h
        · cases h; rfl
        · cases h
      · cases h
        exact absurd hq ‹_›
    · cases h
  · cases h

theorem setModules_outside (h : parseModules r.body = some q) (ha : q.addr = 0 ∨ 144 < q.addr) :
    setModules r s = refuse .outOfRange s := by
  simp [setModules, h, ha]

theorem setModules_kept (h : parseModules r.body = some q) (ha : 1 ≤ q.addr ∧ q.addr ≤ 144)
    (hc : s.configured q.addr = q.configured) : setModules r s = accept [] (s.writeModuleSetting q) := by
  have hin : ¬(q.addr = 0 ∨ 144 < q.addr) := by omega
  simp [setModules, h, hin, hc]

theorem setModules_configures (h : parseModules r.body = some q) (ha : 1 ≤ q.addr ∧ q.addr ≤ 144)
    (hc : s.configured q.addr = false) (hq : q.configured = true) :
    setModules r s = accept [] ((s.writeModuleSetting q).configure q.addr) := by
  have hin : ¬(q.addr = 0 ∨ 144 < q.addr) := by omega
  simp [setModules, h, hin, hc, hq]

/-- The checks on unconfiguring a configured module, in their order. -/
theorem setModules_unconfigures (h : parseModules r.body = some q) (ha : 1 ≤ q.addr ∧ q.addr ≤ 144)
    (hc : s.configured q.addr = true) (hq : q.configured = false) :
    setModules r s =
      if ∃ n ∈ moduleLockers q.addr, (s.locker n).moving = true then refuse .lockerBusy s
      else if (∃ n ∈ moduleLockers q.addr, (s.locker n).holder ≠ none) ∨
          (∃ c ∈ moduleCabins q.addr, (s.cabin c).occupant ≠ none) then refuse .holdsLocker s
      else accept [] ((s.writeModuleSetting q).unconfigure q.addr) := by
  have hin : ¬(q.addr = 0 ∨ 144 < q.addr) := by omega
  simp [setModules, h, hin, hc, hq, List.any_eq_true, Option.isSome_iff_ne_none]

end Request

/-- Settles O37, by the three cases of the module's configuration before and after. -/
theorem setModulesFitsThePositions : Obligations.SetModulesFitsThePositions := by
  unfold Obligations.SetModulesFitsThePositions
  intro p r q s hg hp g refusal done stored positions unheld
  have run {a : Answer} {t : State} (h : setModules r g = (a, t)) :
      exec (.setModules p) s = .next (t.answered p r a.code a.data) := exec_row_granted (k := .setModules) rfl rfl hg h
  refine ⟨fun ha => run (setModules_outside (s := g) hp ha), fun h1 h2 => ?_⟩
  have ha : 1 ≤ q.addr ∧ q.addr ≤ 144 := ⟨h1, h2⟩
  let w := g.writeModuleSetting q
  have hstored {t : State} (h : t.settings = w.settings) : stored t := by
    have hset (a : Nat) : t.moduleSetting a = w.moduleSetting a := by unfold State.moduleSetting; rw [h]
    have hkind (c : Nat) : t.cabinKind c = w.cabinKind c := by unfold State.cabinKind; rw [h]
    refine ⟨(hset _).trans (g.writeModuleSetting_self ha), fun a hne => (hset a).trans (g.writeModuleSetting_ne h1 hne),
      fun i hi h129 => ?_, fun c hc hout => (hkind c).trans (g.writeModuleSetting_otherKind q hc hout), ?_⟩
    · have hcab : isCabinModule q.addr = true := by simp [isCabinModule, h129, h2]
      rw [hkind]
      exact g.writeModuleSetting_kind hcab (parseModules_kinds hp hcab) hi
    · rw [h]
      rfl
  have hpositions {t : State} {lockers : LockerState} {cabins : CabinState}
      (h : t.engine = (w.fit q.addr lockers cabins).engine) (hm : ∀ a, a ≠ q.addr → t.module a = s.module a) :
      positions t lockers cabins := by
    have hl (n : Nat) : t.locker n = (w.fit q.addr lockers cabins).locker n := by unfold State.locker; rw [h]
    have hc (c : Nat) : t.cabin c = (w.fit q.addr lockers cabins).cabin c := by unfold State.cabin; rw [h]
    exact ⟨fun n hn => by rw [hl, w.fit_locker ha, if_pos hn]; rfl, fun c hc' => by rw [hc, w.fit_cabin, if_pos hc']; rfl,
      fun n hn => by rw [hl, w.fit_locker ha, if_neg hn]; rfl, fun c hc' => by rw [hc, w.fit_cabin, if_neg hc']; rfl, hm⟩
  refine ⟨fun hc => ⟨_, run (setModules_kept (s := g) hp ha hc), hstored rfl, rfl⟩, fun hc hq => ?_, fun hc hq => ?_⟩
  · have row := setModules_configures (s := g) hp ha hc hq
    have ht := w.configure_eq h1
    have hmodule (a : Nat) : (w.configure q.addr).module a = (s.setModule q.addr (Module.blank true)).module a := by
      rw [ht, State.setModule, if_neg (by omega)]
      rfl
    refine ⟨_, run row, hstored (by rw [ht]), hpositions (by rw [ht, w.fit_frame]) fun a hne => ?_, ?_, ?_⟩
    · rw [hmodule, State.setModule_module_ne _ _ (Ne.symm hne)]
    · rw [hmodule, State.setModule_module_self _ _ ha]
    · rw [ht]
      rfl
  · have row := setModules_unconfigures (s := g) hp ha hc hq
    refine ⟨fun hm => run (row.trans (if_pos hm)), fun hm => ?_⟩
    have row := row.trans (if_neg fun ⟨n, hn, h⟩ => absurd ((hm n hn).symm.trans h) nofun)
    refine ⟨fun hb => run (row.trans (if_pos hb)), fun hn hcab => ?_⟩
    have row := row.trans (if_neg fun hb => by
      obtain ⟨n, hn', h⟩ | ⟨c, hc', h⟩ := hb
      · exact h (hn n hn')
      · exact h (hcab c hc'))
    intro mine was
    have ht := w.unconfigure_eq h1
    have hmodule (a : Nat) : (w.unconfigure q.addr).module a = (s.setModule q.addr
        { State.clearIndications was with held := false, resync := false, coldRead := false }).module a := by
      rw [ht, State.setModule, if_neg (show ¬q.addr = 0 by omega)]
      rfl
    refine ⟨_, run row, hstored (by rw [ht]), hpositions (by rw [ht, w.fit_frame]) fun a hne => ?_, ?_, fun i hi => ?_, ?_⟩
    · rw [hmodule, State.setModule_module_ne _ _ (Ne.symm hne)]
    · rw [hmodule, State.setModule_module_self _ _ ha]
      rfl
    · rw [hmodule, State.setModule_module_self _ _ ha]
      exact State.clearIndications_position was hi
    · rw [ht]
      rfl

end Sys2Proof.Machine
end

section
/-! PROOFS. The lookup of a presentation (R6, R153) and the answer shown at the reader (R114, R122, R154). -/

namespace Sys2Proof.Machine

namespace State

variable {s t : State}

/-- Writing what stands changes nothing. -/
theorem setExchange_self {x : Option Exchange} (h : s.field.exchange = x) : { s with field.exchange := x } = s := by
  subst h
  rfl

theorem indicate_eq (s : State) (addr pos : Nat) (ind : Indication) :
    s.indicate addr pos ind =
      { s.setModule addr { s.module addr with
          positions := tableSet (s.module addr).positions pos
            { tableGet (s.module addr).positions Position.blank pos with shown := some ind } } with
        field.exchange := s.field.exchange.map fun x =>
          if x.addr = addr then { x with renewed := pos :: x.renewed } else x } := by
  have hmarked : (s.setModule addr { s.module addr with
      positions := tableSet (s.module addr).positions pos
        { tableGet (s.module addr).positions Position.blank pos with shown := some ind } }).field.exchange =
      s.field.exchange := by simp
  unfold indicate updPosition
  cases hx : s.field.exchange with
  | none => exact (setExchange_self (hmarked.trans hx)).symm
  | some x =>
    by_cases h : x.addr = addr
    · simp [h]
    · simpa [h] using (setExchange_self (hmarked.trans hx)).symm

theorem indicate_shown (s : State) {addr pos : Nat} (ha : 1 ≤ addr ∧ addr ≤ 144) (hp : pos < 8) (ind : Indication) :
    (tableGet ((s.indicate addr pos ind).module addr).positions Position.blank pos).shown = some ind := by
  have h := setModule_module_self s { s.module addr with
    positions := tableSet (s.module addr).positions pos
      { tableGet (s.module addr).positions Position.blank pos with shown := some ind } } ha
  rw [indicate_eq]
  refine (congrArg (fun m : Module => (tableGet m.positions Position.blank pos).shown) h).trans ?_
  exact congrArg Position.shown (tableGet_tableSet_self _ _ _ hp)

theorem shown_eq (s : State) (addr pos serial : Nat) (ind : Indication) :
    s.shown addr pos serial ind =
      (let told := (s.indicate addr pos ind).watchEvent (placeAt addr pos) .presented (some serial)
       popHead (match ind with
        | .red => told.watchEvent (placeAt addr pos) .refused (some serial)
        | _ => told)) := by
  cases ind <;> rfl

/-- A presentation granted shows what its decision answers. -/
theorem exec_present_decided {addr pos serial : Nat} {ind : Indication}
    (hg : s.grantingItem (.event addr (.present pos serial)))
    (hd : (s.granted .field).decidePresentation (placeAt addr pos) serial = (t, ind)) :
    exec .present s = .next (t.shown addr pos serial ind) := by
  rw [exec_present_eq, execPresent, grantItem_granting hg rfl]
  simp only [presentation, shown, hd]

end State

/-- Settles O41: the three refusals of the lookup, each a decision made before the place's rules. -/
theorem lookupRefusesBeforeThePlaceRules : Obligations.LookupRefusesBeforeThePlaceRules := by
  unfold Obligations.LookupRefusesBeforeThePlaceRules
  refine ⟨fun addr pos serial ind s => ⟨s.indicate_eq addr pos ind, fun h1 h2 hp => s.indicate_shown ⟨h1, h2⟩ hp ind,
    s.shown_eq addr pos serial ind⟩, ?_⟩
  intro addr pos serial s hg place g
  refine ⟨fun c hf => ?_, fun slot b hf => ?_⟩
  · refine State.exec_present_decided hg ?_
    have hf : g.findSerial serial = .error c := (State.findSerial_granted _ _ _).trans hf
    change g.decidePresentation place serial = _
    simp only [State.decidePresentation, hf]
  · obtain ⟨-, -, hband⟩ := State.findSerial_ok hf
    have hf : g.findSerial serial = .ok (slot, b) := (State.findSerial_granted _ _ _).trans hf
    have hseen := State.updBand_seenAt (s := g) place (b := b) (slot := slot) (by simpa [g] using hband)
    refine ⟨fun hr => State.exec_present_decided hg ?_, fun hr hstop => State.exec_present_decided hg ?_⟩
    · change g.decidePresentation place serial = _
      simp only [State.decidePresentation, hf, hseen, if_pos hr]
    · have hstop : g.stopped serial = true := hstop
      change g.decidePresentation place serial = _
      simp only [State.decidePresentation, hf, hseen, if_neg hr, if_pos hstop]

end Sys2Proof.Machine
end

section
/-! PROOFS. A READ_STATE report brings one module's positions into agreement and touches no other (R131). -/

namespace Sys2Proof.Machine

namespace State

/-! ### What a report may write, and where -/

/-- What no report writes. -/
def beyondReport (s : State) :=
  (s.engine.serialMap, s.engine.zoneUsed, s.watches, s.settings, s.supply, s.sweep, s.ports)

/-- The later state differs in the lockers and cabins of some places, in band records and in what the field engine and the notice
unit hold; what joins the hand-over list joins its end. -/
structure WritesAt (P : Place → Prop) (s t : State) : Prop where
  lockers : ∀ n, ¬P (.locker n) → t.locker n = s.locker n
  cabins : ∀ c, ¬P (.cabin c) → t.cabin c = s.cabin c
  beyond : t.beyondReport = s.beyondReport
  handover : ∃ failed, t.field.handover = s.field.handover ++ failed

/-- And the door and latch fields are as they were. -/
structure Settles (P : Place → Prop) (s t : State) : Prop extends WritesAt P s t where
  lockerRead : ∀ n, (t.locker n).door = (s.locker n).door ∧ (t.locker n).latch = (s.locker n).latch
  cabinRead : ∀ c, (t.cabin c).door = (s.cabin c).door ∧ (t.cabin c).latch = (s.cabin c).latch

variable {s t u : State} {P Q : Place → Prop}

theorem WritesAt.refl (s : State) : WritesAt P s s := ⟨fun _ _ => rfl, fun _ _ => rfl, rfl, [], (List.append_nil _).symm⟩

theorem WritesAt.trans (h : WritesAt P s t) (k : WritesAt P t u) : WritesAt P s u where
  lockers n hn := (k.lockers n hn).trans (h.lockers n hn)
  cabins c hc := (k.cabins c hc).trans (h.cabins c hc)
  beyond := k.beyond.trans h.beyond
  handover := by
    obtain ⟨f, hf⟩ := h.handover
    obtain ⟨g, hg⟩ := k.handover
    exact ⟨f ++ g, by rw [hg, hf, List.append_assoc]⟩

theorem WritesAt.mono (h : WritesAt P s t) (hPQ : ∀ p, P p → Q p) : WritesAt Q s t where
  lockers n hn := h.lockers n (mt (hPQ _) hn)
  cabins c hc := h.cabins c (mt (hPQ _) hc)
  beyond := h.beyond
  handover := h.handover

theorem Settles.refl (s : State) : Settles P s s := ⟨.refl s, fun _ => ⟨rfl, rfl⟩, fun _ => ⟨rfl, rfl⟩⟩

theorem Settles.trans (h : Settles P s t) (k : Settles P t u) : Settles P s u where
  toWritesAt := h.toWritesAt.trans k.toWritesAt
  lockerRead n := ⟨(k.lockerRead n).1.trans (h.lockerRead n).1, (k.lockerRead n).2.trans (h.lockerRead n).2⟩
  cabinRead c := ⟨(k.cabinRead c).1.trans (h.cabinRead c).1, (k.cabinRead c).2.trans (h.cabinRead c).2⟩

/-- An operation that leaves lockers, cabins and the rest alone, and adds at most to the end of the hand-over list. -/
theorem Settles.of_engine (hl : t.engine.lockers = s.engine.lockers) (hc : t.engine.cabins = s.engine.cabins)
    (hb : t.beyondReport = s.beyondReport) {failed : List HandItem} (hh : t.field.handover = s.field.handover ++ failed) :
    Settles P s t := by
  have lockers (n : Nat) : t.locker n = s.locker n := by unfold locker; rw [hl]
  have cabins (c : Nat) : t.cabin c = s.cabin c := by unfold cabin; rw [hc]
  exact ⟨⟨fun n _ => lockers n, fun c _ => cabins c, hb, failed, hh⟩, fun n => by rw [lockers]; exact ⟨rfl, rfl⟩,
    fun c => by rw [cabins]; exact ⟨rfl, rfl⟩⟩

theorem Settles.ite {p : Prop} [Decidable p] (ht : Settles P s t) (hu : Settles P s u) : Settles P s (if p then t else u) := by
  split
  · exact ht
  · exact hu

/-! ### The operations a report is made of -/

theorem writesAt_setLocker (s : State) (n : Nat) (l : Locker) : WritesAt (· = .locker n) s (s.setLocker n l) where
  lockers m hm := setLocker_locker_ne s l fun h => hm (h ▸ rfl)
  cabins c _ := setLocker_cabin s n l c
  beyond := by simp [beyondReport]
  handover := ⟨[], by simp⟩

theorem writesAt_setCabin (s : State) (c : Nat) (k : Cabin) : WritesAt (· = .cabin c) s (s.setCabin c k) where
  lockers n _ := setCabin_locker s c k n
  cabins d hd := setCabin_cabin_ne s k fun h => hd (h ▸ rfl)
  beyond := by simp [beyondReport]
  handover := ⟨[], by simp⟩

/-- A place outside the table is not written. -/
theorem setLocker_outside (s : State) {n : Nat} (l : Locker) (hn : ¬(1 ≤ n ∧ n ≤ 1024)) : s.setLocker n l = s := by
  unfold setLocker
  split
  · rfl
  · have hlt : ¬n - 1 < 1024 := by omega
    simp [tableSet, hlt]

theorem setCabin_outside (s : State) {c : Nat} (k : Cabin) (hc : ¬(1 ≤ c ∧ c ≤ 64)) : s.setCabin c k = s := by
  unfold setCabin
  split
  · rfl
  · have hlt : ¬c - 1 < 64 := by omega
    simp [tableSet, hlt]

theorem settles_setLocker (s : State) {n : Nat} {l : Locker} (hd : l.door = (s.locker n).door)
    (hl : l.latch = (s.locker n).latch) : Settles (· = .locker n) s (s.setLocker n l) where
  toWritesAt := s.writesAt_setLocker n l
  lockerRead m := by
    by_cases h : n = m
    · subst h
      by_cases hn : 1 ≤ n ∧ n ≤ 1024
      · rw [setLocker_locker_self s l hn]
        exact ⟨hd, hl⟩
      · rw [setLocker_outside s l hn]
        exact ⟨rfl, rfl⟩
    · rw [setLocker_locker_ne s l h]
      exact ⟨rfl, rfl⟩
  cabinRead c := by rw [setLocker_cabin]; exact ⟨rfl, rfl⟩

theorem settles_setCabin (s : State) {c : Nat} {k : Cabin} (hd : k.door = (s.cabin c).door)
    (hl : k.latch = (s.cabin c).latch) : Settles (· = .cabin c) s (s.setCabin c k) where
  toWritesAt := s.writesAt_setCabin c k
  lockerRead n := by rw [setCabin_locker]; exact ⟨rfl, rfl⟩
  cabinRead d := by
    by_cases h : c = d
    · subst h
      by_cases hc : 1 ≤ c ∧ c ≤ 64
      · rw [setCabin_cabin_self s k hc]
        exact ⟨hd, hl⟩
      · rw [setCabin_outside s k hc]
        exact ⟨rfl, rfl⟩
    · rw [setCabin_cabin_ne s k h]
      exact ⟨rfl, rfl⟩

theorem settles_updBand (s : State) (k : Nat) (f : Band → Band) : Settles P s (s.updBand k f) := by
  unfold updBand
  split
  · exact .of_engine (failed := []) (by simp) (by simp) (by simp [beyondReport]) (by simp)
  · exact .refl s

theorem settles_notify (s : State) (k : NoticeKind) (p : Option Place) (n : Option Nat) : Settles P s (s.notify k p n) :=
  .of_engine (failed := []) rfl rfl rfl (List.append_nil _).symm

theorem settles_handOver (s : State) (items : List HandItem) : Settles P s (s.handOver items) :=
  .of_engine (failed := items) (by simp) (by simp) (by rw [handOver_eq]; rfl) (s.handOver_handover items)

theorem settles_queueCommand (s : State) (a i : Nat) (act : Action) : Settles P s (s.queueCommand a i act) :=
  .ite (s.settles_handOver _) (.of_engine (failed := []) rfl rfl rfl (List.append_nil _).symm)

theorem settles_holdOnForce (s : State) (a : Nat) : Settles P s (s.holdOnForce a) :=
  .ite (.of_engine (failed := []) (by simp [supersede]) (by simp [supersede]) (by simp [supersede, beyondReport])
    (by simp [supersede])) (.refl s)

/-! ### Lockers -/

section Lockers

variable (s) (n : Nat)

theorem settles_enterLocker (st : LockerState) : Settles (· = .locker n) s (s.enterLocker n st) :=
  s.settles_setLocker (by rw [Locker.enter_eq]) (by rw [Locker.enter_eq])

theorem settles_unbindLocker : Settles (· = .locker n) s (s.unbindLocker n) := by
  have freed := s.settles_setLocker (n := n) (l := { s.locker n with holder := none, master := false }) rfl rfl
  unfold unbindLocker
  dsimp only
  split
  · exact freed
  · exact freed.trans (settles_updBand _ _ _)

theorem settles_forceLocker : Settles (· = .locker n) s (s.forceLocker n) :=
  (s.settles_enterLocker n _).trans ((settles_notify _ _ _ _).trans (settles_holdOnForce _ _))

theorem settles_unlatchLocker (m r : Bool) : Settles (· = .locker n) s (s.unlatchLocker n m r) :=
  (s.settles_setLocker (l := (s.locker n).startUnlatch m r) rfl rfl).trans (settles_queueCommand _ _ _ _)

theorem settles_faultLocker : Settles (· = .locker n) s (s.faultLocker n) :=
  (s.settles_enterLocker n _).trans (settles_notify _ _ _ _)

theorem settles_settledLocker (r : Reading) (cold : Bool) : Settles (· = .locker n) s (s.settledLocker n r cold) := by
  have stays := Settles.refl (P := (· = .locker n)) s
  have enters (st : LockerState) := s.settles_enterLocker n st
  have noted (st : LockerState) (k : NoticeKind) (serial : Option Nat) :=
    (enters st).trans (settles_notify _ k (some (.locker n)) serial)
  have frees := s.settles_unlatchLocker n false true
  have faults := s.settles_faultLocker n
  have forces := s.settles_forceLocker n
  have shut {t : State} (ht : Settles (· = .locker n) s t) :
      Settles (· = .locker n) s (if r.engaged then if r.doorOpen then s.faultLocker n else s.enterLocker n .locked else t) :=
    .ite (.ite faults (enters _)) ht
  unfold settledLocker
  split
  · exact .ite faults (.ite forces stays)
  · exact .ite (enters _) (.ite forces stays)
  · exact .ite (.ite (noted _ _ _) (.ite (noted _ _ _) frees)) stays
  · exact .ite (.ite (settles_notify _ _ _ _) frees) stays
  · exact shut stays
  · exact shut (.ite (enters _) stays)
  · exact shut (.ite stays (enters _))
  · exact shut (.ite (enters _) stays)
  all_goals exact stays

theorem settles_lostLatch (r : Reading) : Settles (· = .locker n) s (s.lostLatch n r) := by
  have enters (st : LockerState) := s.settles_enterLocker n st
  unfold lostLatch
  exact .ite (enters _) (.ite (s.settles_setLocker (by rw [Locker.enter_eq]) (by rw [Locker.enter_eq]))
    (.ite (enters _) (s.settles_setLocker (by rw [Locker.enter_eq]) (by rw [Locker.enter_eq]))))

theorem settles_lostUnlatch (r : Reading) : Settles (· = .locker n) s (s.lostUnlatch n r) := by
  have enters (st : LockerState) := s.settles_enterLocker n st
  have resumes : Settles (· = .locker n) s (s.resumeRelease n) :=
    .ite ((enters _).trans (settles_notify _ _ _ _)) (settles_queueCommand _ _ _ _)
  unfold lostUnlatch
  exact .ite
    (.ite resumes ((s.settles_unbindLocker n).trans (settles_setLocker _ (by rw [Locker.enter_eq]) (by rw [Locker.enter_eq]))))
    (.ite (enters _) (.ite (enters _) (enters _)))

/-- A locker brought into agreement, from its fields written. -/
theorem settles_reconcileLocker (r : Reading) (cold marked : Bool) :
    Settles (· = .locker n) (s.setLocker n { s.locker n with door := r.door, latch := r.latch })
      (s.reconcileLocker n r cold marked) := by
  unfold reconcileLocker
  dsimp only
  split
  · exact .ite (.refl _) (settles_lostLatch _ _ _)
  · exact .ite (.refl _) (settles_lostUnlatch _ _ _)
  · exact settles_settledLocker _ _ _ _

end Lockers

/-! ### Cabins -/

section Cabins

variable (s) (c : Nat)

theorem settles_clearOccupant : Settles (· = .cabin c) s (s.clearOccupant c) := by
  unfold clearOccupant
  dsimp only
  split
  · exact .refl s
  · exact (s.settles_setCabin (k := { s.cabin c with occupant := none }) rfl rfl).trans (settles_updBand _ _ _)

theorem settles_vacate : Settles (· = .cabin c) s (s.vacate c) :=
  (s.settles_clearOccupant c).trans (settles_setCabin _ rfl rfl)

theorem settles_forceCabin : Settles (· = .cabin c) s (s.forceCabin c) :=
  (s.settles_vacate c).trans ((settles_notify _ _ _ _).trans (settles_holdOnForce _ _))

theorem settles_unlatchCabin : Settles (· = .cabin c) s (s.unlatchCabin c) :=
  (s.settles_setCabin (k := { s.cabin c with state := .unlatching }) rfl rfl).trans
    ((settles_setCabin _ (k := { (s.setCabin c _).cabin c with command := some .unlatch }) rfl rfl).trans
      (settles_queueCommand _ _ _ _))

theorem settles_freeCabin : Settles (· = .cabin c) s (s.freeCabin c) :=
  .ite (Settles.trans (.ite (.refl s) (s.settles_vacate c)) (settles_notify _ _ _ _)) (s.settles_unlatchCabin c)

/-- A cabin brought into agreement, from its fields written. -/
theorem settles_reconcileCabin (r : Reading) :
    Settles (· = .cabin c) (s.setCabin c { s.cabin c with door := r.door, latch := r.latch }) (s.reconcileCabin c r) := by
  unfold reconcileCabin
  dsimp only
  split
  · exact .ite ((settles_vacate _ _).trans (settles_notify _ _ _ _)) (.ite (settles_forceCabin _ _) (.refl _))
  · exact .ite (.refl _) (.ite (settles_setCabin _ rfl rfl) (settles_vacate _ _))
  · exact .ite (.refl _) (.ite (settles_vacate _ _) (.ite (settles_setCabin _ rfl rfl) (settles_freeCabin _ _)))
  · exact .ite (settles_freeCabin _ _) (.refl _)
  · exact .refl _
  · exact .refl _

end Cabins

/-! ### The positions of a module in order -/

section Report

variable (base : State) (addr : Nat) (cold : Bool)

theorem writesAt_reconcileAt (s : State) (e : Reading × Nat) :
    WritesAt (· = placeAt addr e.2) s (reconcileAt base addr cold s e) := by
  unfold reconcileAt
  split
  · rename_i n h
    exact h ▸ (s.writesAt_setLocker n _).trans (s.settles_reconcileLocker n e.1 cold _).toWritesAt
  · rename_i c h
    exact h ▸ (s.writesAt_setCabin c _).trans (s.settles_reconcileCabin c e.1).toWritesAt
  · exact .refl s

theorem writesAt_foldl_reconcileAt (l : List (Reading × Nat)) (s : State) :
    WritesAt (fun p => ∃ e ∈ l, p = placeAt addr e.2) s (l.foldl (reconcileAt base addr cold) s) := by
  induction l generalizing s with
  | nil => exact .refl s
  | cons e l ih =>
    refine WritesAt.trans ((writesAt_reconcileAt base addr cold s e).mono fun p hp => ?_) ((ih _).mono fun p hp => ?_)
    · exact ⟨e, List.mem_cons_self, hp⟩
    · obtain ⟨x, hx, hp⟩ := hp
      exact ⟨x, List.mem_cons_of_mem e hx, hp⟩

theorem reconcileAt_locker {n pos : Nat} (hn : 1 ≤ n ∧ n ≤ 1024) (hp : placeAt addr pos = .locker n) (r : Reading) (s : State) :
    ((reconcileAt base addr cold s (r, pos)).locker n).door = r.door ∧
      ((reconcileAt base addr cold s (r, pos)).locker n).latch = r.latch := by
  have h := (s.settles_reconcileLocker n r cold (base.commandWaits addr pos)).lockerRead n
  rw [setLocker_locker_self s _ hn] at h
  simp only [reconcileAt, hp]
  exact h

theorem reconcileAt_cabin {c pos : Nat} (hc : 1 ≤ c ∧ c ≤ 64) (hp : placeAt addr pos = .cabin c) (r : Reading) (s : State) :
    ((reconcileAt base addr cold s (r, pos)).cabin c).door = r.door ∧
      ((reconcileAt base addr cold s (r, pos)).cabin c).latch = r.latch := by
  have h := (s.settles_reconcileCabin c r).cabinRead c
  rw [setCabin_cabin_self s _ hc] at h
  simp only [reconcileAt, hp]
  exact h

end Report

end State

theorem placeAt_injective {addr i j : Nat} (h : placeAt addr i = placeAt addr j) : i = j := by
  unfold placeAt at h
  split at h
  · injection h
    omega
  · injection h
    omega

theorem placeAt_locker_range {addr pos n : Nat} (ha : 1 ≤ addr ∧ addr ≤ 144) (hpos : pos < positionCount addr)
    (h : placeAt addr pos = .locker n) : 1 ≤ n ∧ n ≤ 1024 := by
  unfold placeAt at h
  unfold positionCount at hpos
  split at h
  · cases h
  · rename_i hk
    rw [if_neg hk] at hpos
    simp only [isCabinModule, Bool.and_eq_true, decide_eq_true_eq] at hk
    cases h
    omega

theorem placeAt_cabin_range {addr pos c : Nat} (hpos : pos < positionCount addr) (h : placeAt addr pos = .cabin c) :
    1 ≤ c ∧ c ≤ 64 := by
  unfold placeAt at h
  unfold positionCount at hpos
  split at h
  · rename_i hk
    rw [if_pos hk] at hpos
    simp only [isCabinModule, Bool.and_eq_true, decide_eq_true_eq] at hk
    cases h
    omega
  · cases h

/-- A reading stands once in the list of readings with their positions. -/
theorem zipIdx_split {α : Type} {l : List α} {i : Nat} {x : α} (h : l[i]? = some x) :
    ∃ before after, l.zipIdx = before ++ (x, i) :: after ∧ ∀ e ∈ after, e.2 ≠ i := by
  have hmem : (x, i) ∈ l.zipIdx := List.mem_zipIdx_iff_getElem?.2 h
  obtain ⟨before, after, hsplit⟩ := List.append_of_mem hmem
  have hnd : (l.zipIdx.map Prod.snd).Nodup := by
    rw [List.zipIdx_map_snd]
    exact List.nodup_range'
  rw [hsplit, List.map_append, List.map_cons] at hnd
  have hout := (List.nodup_cons.1 (List.nodup_append.1 hnd).2.1).1
  exact ⟨before, after, hsplit, fun e he hi => hout (List.mem_map.2 ⟨e, he, hi⟩)⟩

namespace State

theorem commandWaits_iff (s : State) (addr pos : Nat) : s.commandWaits addr pos = true ↔
    (∃ cmd ∈ s.field.queue, cmd.addr = addr ∧ cmd.pos = pos) ∨
      ∃ cmd result, HandItem.outcome cmd result ∈ s.field.handover ∧ cmd.addr = addr ∧ cmd.pos = pos := by
  unfold commandWaits
  rw [Bool.or_eq_true, List.any_eq_true, List.any_eq_true]
  refine or_congr (by simp) ⟨fun ⟨item, hi, h⟩ => ?_, fun ⟨cmd, result, hi, h⟩ => ⟨_, hi, by simpa using h⟩⟩
  cases item with
  | outcome cmd result => exact ⟨cmd, result, hi, by simpa using h⟩
  | _ => cases h

theorem exec_readStateReport {s : State} {addr : Nat} {readings : List Reading} {cold : Bool}
    (hg : s.grantingItem (.report addr readings cold)) :
    exec .readStateReport s = .next ((reconcile addr readings cold (s.granted .field)).popHead) := by
  change execReadStateReport s = _
  rw [execReadStateReport, grantItem_granting hg rfl]

end State

/-- Settles O48: the report is the fold of its positions, each of which writes at its own place. -/
theorem reportBringsAModuleIntoAgreement : Obligations.ReportBringsAModuleIntoAgreement := by
  unfold Obligations.ReportBringsAModuleIntoAgreement
  refine ⟨?_, fun addr readings cold s hg h1 h2 hlen => ?_⟩
  · intro addr readings cold s hg one agreed
    refine ⟨s.commandWaits_iff addr, (State.exec_readStateReport hg).trans ?_⟩
    have hone : State.reconcileAt (s.granted .field) addr cold = one := by
      funext u e
      simp only [one, State.reconcileAt]
      cases placeAt addr e.2 <;> rfl
    rw [State.reconcile, hone]
  · refine ⟨_, State.exec_readStateReport hg, ?_⟩
    let g := s.granted .field
    let agreed := readings.zipIdx.foldl (State.reconcileAt g addr cold) g
    have hagreed := State.writesAt_foldl_reconcileAt g addr cold readings.zipIdx g
    have hset : agreed.setModule addr { agreed.module addr with resync := false, coldRead := false } =
        State.reconcile addr readings cold g := rfl
    generalize State.reconcile addr readings cold g = t at hset
    have hmodule : t.module addr = { agreed.module addr with resync := false, coldRead := false } := by
      rw [← hset]
      exact State.setModule_module_self _ _ ⟨h1, h2⟩
    have hafter : State.Settles (fun _ => False) agreed t := by
      rw [← hset]
      exact .of_engine (failed := []) (by simp) (by simp) (by simp [State.beyondReport]) (by simp)
    have hw : State.WritesAt (fun p => ∃ e ∈ readings.zipIdx, p = placeAt addr e.2) s t :=
      State.WritesAt.trans (t := g) ⟨fun _ _ => rfl, fun _ _ => rfl, rfl, [], (List.append_nil _).symm⟩
        (hagreed.trans (hafter.toWritesAt.mono fun _ h => h.elim))
    have hlocker (n : Nat) : t.popHead.locker n = t.locker n := by rw [t.popHead_eq]; rfl
    have hcabin (c : Nat) : t.popHead.cabin c = t.cabin c := by rw [t.popHead_eq]; rfl
    have hbeyond : t.popHead.beyondReport = s.beyondReport := by
      refine Eq.trans ?_ hw.beyond
      rw [t.popHead_eq]
      rfl
    have hflags : t.popHead.module addr = { t.module addr with positions := (t.popHead.module addr).positions } :=
      State.meetHead_module _ addr
    simp only [State.beyondReport, Prod.mk.injEq] at hbeyond
    obtain ⟨hmap, hused, hwatches, hsettings, hsupply, hsweep, hports⟩ := hbeyond
    have hread {pos : Nat} {r : Reading} (hr : readings[pos]? = some r) : ∃ u : State,
        State.WritesAt (fun p => ∃ i, i ≠ pos ∧ p = placeAt addr i) (State.reconcileAt g addr cold u (r, pos)) t := by
      obtain ⟨before, after, hsplit, hne⟩ := zipIdx_split hr
      refine ⟨before.foldl (State.reconcileAt g addr cold) g, ?_⟩
      have hrest := State.writesAt_foldl_reconcileAt g addr cold after
        (State.reconcileAt g addr cold (before.foldl (State.reconcileAt g addr cold) g) (r, pos))
      rw [← List.foldl_cons, ← List.foldl_append, ← hsplit] at hrest
      exact (hrest.mono fun p ⟨e, he, hp⟩ => ⟨e.2, hne e he, hp⟩).trans (hafter.toWritesAt.mono fun _ h => h.elim)
    have hin {pos : Nat} {r : Reading} (hr : readings[pos]? = some r) : pos < positionCount addr :=
      hlen ▸ (List.getElem?_eq_some_iff.1 hr).1
    have helse {p : Place} (h : ∀ pos, pos < readings.length → placeAt addr pos ≠ p) :
        ¬∃ e ∈ readings.zipIdx, p = placeAt addr e.2 := fun ⟨e, he, hp⟩ =>
      h e.2 (List.getElem?_eq_some_iff.1 (List.mem_zipIdx_iff_getElem?.1 he)).1 hp.symm
    refine ⟨by rw [hflags, hmodule], by rw [hflags, hmodule], ?_, fun pos r n hr hp => ?_, fun pos r c hr hp => ?_,
      fun n hn => (hlocker n).trans (hw.lockers n (helse hn)), fun c hc => (hcabin c).trans (hw.cabins c (helse hc)), hmap, hused,
      hwatches, hsettings, hsupply, hsweep, hports⟩
    · obtain ⟨failed, hf⟩ := hw.handover
      refine ⟨failed, ?_⟩
      have hne : s.field.handover ≠ [] := fun hnil => by simp [State.grantingItem, State.waitingItem, hnil] at hg
      rw [t.popHead_eq]
      change t.field.handover.drop 1 = _
      rw [hf, List.drop_append_of_le_length (List.length_pos_of_ne_nil hne)]
    · obtain ⟨u, hu⟩ := hread hr
      have hn := placeAt_locker_range ⟨h1, h2⟩ (hin hr) hp
      rw [hlocker, hu.lockers n fun ⟨i, hi, h⟩ => hi (placeAt_injective (h.symm.trans hp.symm))]
      exact State.reconcileAt_locker g addr cold hn hp r u
    · obtain ⟨u, hu⟩ := hread hr
      have hc := placeAt_cabin_range (hin hr) hp
      rw [hcabin, hu.cabins c fun ⟨i, hi, h⟩ => hi (placeAt_injective (h.symm.trans hp.symm))]
      exact State.reconcileAt_cabin g addr cold hc hp r u

end Sys2Proof.Machine
end

section
/-! PROOFS. The field engine's turns (R117, R119, R123, R124, R136): when an exchange may begin, and where the poll walk goes. -/

namespace Sys2Proof.Machine

namespace State

variable {s : State}

/-! ### The poll walk (R123) -/

theorem dueIn_iff (s : State) (c x : Nat) :
    s.dueIn c x = true ↔ s.configured x = true ∧ (s.isSilent x = false ∨ c = 0) := by
  simp [dueIn]

theorem firstDue_some {c k a : Nat} (h : s.firstDue c k = some a) :
    k ≤ a ∧ s.dueIn c a = true ∧ ∀ x, k ≤ x → 1 ≤ x → x < a → ¬s.dueIn c x = true := by
  obtain ⟨h1, h2⟩ := firstDue_range h
  have hfound := List.find?_some h
  simp only [Bool.and_eq_true, decide_eq_true_eq] at hfound
  refine ⟨hfound.1, hfound.2, fun x hk hx hlt hdue => ?_⟩
  have hrising : (((List.range 144).map (· + 1)).Pairwise (· < ·)) :=
    List.pairwise_map.2 (List.pairwise_lt_range.imp fun h => Nat.succ_lt_succ h)
  have hmem : x ∈ (List.range 144).map (· + 1) := List.mem_map.2 ⟨x - 1, List.mem_range.2 (by omega), by omega⟩
  obtain rfl | hbehind := find?_before_of_pairwise hrising h hmem (by simp [hk, hdue])
  · exact Nat.lt_irrefl _ hlt
  · omega

theorem firstDue_none_iff (s : State) (c k : Nat) :
    s.firstDue c k = none ↔ ∀ x, k ≤ x → 1 ≤ x → x ≤ 144 → ¬s.dueIn c x = true := by
  unfold firstDue
  rw [List.find?_eq_none]
  refine ⟨fun h x hk h1 h2 hdue => ?_, fun h x hx hdue => ?_⟩
  · exact h x (List.mem_map.2 ⟨x - 1, List.mem_range.2 (by omega), by omega⟩) (by simp [hk, hdue])
  · obtain ⟨i, hi, rfl⟩ := List.mem_map.1 hx
    have := List.mem_range.1 hi
    simp only [Bool.and_eq_true, decide_eq_true_eq] at hdue
    exact h (i + 1) hdue.1 (by omega) (by omega) hdue.2

/-- The walk finds nothing exactly when no module is configured: in a cycle of count 0 every configured one is due. -/
theorem nextDue_none_iff (s : State) : s.nextDue = none ↔ ∀ x, 1 ≤ x → x ≤ 144 → s.configured x = false := by
  refine ⟨fun h x h1 h2 => ?_, fun h => ?_⟩
  · have h0 : s.firstDue 0 1 = none := by
      unfold nextDue at h
      split at h
      · cases h
      · split at h
        · cases h
        · exact Option.map_eq_none_iff.1 h
    have hnot := (s.firstDue_none_iff 0 1).1 h0 x h1 h1 h2
    simpa [dueIn_iff] using hnot
  · have hnone (c k : Nat) : s.firstDue c k = none :=
      (s.firstDue_none_iff c k).2 fun x _ h1 h2 hdue => by simp [dueIn_iff, h x h1 h2] at hdue
    simp [nextDue, hnone]

theorem nextDue_some {a c : Nat} (h : s.nextDue = some (a, c)) :
    (1 ≤ a ∧ a ≤ 144) ∧ s.dueIn c a = true ∧
      ((c = s.field.cycle ∧ s.field.pollPosition ≤ a ∧
          ∀ x, s.field.pollPosition ≤ x → 1 ≤ x → x < a → ¬s.dueIn c x = true) ∨
        ((∀ x, s.field.pollPosition ≤ x → 1 ≤ x → x ≤ 144 → ¬s.dueIn s.field.cycle x = true) ∧
          (∀ x, 1 ≤ x → x < a → ¬s.dueIn c x = true) ∧
          (c = (s.field.cycle + 1) % 16 ∨
            (c = 0 ∧ ∀ x, 1 ≤ x → x ≤ 144 → ¬s.dueIn ((s.field.cycle + 1) % 16) x = true)))) := by
  unfold nextDue at h
  split at h
  · rename_i b hb
    cases h
    obtain ⟨hk, hdue, hno⟩ := firstDue_some hb
    exact ⟨firstDue_range hb, hdue, .inl ⟨rfl, hk, hno⟩⟩
  · rename_i hcycle
    have hcycle := (s.firstDue_none_iff _ _).1 hcycle
    split at h
    · rename_i b hb
      cases h
      obtain ⟨-, hdue, hno⟩ := firstDue_some hb
      exact ⟨firstDue_range hb, hdue, .inr ⟨hcycle, fun x h1 hlt => hno x h1 h1 hlt, .inl rfl⟩⟩
    · rename_i hnext
      have hnext := (s.firstDue_none_iff _ _).1 hnext
      obtain ⟨b, hb, hac⟩ := Option.map_eq_some_iff.1 h
      cases hac
      obtain ⟨-, hdue, hno⟩ := firstDue_some hb
      exact ⟨firstDue_range hb, hdue, .inr ⟨hcycle, fun x h1 hlt => hno x h1 h1 hlt,
        .inr ⟨rfl, fun x h1 h2 => hnext x h1 h1 h2⟩⟩⟩

/-! ### Whose turn it is (R119, R124, R136) -/

theorem mayBegin_iff (s : State) : s.mayBegin = true ↔
    s.running = true ∧ s.field.exchange = none ∧ s.field.handover = [] ∧ s.field.startDelay = false := by
  simp [mayBegin, and_assoc]

theorem turn_of_mayBegin (h : s.mayBegin = true) : s.turn = s.choice := if_pos h

/-- The six rows that begin an exchange take the turn that stands; without one they leave the state as it stands. -/
theorem exec_without_turn (h : s.turn = none) {c : Instr}
    (hc : c ∈ [Instr.poll, .readState, .latch, .unlatch, .holdShow, .clearShow]) : exec c s = .next s := by
  simp only [List.mem_cons, List.not_mem_nil, or_false] at hc
  obtain rfl | rfl | rfl | rfl | rfl | rfl := hc
  · change execPoll s = _; unfold execPoll; rw [h]
  · change execReadState s = _; unfold execReadState; rw [h]
  · change execLatch s = _; unfold execLatch; rw [h]
  · change execUnlatch s = _; unfold execUnlatch; rw [h]
  · change execHoldShow s = _; unfold execHoldShow; rw [h]
  · change execClearShow s = _; unfold execClearShow; rw [h]

end State

/-- Settles O53: the choice of a turn case by case, and the walk by its searches. -/
theorem turnsAlternateAlongTheWalk : Obligations.TurnsAlternateAlongTheWalk := by
  unfold Obligations.TurnsAlternateAlongTheWalk
  refine ⟨fun s => ⟨s.mayBegin_iff, fun h => if_neg (ne_true_of_eq_false h), fun h c hc => State.exec_without_turn h hc⟩,
    fun s h => ?_, fun s => ?_⟩
  · rw [State.turn_of_mayBegin h]
    refine ⟨fun b hb => by simp [State.choice, hb], fun hb => ⟨fun cmd rest hl hq => ?_, fun a c hl hd => ?_,
      fun a c hl hq hd => ?_, fun cmd rest hl hq hd => ?_, fun hq hd => ?_⟩⟩
    · simp [State.choice, hb, hl, hq]
    · simp [State.choice, hb, hl, hd]
    · simp [State.choice, hb, hl, hq, hd]
    · simp [State.choice, hb, hl, hq, hd]
    · cases hl : s.field.lastTurn <;> simp [State.choice, hb, hl, hq, hd]
  · intro due after
    have hdue (c x : Nat) : s.dueIn c x = true ↔ due c x := s.dueIn_iff c x
    refine ⟨s.nextDue_none_iff, fun a c h => ?_⟩
    obtain ⟨⟨h1, h2⟩, hfound, hwhere⟩ := State.nextDue_some h
    simp only [hdue] at hfound hwhere
    exact ⟨h1, h2, hfound, hwhere⟩

end Sys2Proof.Machine
end

section
/-! PROOFS. The frames of the field loop and the exchanges that begin with them (R113, R114, R116, R117, R126, R197). -/

namespace Sys2Proof.Machine

/-- What a loop frame carries before its check: address, function, length and data. -/
def loopInner (addr function : Nat) (data : List Byte) : List Byte :=
  writeFields [(1, addr), (1, function), (1, data.length)] ++ data

theorem loopFrame_eq (addr function : Nat) (data : List Byte) :
    loopFrame addr function data = loopInner addr function data ++ [crc8 (loopInner addr function data)] := by
  simp [loopFrame, loopInner, writeFields]

theorem loopInner_length (addr function : Nat) (data : List Byte) :
    (loopInner addr function data).length = 3 + data.length := by
  simp [loopInner, writeFields_length]

theorem loopFrame_length (addr function : Nat) (data : List Byte) : (loopFrame addr function data).length = data.length + 4 := by
  rw [loopFrame_eq, List.length_append, loopInner_length, List.length_singleton]
  omega

theorem loopFrame_data (addr function : Nat) (data : List Byte) :
    ((loopFrame addr function data).drop 3).take data.length = data := by
  rw [loopFrame_eq, loopInner, List.append_assoc, List.drop_left' (by simp [writeFields_length]), List.take_left]

theorem loopFrame_rows (addr function : Nat) (data : List Byte) :
    let f := loopFrame addr function data
    holdsRows f
      [(0, 1, addr), (1, 1, function), (2, 1, data.length),
       (3 + data.length, 1, (crc8 (f.take (3 + data.length))).toNat)] := by
  intro f
  have hf : f = loopInner addr function data ++ [crc8 (loopInner addr function data)] := loopFrame_eq addr function data
  have hinner : f.take (3 + data.length) = loopInner addr function data := by
    rw [hf, ← loopInner_length addr function data, List.take_left]
  have hhead := holdsRows_head (d := f) (fs := [(1, addr), (1, function), (1, data.length)])
    (back := data ++ [crc8 (loopInner addr function data)]) (by rw [hf, loopInner, List.append_assoc]) rfl
  have htail := holdsRows_behind (d := f) (front := loopInner addr function data) (back := [])
    (fs := [(1, (crc8 (loopInner addr function data)).toNat)]) (off := 3 + data.length)
    (by rw [hf, byte_eq_field (crc8 _)]; simp [writeFields]) (loopInner_length addr function data) rfl
  rw [hinner]
  exact holdsRows_append hhead htail

namespace State

variable {s : State}

/-- The pending indications of a module's positions, as a POLL carries them (R114). -/
def pollCodes (s : State) (addr : Nat) : List Byte :=
  ((s.module addr).positions.toList.take (positionCount addr)).map fun q => BitVec.ofNat 8 (indicationCode q.shown)

theorem pollFrame_eq (s : State) (addr : Nat) :
    s.pollFrame addr = loopFrame addr 1 ((if s.supply.supply = .hold then 1#8 else 0#8) :: s.pollCodes addr) := by
  have hcodes : (((s.module addr).positions.toList.take (positionCount addr)).flatMap fun q =>
      bytesOf 1 (indicationCode q.shown)) = s.pollCodes addr := by
    rw [pollCodes, List.map_eq_flatMap]
    simp [bytesOf]
  have hflag : bytesOf 1 (yesNo (s.supply.supply == .hold)) = [if s.supply.supply = .hold then 1#8 else 0#8] := by
    by_cases h : s.supply.supply = .hold <;> simp [h, yesNo, bytesOf]
  unfold pollFrame
  rw [hcodes, hflag]
  rfl

theorem pollCodes_length (s : State) (addr : Nat) : (s.pollCodes addr).length = positionCount addr := by
  have := positionCount_le addr
  simp [pollCodes]
  omega

theorem pollCodes_getElem? (s : State) {addr i : Nat} (h : i < positionCount addr) :
    (s.pollCodes addr)[i]? =
      some (BitVec.ofNat 8 (indicationCode (tableGet (s.module addr).positions Position.blank i).shown)) := by
  have h := s.listed_getElem? addr h
  rw [listed] at h
  rw [pollCodes, List.getElem?_map, h]
  rfl

section Begins

variable {a c : Nat} {cmd : Command}

theorem exec_poll_turn (h : s.turn = some (.poll a c)) :
    exec .poll s = .next (if (s.module a).resync then s else s.beginPoll a c .poll (s.pollFrame a)) := by
  change execPoll s = _
  unfold execPoll
  rw [h]

theorem exec_readState_turn (h : s.turn = some (.poll a c)) :
    exec .readState s = .next (if (s.module a).resync then s.beginPoll a c .readState (loopFrame a 4 []) else s) := by
  change execReadState s = _
  unfold execReadState
  rw [h]

theorem exec_latch_turn (h : s.turn = some (.command cmd)) :
    exec .latch s = .next (if cmd.action = .latch then s.beginCommand cmd 2 else s) := by
  change execLatch s = _
  unfold execLatch
  rw [h]

theorem exec_unlatch_turn (h : s.turn = some (.command cmd)) :
    exec .unlatch s = .next (if cmd.action = .unlatch then s.beginCommand cmd 3 else s) := by
  change execUnlatch s = _
  unfold execUnlatch
  rw [h]

theorem exec_holdShow_turn (h : s.turn = some (.broadcast .hold)) : exec .holdShow s = .next (s.sendBroadcast 5) := by
  change execHoldShow s = _
  unfold execHoldShow
  rw [h]

theorem exec_clearShow_turn (h : s.turn = some (.broadcast .clear)) : exec .clearShow s = .next (s.sendBroadcast 6) := by
  change execClearShow s = _
  unfold execClearShow
  rw [h]

end Begins

end State

/-- Settles O54: the layout of a loop frame, and each row that begins an exchange by its turn. -/
theorem exchangesBeginWithTheirFrame : Obligations.ExchangesBeginWithTheirFrame := by
  unfold Obligations.ExchangesBeginWithTheirFrame
  refine ⟨?_, fun s => ⟨fun a h1 h2 => ⟨s.pollCodes a, s.pollFrame_eq a, ?_, fun i hi => ?_⟩, ?_, ?_, fun h => ?_, fun h => ?_,
    fun h => ?_⟩⟩
  · intro addr function data f
    exact ⟨loopFrame_length _ _ _, loopFrame_data _ _ _, loopFrame_rows _ _ _⟩
  · rw [s.pollCodes_length, positionCount_eq]
    exact if_congr (by omega) rfl rfl
  · rw [s.pollCodes_getElem? (s.pollCodes_length a ▸ hi)]
    rcases (tableGet (s.module a).positions Position.blank i).shown with _ | _ | _ | _ <;> rfl
  · intro a c h begun
    exact ⟨fun hr => (State.exec_poll_turn h).trans (congrArg _ (if_neg (ne_true_of_eq_false hr))),
      fun hr => (State.exec_readState_turn h).trans (congrArg _ (if_pos hr))⟩
  · intro cmd h begun
    exact ⟨fun ha => (State.exec_latch_turn h).trans (congrArg _ (if_pos ha)),
      fun ha => (State.exec_unlatch_turn h).trans (congrArg _ (if_pos ha))⟩
  · exact State.exec_holdShow_turn h
  · exact State.exec_clearShow_turn h
  · exact congrArg Host.Outcome.next (if_pos h)

end Sys2Proof.Machine
end

section
/-! PROOFS. Exchanges that end: a valid reply, and attempts that fail (R113 to R116, R119, R121, R127, R128). -/

namespace Sys2Proof.Machine

namespace State

variable {s t : State}

/-! ### A position of a module's record changed -/

section Positions

variable (s) {a pos : Nat} (f : Position → Position)

theorem updPosition_self (ha : 1 ≤ a ∧ a ≤ 144) (hp : pos < 8) :
    tableGet ((s.updPosition a pos f).module a).positions Position.blank pos =
      f (tableGet (s.module a).positions Position.blank pos) := by
  unfold updPosition
  rw [setModule_module_self s _ ha]
  exact tableGet_tableSet_self _ _ _ hp

theorem updPosition_ne {i : Nat} (h : pos ≠ i) (ha : 1 ≤ a ∧ a ≤ 144) :
    tableGet ((s.updPosition a pos f).module a).positions Position.blank i =
      tableGet (s.module a).positions Position.blank i := by
  unfold updPosition
  rw [setModule_module_self s _ ha]
  exact tableGet_tableSet_ne _ _ _ h

/-- Changing positions, and handing items over, leave the rest of every module's record as it stands. -/
theorem updPosition_flags (b : Nat) :
    ((s.updPosition a pos f).module b).silent = (s.module b).silent ∧
      ((s.updPosition a pos f).module b).failures = (s.module b).failures ∧
      ((s.updPosition a pos f).module b).resync = (s.module b).resync ∧
      ((s.updPosition a pos f).module b).coldRead = (s.module b).coldRead := by
  rw [s.updPosition_module a pos f b]
  exact ⟨rfl, rfl, rfl, rfl⟩

theorem handOver_flags (items : List HandItem) (b : Nat) :
    ((s.handOver items).module b).silent = (s.module b).silent ∧
      ((s.handOver items).module b).failures = (s.module b).failures ∧
      ((s.handOver items).module b).resync = (s.module b).resync ∧
      ((s.handOver items).module b).coldRead = (s.module b).coldRead := by
  rw [s.handOver_module items b]
  exact ⟨rfl, rfl, rfl, rfl⟩

end Positions

/-- What an exchange's end leaves alone but for the notices: the tables, the settings, the supply, the exchange as cleared. -/
structure SameTables (s t : State) : Prop where
  engine : t.engine = s.engine
  settings : t.settings = s.settings
  notices : t.notices = s.notices
  queue : t.field.queue = s.field.queue
  exchange : t.field.exchange = s.field.exchange
  supply : t.supply = s.supply

theorem SameTables.trans {u : State} (h : SameTables s t) (k : SameTables t u) : SameTables s u :=
  ⟨k.engine.trans h.engine, k.settings.trans h.settings, k.notices.trans h.notices, k.queue.trans h.queue,
    k.exchange.trans h.exchange, k.supply.trans h.supply⟩

theorem sameTables_setModule (s : State) (a : Nat) (m : Module) : SameTables s (s.setModule a m) := by
  constructor <;> simp

theorem sameTables_updPosition (s : State) (a pos : Nat) (f : Position → Position) : SameTables s (s.updPosition a pos f) :=
  s.sameTables_setModule a _

theorem sameTables_handOver (s : State) (items : List HandItem) : SameTables s (s.handOver items) := by
  constructor <;> rw [handOver_eq]

theorem sameTables_readPositions (s : State) (a : Nat) (cells : List Reading) : SameTables s (s.readPositions a cells) := by
  unfold readPositions
  generalize cells.zipIdx = l
  induction l generalizing s with
  | nil => exact ⟨rfl, rfl, rfl, rfl, rfl, rfl⟩
  | cons e l ih => exact (s.sameTables_updPosition _ _ _).trans (ih _)

theorem handover_setModule (s : State) (a : Nat) (m : Module) : (s.setModule a m).field.handover = s.field.handover := by simp

/-! ### A module's readings stored (R116) -/

theorem readPositions_flags (s : State) (a : Nat) (cells : List Reading) (b : Nat) :
    ((s.readPositions a cells).module b).silent = (s.module b).silent ∧
      ((s.readPositions a cells).module b).failures = (s.module b).failures ∧
      ((s.readPositions a cells).module b).resync = (s.module b).resync ∧
      ((s.readPositions a cells).module b).coldRead = (s.module b).coldRead :=
  ⟨foldl_keeps (fun t => (t.module b).silent) (fun t _ => (t.updPosition_flags _ b).1) _ s,
    foldl_keeps (fun t => (t.module b).failures) (fun t _ => (t.updPosition_flags _ b).2.1) _ s,
    foldl_keeps (fun t => (t.module b).resync) (fun t _ => (t.updPosition_flags _ b).2.2.1) _ s,
    foldl_keeps (fun t => (t.module b).coldRead) (fun t _ => (t.updPosition_flags _ b).2.2.2) _ s⟩

theorem readPositions_handover (s : State) (a : Nat) (cells : List Reading) :
    (s.readPositions a cells).field.handover = s.field.handover :=
  foldl_keeps (fun t => t.field.handover) (fun t _ => t.handover_setModule _ _) _ s

theorem foldl_updPosition_ne {a i : Nat} (ha : 1 ≤ a ∧ a ≤ 144) (f : Reading × Nat → Position → Position)
    {l : List (Reading × Nat)} (hl : ∀ e ∈ l, e.2 ≠ i) (s : State) :
    tableGet ((l.foldl (fun t e => t.updPosition a e.2 (f e)) s).module a).positions Position.blank i =
      tableGet (s.module a).positions Position.blank i := by
  induction l generalizing s with
  | nil => rfl
  | cons e l ih =>
    rw [List.foldl_cons, ih fun x hx => hl x (List.mem_cons_of_mem e hx)]
    exact s.updPosition_ne _ (hl e List.mem_cons_self) ha

theorem readPositions_position (s : State) {a i : Nat} {cells : List Reading} {r : Reading} (ha : 1 ≤ a ∧ a ≤ 144)
    (hlen : cells.length ≤ 8) (hr : cells[i]? = some r) :
    (tableGet ((s.readPositions a cells).module a).positions Position.blank i).latch = r.latch ∧
      (tableGet ((s.readPositions a cells).module a).positions Position.blank i).door = r.door := by
  obtain ⟨before, after, hsplit, hne⟩ := zipIdx_split hr
  have hi : i < 8 := Nat.lt_of_lt_of_le (List.getElem?_eq_some_iff.1 hr).1 hlen
  unfold readPositions
  rw [hsplit, List.foldl_append, List.foldl_cons,
    foldl_updPosition_ne ha (fun e q => { q with latch := e.1.latch, door := e.1.door }) hne, updPosition_self _ _ ha hi]
  exact ⟨rfl, rfl⟩

/-! ### A module that answers (R127, R128) -/

section Answered

variable (s) {a : Nat} (ha : 1 ≤ a ∧ a ≤ 144)

theorem moduleAnswered_online (h : (s.module a).silent = false) :
    s.moduleAnswered a = s.setModule a { s.module a with silent := false, failures := 0 } := by
  unfold moduleAnswered
  simp [h]

theorem moduleAnswered_back (h : (s.module a).silent = true) :
    s.moduleAnswered a = (s.setModule a { s.module a with silent := false, failures := 0, resync := true }).notify .moduleBack
      (some (.station a)) none := by
  unfold moduleAnswered
  simp [h]

include ha

theorem clearCarried_module (renewed : List Nat) :
    (s.clearCarried a renewed).module a =
      { s.module a with
        positions := tableMap (fun i q => if renewed.contains i then q else { q with shown := none })
          (s.module a).positions } := setModule_module_self s _ ha

theorem clearCarried_shown (renewed : List Nat) (i : Nat) :
    (tableGet ((s.clearCarried a renewed).module a).positions Position.blank i).shown =
      if i ∈ renewed then (tableGet (s.module a).positions Position.blank i).shown else none := by
  rw [s.clearCarried_module ha]
  by_cases hi : i < 8
  · dsimp only
    rw [tableGet_tableMap _ _ Position.blank _ hi]
    by_cases h : i ∈ renewed <;> simp [h]
  · dsimp only
    rw [tableGet_of_le _ _ (Nat.not_lt.1 hi), tableGet_of_le _ _ (Nat.not_lt.1 hi)]
    split <;> rfl

end Answered

end State

end Sys2Proof.Machine
end

section
/-! PROOFS. A valid reply ends its exchange (R113 to R116, R119, R121, R128). -/

namespace Sys2Proof.Machine

namespace State

variable {s t : State}

theorem exec_moduleReply_valid {bytes : List Byte} {x : Exchange} {content : ReplyContent} (hr : s.running = true)
    (hx : s.field.exchange = some x) (hc : checkReply x bytes = some content) :
    exec (.moduleReply bytes) s = .next (s.succeed x content) := by
  change execModuleReply bytes s = _
  simp [execModuleReply, hx, hr, hc]

theorem exec_moduleReply_invalid {bytes : List Byte} {x : Exchange} (hr : s.running = true)
    (hx : s.field.exchange = some x) (hc : checkReply x bytes = none) :
    exec (.moduleReply bytes) s = .next (s.attemptFails x) := by
  change execModuleReply bytes s = _
  simp [execModuleReply, hx, hr, hc]

theorem exec_attemptTimeout {x : Exchange} (hr : s.running = true) (hx : s.field.exchange = some x) :
    exec .attemptTimeout s = .next (s.attemptFails x) := by
  change execAttemptTimeout s = _
  simp [execAttemptTimeout, hx, hr]

section Succeeds

variable {a : Nat} (ha : 1 ≤ a ∧ a ≤ 144) {lost : Bool} {events : List Event}

/-- The record from which the events are handed over. -/
def lostMarked (s : State) (a : Nat) (lost : Bool) : State :=
  if lost then s.setModule a { s.module a with resync := true } else s

theorem sameTables_lostMarked (s : State) (a : Nat) (lost : Bool) : SameTables s (s.lostMarked a lost) := by
  unfold lostMarked
  split
  · exact s.sameTables_setModule a _
  · exact ⟨rfl, rfl, rfl, rfl, rfl, rfl⟩

theorem lostMarked_handover (s : State) (a : Nat) (lost : Bool) :
    (s.lostMarked a lost).field.handover = s.field.handover := by
  unfold lostMarked
  split
  · exact s.handover_setModule a _
  · rfl

theorem sameTables_pollYields (s : State) (a : Nat) (lost : Bool) (events : List Event) :
    SameTables s (s.pollYields a lost events) := (s.sameTables_lostMarked a lost).trans (sameTables_handOver _ _)

theorem pollYields_handover (s : State) (a : Nat) (lost : Bool) (events : List Event) :
    (s.pollYields a lost events).field.handover = s.field.handover ++ events.map (HandItem.event a) :=
  (handOver_handover (s.lostMarked a lost) _).trans (congrArg (· ++ _) (s.lostMarked_handover a lost))

include ha

theorem lostMarked_module (s : State) (lost : Bool) :
    (s.lostMarked a lost).module a = { s.module a with resync := (s.module a).resync || lost } := by
  unfold lostMarked
  cases lost with
  | true => simpa using setModule_module_self s _ ha
  | false => simp

theorem pollYields_record (s : State) (lost : Bool) (events : List Event) :
    ((s.pollYields a lost events).module a).silent = (s.module a).silent ∧
      ((s.pollYields a lost events).module a).failures = (s.module a).failures ∧
      ((s.pollYields a lost events).module a).resync = ((s.module a).resync || lost) ∧
      ∀ i, (tableGet ((s.pollYields a lost events).module a).positions Position.blank i).shown =
        (tableGet (s.module a).positions Position.blank i).shown := by
  have hm := lostMarked_module ha s lost
  have hflags := (s.lostMarked a lost).handOver_flags (events.map (HandItem.event a)) a
  refine ⟨hflags.1.trans (by rw [hm]), hflags.2.1.trans (by rw [hm]), hflags.2.2.1.trans (by rw [hm]), fun i => ?_⟩
  exact (handOver_shown (s.lostMarked a lost) _ a i).trans (by rw [hm])

end Succeeds

/-! ### What becomes of the hand-over list's head does not touch a record where it is no door or handle event -/

theorem handOver_outcome_module (s : State) (cmd : Command) (r : CommandResult) (b : Nat) :
    (s.handOver [.outcome cmd r]).module b = s.module b := by
  rw [show [HandItem.outcome cmd r] = [cmd].map fun c => HandItem.outcome c r from rfl, handOver_outcomes]
  rfl

theorem handOver_report_module (s : State) (a : Nat) (cells : List Reading) (cold : Bool) (b : Nat) :
    (s.handOver [.report a cells cold]).module b = s.module b := by
  unfold handOver
  cases h : s.field.handover with
  | nil => rfl
  | cons item rest => simp [module]

/-! ### The module that has answered, whatever its reply says -/

section Record

variable (s) (x : Exchange) (ha : 1 ≤ x.addr ∧ x.addr ≤ 144)

theorem sameTables_endExchange_answered (h : (s.module x.addr).silent = false) :
    SameTables s.endExchange (s.endExchange.moduleAnswered x.addr) := by
  rw [s.endExchange.moduleAnswered_online h]
  exact sameTables_setModule _ _ _

theorem answered_handover : (s.endExchange.moduleAnswered x.addr).field.handover = s.field.handover := by
  cases h : (s.module x.addr).silent with
  | false => rw [s.endExchange.moduleAnswered_online h, handover_setModule]; rfl
  | true =>
    rw [s.endExchange.moduleAnswered_back h]
    exact handover_setModule _ _ _

theorem back_notices (h : (s.module x.addr).silent = true) :
    (s.endExchange.moduleAnswered x.addr).notices = (s.notify .moduleBack (some (.station x.addr)) none).notices := by
  rw [s.endExchange.moduleAnswered_back h]
  simp [notify, endExchange]
  rfl

include ha

theorem answered_module : (s.endExchange.moduleAnswered x.addr).module x.addr =
    { s.module x.addr with
      silent := false, failures := 0, resync := (s.module x.addr).resync || (s.module x.addr).silent } := by
  cases h : (s.module x.addr).silent with
  | false =>
    rw [s.endExchange.moduleAnswered_online h, setModule_module_self _ _ ha]
    simp [endExchange, module]
  | true =>
    rw [s.endExchange.moduleAnswered_back h, notify_module, setModule_module_self _ _ ha]
    simp [endExchange, module]

theorem succeed_record (content : ReplyContent) :
    ((s.succeed x content).module x.addr).silent = false ∧ ((s.succeed x content).module x.addr).failures = 0 ∧
      ((s.module x.addr).silent = true → ((s.succeed x content).module x.addr).resync = true) := by
  have hm := s.answered_module x ha
  unfold succeed
  generalize s.endExchange.moduleAnswered x.addr = t at hm
  have hbase : (t.module x.addr).silent = false ∧ (t.module x.addr).failures = 0 ∧
      ((s.module x.addr).silent = true → (t.module x.addr).resync = true) := by
    rw [hm]
    exact ⟨rfl, rfl, fun h => by simp [h]⟩
  cases content with
  | poll lost events =>
    have hc := t.clearCarried_module ha x.renewed
    dsimp only
    split
    · rw [hc]
      exact hbase
    · rename_i hsilent
      obtain ⟨hs, hf, -, -⟩ := pollYields_record ha (t.clearCarried x.addr x.renewed) lost events
      rw [hc] at hs hf
      exact ⟨hs.trans hbase.1, hf.trans hbase.2.1, fun h => absurd h hsilent⟩
  | outcome cmd r =>
    dsimp only
    rw [handOver_outcome_module]
    obtain ⟨h1, h2, h3, -⟩ := t.updPosition_flags (Position.after cmd.action r) (a := cmd.addr) (pos := cmd.pos) x.addr
    rw [h1, h2, h3]
    exact hbase
  | readings cells =>
    dsimp only
    rw [handOver_report_module]
    obtain ⟨h1, h2, h3, -⟩ := t.readPositions_flags x.addr cells x.addr
    rw [h1, h2, h3]
    exact hbase

end Record

section Whole

variable (s) (x : Exchange) (ha : 1 ≤ x.addr ∧ x.addr ≤ 144)

theorem succeed_poll_online (h : (s.module x.addr).silent = false) (lost : Bool) (events : List Event) :
    s.succeed x (.poll lost events) =
      ((s.endExchange.moduleAnswered x.addr).clearCarried x.addr x.renewed).pollYields x.addr lost events :=
  if_neg (ne_true_of_eq_false h)

theorem succeed_poll_back (h : (s.module x.addr).silent = true) (lost : Bool) (events : List Event) :
    s.succeed x (.poll lost events) = (s.endExchange.moduleAnswered x.addr).clearCarried x.addr x.renewed := if_pos h

theorem sameTables_succeed (h : (s.module x.addr).silent = false) (content : ReplyContent) :
    SameTables s.endExchange (s.succeed x content) := by
  refine (s.sameTables_endExchange_answered x h).trans ?_
  cases content with
  | poll lost events =>
    rw [s.succeed_poll_online x h]
    exact (sameTables_setModule _ _ _).trans (sameTables_pollYields _ _ _ _)
  | outcome cmd r => exact (sameTables_updPosition _ _ _ _).trans (sameTables_handOver _ _)
  | readings cells => exact (sameTables_readPositions _ _ _).trans (sameTables_handOver _ _)

/-- Nothing else that a reply does raises a notice. -/
theorem succeed_back_notices (h : (s.module x.addr).silent = true) (content : ReplyContent) :
    (s.succeed x content).notices = (s.notify .moduleBack (some (.station x.addr)) none).notices := by
  refine Eq.trans ?_ (s.back_notices x h)
  cases content with
  | poll lost events =>
    rw [s.succeed_poll_back x h]
    exact (sameTables_setModule _ _ _).notices
  | outcome cmd r => exact ((sameTables_updPosition _ _ _ _).trans (sameTables_handOver _ _)).notices
  | readings cells => exact ((sameTables_readPositions _ _ _).trans (sameTables_handOver _ _)).notices

end Whole

end State

/-- Settles O55, by what the reply's content yields, the module ONLINE or back from silence. -/
theorem validReplyEndsTheExchangeWhole : Obligations.ValidReplyEndsTheExchangeWhole := by
  unfold Obligations.ValidReplyEndsTheExchangeWhole
  refine ⟨fun bytes x s hr hx h1 h2 hon => ?_, fun bytes x content s hr hx h1 h2 hback hc => ?_⟩
  · have ha : 1 ≤ x.addr ∧ x.addr ≤ 144 := ⟨h1, h2⟩
    have hm := s.answered_module x ha
    rw [hon, Bool.or_false] at hm
    have hlist := s.answered_handover x
    refine ⟨fun lost events hc => ?_, fun cmd result hc haddr hpos => ?_, fun cells hc hlen => ?_⟩
    · obtain ⟨hengine, hsettings, hnotices, -, hexchange, -⟩ := s.sameTables_succeed x hon (.poll lost events)
      refine ⟨_, State.exec_moduleReply_valid hr hx hc, hexchange, ?_, (s.succeed_record x ha _).2.1, ?_, fun i hi hout => ?_,
        fun i hin => ?_, hengine, hsettings, hnotices⟩ <;> rw [s.succeed_poll_online x hon]
      · rw [State.pollYields_handover, State.clearCarried, State.handover_setModule, hlist]
      all_goals
        obtain ⟨-, -, hresync, hshown⟩ := State.pollYields_record ha
          ((s.endExchange.moduleAnswered x.addr).clearCarried x.addr x.renewed) lost events
      · rw [hresync, State.clearCarried_module _ ha, hm]
      · rw [hshown, State.clearCarried_shown _ ha, if_neg hout]
      · rw [hshown, State.clearCarried_shown _ ha, if_pos hin, hm]
    · obtain ⟨hengine, hsettings, hnotices, -, hexchange, -⟩ := s.sameTables_succeed x hon (.outcome cmd result)
      refine ⟨_, State.exec_moduleReply_valid hr hx hc, hexchange, ?_, (s.succeed_record x ha _).2.1, ?_,
        hengine, hsettings, hnotices⟩
      · exact (State.handOver_handover _ _).trans (congrArg (· ++ _) ((State.handover_setModule _ _ _).trans hlist))
      · intro was
        dsimp only [State.succeed]
        rw [State.handOver_outcome_module, haddr, State.updPosition_self _ _ ha hpos, hm]
        rfl
    · obtain ⟨hengine, hsettings, hnotices, -, hexchange, -⟩ := s.sameTables_succeed x hon (.readings cells)
      refine ⟨_, State.exec_moduleReply_valid hr hx hc, hexchange, ?_, (s.succeed_record x ha _).2.1, fun i r hcell => ?_,
        hengine, hsettings, hnotices⟩
      · exact (State.handOver_handover _ _).trans (congrArg (· ++ _) ((State.readPositions_handover _ _ _).trans hlist))
      · dsimp only [State.succeed]
        rw [State.handOver_report_module]
        exact State.readPositions_position _ ha hlen hcell
  · have ha : 1 ≤ x.addr ∧ x.addr ≤ 144 := ⟨h1, h2⟩
    obtain ⟨hsilent, hfailures, hresync⟩ := s.succeed_record x ha content
    refine ⟨_, State.exec_moduleReply_valid hr hx hc, hsilent, hfailures, hresync hback, s.succeed_back_notices x hback content,
      fun lost events hpoll => ?_⟩
    rw [hpoll, s.succeed_poll_back x hback]
    exact (State.handover_setModule _ _ _).trans (s.answered_handover x)

end Sys2Proof.Machine
end

section
/-! PROOFS. Attempts that fail, and the module they silence (R113 to R115, R119, R127). -/

namespace Sys2Proof.Machine

namespace State

variable {s t : State}

/-- The outcome that a FAILED exchange hands over (R115). -/
def failedItems (x : Exchange) : List HandItem :=
  match x.kind with
  | .command cmd => [.outcome cmd .failed]
  | _ => []

section Outcome

variable (s) (x : Exchange)

theorem sameTables_failOutcome : SameTables s (s.failOutcome x) := by
  unfold failOutcome
  split
  · exact (sameTables_updPosition _ _ _ _).trans (sameTables_handOver _ _)
  · exact ⟨rfl, rfl, rfl, rfl, rfl, rfl⟩

theorem failOutcome_handover : (s.failOutcome x).field.handover = s.field.handover ++ failedItems x := by
  unfold failOutcome failedItems
  cases x.kind with
  | command cmd => exact (handOver_handover _ _).trans (congrArg (· ++ _) (handover_setModule _ _ _))
  | _ => exact (List.append_nil _).symm

theorem failOutcome_flags (b : Nat) :
    ((s.failOutcome x).module b).silent = (s.module b).silent ∧
      ((s.failOutcome x).module b).failures = (s.module b).failures := by
  unfold failOutcome
  cases x.kind with
  | command cmd =>
    obtain ⟨h1, h2, -⟩ := s.updPosition_flags (Position.after cmd.action .failed) (a := cmd.addr) (pos := cmd.pos) b
    dsimp only
    rw [handOver_outcome_module, h1, h2]
    exact ⟨rfl, rfl⟩
  | _ => exact ⟨rfl, rfl⟩

theorem failOutcome_shown (b i : Nat) :
    (tableGet ((s.failOutcome x).module b).positions Position.blank i).shown =
      (tableGet (s.module b).positions Position.blank i).shown := by
  unfold failOutcome
  cases x.kind with
  | command cmd =>
    dsimp only
    rw [handOver_outcome_module]
    exact s.updPosition_shown _ _ (f := Position.after cmd.action .failed) (fun _ => rfl) b i
  | _ => rfl

/-- The exchange ended with its failure counted and its outcome handed over, before the module may become SILENT. -/
def failPassed (s : State) (x : Exchange) : State :=
  (s.endExchange.setModule x.addr
    { s.module x.addr with failures := min 3 ((s.module x.addr).failures + 1) }).failOutcome x

theorem fail_eq : s.fail x =
    if 2 ≤ (s.module x.addr).failures ∧ (s.module x.addr).silent = false then (s.failPassed x).silence x.addr
    else s.failPassed x := rfl

theorem sameTables_failPassed : SameTables s.endExchange (s.failPassed x) :=
  (sameTables_setModule _ _ _).trans (sameTables_failOutcome _ _)

theorem failPassed_handover : (s.failPassed x).field.handover = s.field.handover ++ failedItems x :=
  (failOutcome_handover _ x).trans (congrArg (· ++ _) (handover_setModule _ _ _))

theorem failPassed_record (ha : 1 ≤ x.addr ∧ x.addr ≤ 144) :
    ((s.failPassed x).module x.addr).silent = (s.module x.addr).silent ∧
      ((s.failPassed x).module x.addr).failures = min 3 ((s.module x.addr).failures + 1) ∧
      ∀ i, (tableGet ((s.failPassed x).module x.addr).positions Position.blank i).shown =
        (tableGet (s.module x.addr).positions Position.blank i).shown := by
  unfold failPassed
  obtain ⟨h1, h2⟩ := (s.endExchange.setModule x.addr
    { s.module x.addr with failures := min 3 ((s.module x.addr).failures + 1) }).failOutcome_flags x x.addr
  rw [h1, h2, setModule_module_self _ _ ha]
  refine ⟨rfl, rfl, fun i => ?_⟩
  rw [failOutcome_shown, setModule_module_self _ _ ha]

end Outcome

/-! ### A module that becomes SILENT (R127) -/

section Silence

variable (s) {a : Nat} (ha : 1 ≤ a ∧ a ≤ 144)

/-- The module's record and the notice, before its queue entries fail. -/
def quieted (s : State) (a : Nat) : State :=
  (s.setModule a { clearIndications (s.module a) with silent := true }).notify .moduleSilent (some (.station a)) none

theorem silence_eq : s.silence a =
    { s.quieted a with
      field.queue := s.field.queue.filter fun c => c.addr != a,
      field.handover := s.field.handover ++ (s.field.queue.filter fun c => c.addr == a).map fun c => .outcome c .failed,
      field.waitingHeld :=
        if s.field.handover = [] ∧ (s.field.queue.filter fun c => c.addr == a) ≠ [] then false
        else s.field.waitingHeld } := by
  have h := (s.quieted a).failEntries_eq a
  have hq : (s.quieted a).field.queue = s.field.queue := by simp [quieted]
  have hh : (s.quieted a).field.handover = s.field.handover := by simp [quieted]
  have hw : (s.quieted a).field.waitingHeld = s.field.waitingHeld := by simp [quieted]
  rw [hq, hh, hw] at h
  exact h

theorem silence_notices : (s.silence a).notices = (s.notify .moduleSilent (some (.station a)) none).notices := by
  rw [silence_eq]
  simp [quieted, notify]

theorem silence_tables : (s.silence a).engine = s.engine ∧ (s.silence a).settings = s.settings ∧
    (s.silence a).field.exchange = s.field.exchange := by
  rw [silence_eq]
  simp [quieted]

include ha

theorem silence_module : (s.silence a).module a = { clearIndications (s.module a) with silent := true } := by
  rw [silence_eq]
  have e : (s.quieted a).module a = _ := (notify_module _ _ _ _ _).trans (setModule_module_self s _ ha)
  exact e

end Silence

end State

/-- Settles O56: attempts one to three, and the third FAILED exchange of an ONLINE module. -/
theorem failedAttemptsSilenceTheModule : Obligations.FailedAttemptsSilenceTheModule := by
  unfold Obligations.FailedAttemptsSilenceTheModule
  intro x s hr hx h1 h2
  have ha : 1 ≤ x.addr ∧ x.addr ≤ 144 := ⟨h1, h2⟩
  refine ⟨fun h => (State.exec_attemptTimeout hr hx).trans (congrArg _ (if_pos h)), fun bytes hc =>
    (State.exec_moduleReply_invalid hr hx hc).trans (State.exec_attemptTimeout hr hx).symm, fun h => ?_⟩
  have hexec : exec .attemptTimeout s = .next (s.fail x) :=
    (State.exec_attemptTimeout hr hx).trans (congrArg _ (if_neg (Nat.not_lt.2 h)))
  obtain ⟨hengine, hsettings, hnotices, hqueue, hexchange, hsupply⟩ := s.sameTables_failPassed x
  obtain ⟨hsilent, hfailures, hshown⟩ := s.failPassed_record x ha
  have hlist := s.failPassed_handover x
  by_cases hq : 2 ≤ (s.module x.addr).failures ∧ (s.module x.addr).silent = false
  · have hfail : s.fail x = (s.failPassed x).silence x.addr := (s.fail_eq x).trans (if_pos hq)
    obtain ⟨hthird, honline⟩ := hq
    obtain ⟨he, hs, hxe⟩ := (s.failPassed x).silence_tables (a := x.addr)
    have hm := (s.failPassed x).silence_module ha
    rw [hfail] at hexec
    refine ⟨_, hexec, hxe.trans hexchange, by rw [hm]; exact hfailures, he.trans hengine, hs.trans hsettings, ?_, ?_⟩
    · intro outcome hcase
      obtain hfew | hwas := hcase
      · omega
      · exact absurd (honline.symm.trans hwas) nofun
    · intro outcome _ _
      refine ⟨by rw [hm], fun i hi => ?_, ?_, ?_, ?_⟩
      · rw [hm]
        exact congrArg Position.shown (State.clearIndications_position _ hi)
      · rw [State.silence_eq]
        exact congrArg (List.filter _) hqueue
      · rw [State.silence_eq]
        change (s.failPassed x).field.handover ++ _ = _
        rw [hlist, hqueue]
        rfl
      · rw [State.silence_notices, State.notify, State.now, hnotices, hsupply]
        rfl
  · have hfail : s.fail x = s.failPassed x := (s.fail_eq x).trans (if_neg hq)
    rw [hfail] at hexec
    refine ⟨_, hexec, hexchange, hfailures, hengine, hsettings, ?_, ?_⟩
    · intro outcome _
      exact ⟨hlist, hqueue, hnotices, hsilent, fun i _ => hshown i⟩
    · intro outcome h3 honline
      exact absurd ⟨Nat.le_of_succ_le_succ h3, honline⟩ hq

end Sys2Proof.Machine
end

section
/-! PROOFS. The supply unit and cold starts (R32, R67, R85, R135 to R137, R184, R189 to R193). -/

namespace Sys2Proof.Machine

namespace State

variable {s : State}

/-! ### The blocks stop (R135, R149, R184) -/

theorem stopBlocks_port (s : State) (p : PortId) :
    s.stopBlocks.port p = { s.port p with link := .stopped, ready := [] } := PerPort.get_map _ _ _

theorem enterDown_eq (s : State) : s.enterDown =
    { s with
      supply := { s.supply with supply := .down, restoring := false, resetHeld := false, lpen := false,
                                store := if s.supply.save = none then s.supply.store else none, save := none },
      ports := s.ports.map stopPort,
      sweep.waiting := false,
      field := { s.field with exchange := none, handover := [], waitingHeld := false, broadcast := none } } := by
  unfold enterDown stopBlocks
  cases s.supply.save <;> rfl

theorem exec_supplyDown (h : s.supply.supply ≠ .down) :
    exec .supplyDown s = .next (if s.supply.supply = .normal then s.enterHold.enterDown else s.enterDown) := by
  change execSupplyDown s = _
  unfold execSupplyDown
  split
  · rename_i hn
    rw [if_pos hn]
  · rename_i hh
    rw [if_neg (by rw [hh]; exact nofun)]
  · exact absurd ‹_› h

/-! ### A cold start (R32, R36, R67, R85, R137, R158, R172, R193) -/

/-- The settings that a cold start loads. -/
def loaded (s : State) : Settings := s.supply.store.getD Settings.factory

theorem coldStart_eq (s : State) (straps : Straps) : s.coldStart straps =
    { s with
      settings := s.loaded,
      engine := coldEngine s.loaded s.now,
      watches := Vector.replicate 4 Watch.blank,
      ports := { cp0 := Port.idle, cp1 := Port.idle, cp2 := Port.idle },
      portRate := straps.portRate,
      notices :=
        { raised := if s.supply.store = none then
            [{ kind := .settingsLost, place := none, serial := none, time := s.now, hit := none }] else [],
          queues := { cp0 := [], cp1 := [], cp2 := [] },
          overflow := { cp0 := false, cp1 := false, cp2 := false },
          alarms := [],
          alarmOverflow := false },
      field := startedField (tableMap (fun _ c => Module.blank c.configured) s.loaded.modules) s.supply.supply straps.loopRate,
      sweep := { index := 1, remaining := 3135, waiting := false },
      supply := { s.supply with clockValid := false, retention := true, resetHeld := false } } := by
  unfold coldStart
  cases h : s.supply.store <;> simp [startCommon, notify, loaded, h, now, Config.roundSteps]

section Tables

variable (v : Settings) (clock : Nat)

/-- Does a configuration fit the module at an address? -/
def fitted (v : Settings) (addr : Nat) : Bool :=
  (tableGet v.modules { configured := false, holdOnForce := false } (addr - 1)).configured

theorem configured_of_settings {t : State} (h : t.settings = v) {a : Nat} (ha : 1 ≤ a) : t.configured a = fitted v a := by
  subst h
  unfold configured moduleSetting fitted
  rw [if_neg (by omega)]

theorem coldEngine_locker {n : Nat} (h1 : 1 ≤ n) (h2 : n ≤ 1024) :
    tableGet (coldEngine v clock).lockers (Locker.blank .unfitted 0) (n - 1) =
      Locker.blank (if fitted v ((n - 1) / 8 + 1) then .free else .unfitted) clock := by
  have hlt : n - 1 < 1024 := by omega
  refine (tableGet_tableMap _ _ LockerState.unfitted _ hlt).trans ?_
  rw [tableGet_replicate]
  simp [lockerAt, fitted]

theorem coldEngine_cabin {c : Nat} (h1 : 1 ≤ c) (h2 : c ≤ 64) :
    tableGet (coldEngine v clock).cabins (Cabin.blank .unfitted 0) (c - 1) =
      Cabin.blank (if fitted v (128 + (c - 1) / 4 + 1) then .vacant else .unfitted) clock := by
  have hlt : c - 1 < 64 := by omega
  refine (tableGet_tableMap _ _ CabinState.unfitted _ hlt).trans ?_
  rw [tableGet_replicate]
  simp [cabinAt, fitted]

theorem coldModules_module {a : Nat} (h1 : 1 ≤ a) (h2 : a ≤ 144) :
    tableGet (tableMap (fun _ (c : ModuleSetting) => Module.blank c.configured) v.modules) (Module.blank false) (a - 1) =
      Module.blank (fitted v a) :=
  tableGet_tableMap _ _ _ _ (by omega)

end Tables

/-- The tables of a state that a cold start has left. -/
theorem coldStart_tables (s : State) (straps : Straps) :
    let t := s.coldStart straps
    (∀ n, 1 ≤ n → n ≤ 1024 →
      t.locker n = Locker.blank (if t.configured ((n - 1) / 8 + 1) then .free else .unfitted) s.now) ∧
    (∀ c, 1 ≤ c → c ≤ 64 →
      t.cabin c = Cabin.blank (if t.configured (128 + (c - 1) / 4 + 1) then .vacant else .unfitted) s.now) ∧
    (∀ a, 1 ≤ a → a ≤ 144 → t.module a = Module.blank (t.configured a)) := by
  intro t
  have ht : t = _ := s.coldStart_eq straps
  have hset : t.settings = s.loaded := by rw [ht]
  have hengine : t.engine = coldEngine s.loaded s.now := by rw [ht]
  have hmodules : t.field.modules = tableMap (fun _ c => Module.blank c.configured) s.loaded.modules := by
    rw [ht]
    rfl
  refine ⟨fun n h1 h2 => ?_, fun c h1 h2 => ?_, fun a h1 h2 => ?_⟩
  · rw [configured_of_settings _ hset (by omega), locker, hengine, if_neg (by omega)]
    exact coldEngine_locker _ _ h1 h2
  · rw [configured_of_settings _ hset (by omega), cabin, hengine, if_neg (by omega)]
    exact coldEngine_cabin _ _ h1 h2
  · rw [configured_of_settings _ hset h1, module, hmodules, if_neg (by omega)]
    exact coldModules_module _ h1 h2

end State

/-- Settles O57, level by level. -/
theorem supplyMovesThroughItsStates : Obligations.SupplyMovesThroughItsStates := by
  unfold Obligations.SupplyMovesThroughItsStates
  refine ⟨fun s => ⟨fun h => congrArg _ (if_pos h), fun h => ⟨congrArg _ (if_neg h), congrArg _ (if_neg h)⟩,
    fun h hr => congrArg _ (if_pos ⟨h, hr⟩)⟩, fun s h => ?_⟩
  refine ⟨_, State.exec_supplyDown h, ?_⟩
  have hport (p : PortId) : (s.ports.map State.stopPort).get p = { s.port p with link := .stopped, ready := [] } :=
    PerPort.get_map _ _ _
  by_cases hn : s.supply.supply = .normal
  · rw [if_pos hn, if_pos hn, State.enterDown_eq]
    exact ⟨rfl, hport, rfl, rfl, rfl⟩
  · rw [if_neg hn, if_neg hn, State.enterDown_eq]
    exact ⟨rfl, hport, rfl, rfl, rfl⟩

end Sys2Proof.Machine
end

section
/-! PROOFS. A RESET pulse, and the starts after retention was lost (R67, R85, R137, R150, R172, R185, R192, R193). -/

namespace Sys2Proof.Machine

namespace State

variable {s : State}

theorem exec_resetReleased_cold {straps : Straps} (hr : s.supply.resetHeld = true) (hd : s.supply.supply ≠ .down)
    (hc : straps.clearClosed = true) : exec (.resetReleased straps) s = .next (s.undoTaken.resetCold straps) := by
  change execResetReleased straps s = _
  simp [execResetReleased, hr, hd, hc]

theorem exec_returnFromDown_cold {straps : Straps} (hd : s.supply.supply = .down) (hr : s.supply.restoring = true)
    (hl : s.supply.retention = false) :
    exec (.returnFromDown straps) s = .next (s.undoTaken.restored.coldStart straps) := by
  change execReturnFromDown straps s = _
  simp [execReturnFromDown, hd, hr, hl]

/-! ### The tables with the factory settings are those after reset -/

theorem fitted_factory (a : Nat) : fitted Settings.factory a = false :=
  congrArg ModuleSetting.configured (tableGet_replicate 144 _ _)

theorem coldEngine_factory : coldEngine Settings.factory 0 = Engine.reset := by
  have hl : (coldEngine Settings.factory 0).lockers = Engine.reset.lockers := by
    refine Vector.ext fun i hi => ?_
    have h := coldEngine_locker Settings.factory 0 (n := i + 1) (by omega) (by omega)
    rw [fitted_factory] at h
    simpa [tableGet, hi, Engine.reset] using h
  have hc : (coldEngine Settings.factory 0).cabins = Engine.reset.cabins := by
    refine Vector.ext fun i hi => ?_
    have h := coldEngine_cabin Settings.factory 0 (c := i + 1) (by omega) (by omega)
    rw [fitted_factory] at h
    simpa [tableGet, hi, Engine.reset] using h
  calc coldEngine Settings.factory 0
      = { Engine.reset with lockers := (coldEngine Settings.factory 0).lockers,
                            cabins := (coldEngine Settings.factory 0).cabins } := rfl
    _ = Engine.reset := by rw [hl, hc]

theorem coldModules_factory :
    tableMap (fun _ c => Module.blank c.configured) Settings.factory.modules = FieldEngine.reset.modules := by
  refine Vector.ext fun i hi => ?_
  have h := coldModules_module Settings.factory (a := i + 1) (by omega) (by omega)
  rw [fitted_factory] at h
  simpa [tableGet, hi, FieldEngine.reset] using h

theorem undoTaken_rest (s : State) : s.undoTaken.undo = [] ∧ s.undoTaken.pending = s.pending ∧
    s.undoTaken.freeSeq = s.freeSeq := by
  rw [undoTaken_eq]
  exact ⟨rfl, rfl, rfl⟩

end State

/-- Settles O60: the blocks stopped, and the cold start of every block as the pulse ends. -/
theorem resetPulseStopsAndColdStarts : Obligations.ResetPulseStopsAndColdStarts := by
  unfold Obligations.ResetPulseStopsAndColdStarts
  intro straps s
  refine ⟨fun hr => ⟨{ s.stopBlocks with supply.resetHeld := true }, ?_, rfl, s.stopBlocks_port, rfl, rfl⟩,
    fun hd => ⟨?_, ?_⟩, fun hr hd hc => ?_⟩
  · exact congrArg Host.Outcome.next (if_pos hr)
  · exact congrArg Host.Outcome.next (if_neg (by simp [State.running, hd]))
  · exact congrArg Host.Outcome.next (if_neg (by simp [hd]))
  · intro loaded settings clock
    let kept : State := { s.undoTaken with
      supply.store := if s.undoTaken.supply.save.isSome then none else s.undoTaken.supply.store, supply.save := none }
    have hloaded : (if s.undoTaken.supply.save.isSome then none else s.undoTaken.supply.store) = loaded := by
      rw [s.undoTaken_supply]
      cases h : s.supply.save <;> simp [loaded, h]
    have hkept : kept.supply = { s.supply with clock := clock, store := loaded, save := none } := by
      dsimp only [kept]
      rw [hloaded, s.undoTaken_supply]
    have hstore : kept.supply.store = loaded := by rw [hkept]
    have hstate : kept.supply.supply = s.supply.supply := by rw [hkept]
    obtain ⟨hundo, hpending, hseq⟩ := s.undoTaken_rest
    have heq := kept.coldStart_eq straps
    obtain ⟨hlockers, hcabins, hmodules⟩ := kept.coldStart_tables straps
    have hexec : exec (.resetReleased straps) s = .next (kept.coldStart straps) := State.exec_resetReleased_cold hr hd hc
    generalize kept.coldStart straps = t at heq hlockers hcabins hmodules hexec
    have hset : t.settings = settings := by
      rw [heq]
      exact congrArg (fun o : Option Settings => o.getD Settings.factory) hstore
    refine ⟨t, hexec, hset, fun k => ?_, by rw [heq]; rfl, fun z => ?_, hlockers, hcabins, hmodules, fun i => ?_, by rw [heq],
      by rw [heq], by rw [heq, hkept], by rw [heq, hstore]; rfl, fun p => ?_, by rw [heq], ?_, by rw [heq], by rw [heq]; rfl,
      by rw [heq]; exact hundo, by rw [heq]; exact hpending, by rw [heq]; exact hseq⟩
    · unfold State.band
      rw [heq]
      split
      · rfl
      · exact tableGet_replicate 2048 _ _
    · rw [heq]
      exact tableGet_replicate 16 _ _
    · rw [heq]
      exact tableGet_replicate 4 _ _
    · rw [heq]
      cases p <;> exact ⟨rfl, rfl, rfl⟩
    · rw [heq, hstate]
      rfl

end Sys2Proof.Machine
end

section
/-! PROOFS. Retention lost, and the starts that follow (R172, R189, R192, R193). -/

namespace Sys2Proof.Machine

namespace State

variable {s : State} {straps : Straps}

/-- The supply unit once the restore timer has completed in DOWN with retention lost. -/
theorem restored_supply (hl : s.supply.retention = false) :
    s.undoTaken.restored.supply =
      { s.supply with clock := 0, supply := .normal, restoring := false, lpen := true, save := none } := by
  have h := s.undoTaken_supply
  have hret : s.undoTaken.supply.retention = false := by rw [h]; exact hl
  unfold restored
  rw [hret, h]
  rfl

theorem restored_rest : s.undoTaken.restored.undo = [] ∧ s.undoTaken.restored.pending = s.pending ∧
    s.undoTaken.restored.freeSeq = s.freeSeq := s.undoTaken_rest

/-- The state after reset, but for the settings loaded and what they fit; the notice of a lost store is the caller's. -/
theorem coldReturn_eq (hl : s.supply.retention = false) :
    let v := s.supply.store.getD Settings.factory
    s.undoTaken.restored.coldStart straps =
      { State.reset with
        pending := s.pending, portRate := straps.portRate, freeSeq := s.freeSeq, settings := v,
        engine := { Engine.reset with lockers := (coldEngine v 0).lockers, cabins := (coldEngine v 0).cabins },
        field := { FieldEngine.reset with
          modules := tableMap (fun _ c => Module.blank c.configured) v.modules, loopRate := straps.loopRate },
        notices := { State.reset.notices with
          raised := if s.supply.store = none then State.reset.notices.raised else [] },
        supply := { State.reset.supply with store := s.supply.store } } := by
  intro v
  have hs := restored_supply hl
  obtain ⟨hundo, hpending, hseq⟩ := s.restored_rest
  rw [coldStart_eq, hundo, hpending, hseq]
  simp only [loaded, now, hs]
  rfl

end State

/-- Settles O58: both returns from DOWN are one cold start, and the first start of the part is the one without a store. -/
theorem lostRetentionEndsInTheResetState : Obligations.LostRetentionEndsInTheResetState := by
  unfold Obligations.LostRetentionEndsInTheResetState
  have emptied (straps : Straps) (s : State) (hd : s.supply.supply = .down) (hr : s.supply.restoring = true)
      (hl : s.supply.retention = false) (hv : s.supply.store = none) :
      exec (.returnFromDown straps) s =
        .next { State.reset with pending := s.pending, portRate := straps.portRate,
                                 field.loopRate := straps.loopRate, freeSeq := s.freeSeq } := by
    rw [State.exec_returnFromDown_cold hd hr hl, State.coldReturn_eq hl, hv]
    simp only [Option.getD_none, State.coldEngine_factory, State.coldModules_factory]
    rfl
  refine ⟨?_, fun s h => ?_, emptied, fun straps v s hd hr hl hv => ?_⟩
  · intro on
    refine ⟨rfl, rfl, rfl, rfl, fun p => by cases p <;> rfl, rfl, fun straps => ?_⟩
    have hstart : exec .restoreTimerStart on = .next { on with supply.restoring := true } := rfl
    rw [State.runAll, hstart]
    dsimp only
    rw [State.runAll, emptied straps _ rfl rfl rfl rfl]
    rfl
  · refine ⟨_, congrArg Host.Outcome.next (if_pos h), rfl, Nat.mod_lt _ (by decide), rfl, rfl, rfl, rfl, rfl, rfl, rfl⟩
  · have heq := State.coldReturn_eq (straps := straps) hl
    have hnow : s.undoTaken.restored.now = 0 := by
      unfold State.now
      rw [State.restored_supply hl]
    obtain ⟨hlockers, hcabins, hmodules⟩ := s.undoTaken.restored.coldStart_tables straps
    rw [hnow] at hlockers hcabins
    refine ⟨_, State.exec_returnFromDown_cold hd hr hl, hlockers, hcabins, hmodules, ?_⟩
    rw [heq, hv]
    rfl

end Sys2Proof.Machine
end

section
/-! PROOFS. What dropped requests had written is taken back (R158, R176, R185), place by place. -/

namespace Sys2Proof.Machine

theorem tableSet_getElem?_ne {α : Type} {n : Nat} (t : Vector α n) (x : α) {i j : Nat} (h : i ≠ j) :
    (tableSet t i x)[j]? = t[j]? := by
  unfold tableSet
  split
  · exact Vector.getElem?_set_ne ‹_› h
  · rfl

theorem tableSet_getElem?_self {α : Type} {n : Nat} (t : Vector α n) (x : α) {i : Nat} (h : i < n) :
    (tableSet t i x)[i]? = some x := by
  simp [tableSet, h]

theorem noticeCode_injective {k l : NoticeKind} (h : noticeCode k - 1 = noticeCode l - 1) : k = l := by
  have hmem : k ∈ allNotices := by cases k <;> decide
  exact (List.idxOf_inj hmem).1 h

namespace State

variable {s : State} {b : Before}

/-! ### One entry put back leaves every other place -/

theorem putBack_watch_other (t : State) {i : Nat} (h : ∀ w e, b ≠ .watch i w ∧ b ≠ .enabled i e) :
    (t.putBack b).watch i = t.watch i := by
  cases b with
  | watch j w =>
    have hne : j ≠ i := fun e => (h w true).1 (e ▸ rfl)
    exact tableGet_tableSet_ne _ _ _ hne
  | enabled j e =>
    have hne : j ≠ i := fun e' => (h (t.watch i) e).2 (e' ▸ rfl)
    exact tableGet_tableSet_ne _ _ _ hne
  | port p v => cases p <;> rfl
  | held a v => simp [putBack]
  | _ => rfl

theorem putBack_cp0_other (t : State) (h : ∀ v, b ≠ .port .cp0 v) : (t.putBack b).settings.cp0 = t.settings.cp0 := by
  cases b with
  | port p v =>
    cases p with
    | cp0 => exact absurd rfl (h v)
    | _ => rfl
  | held a v => simp [putBack]
  | _ => rfl

theorem putBack_cp1_other (t : State) (h : ∀ v, b ≠ .port .cp1 v) : (t.putBack b).settings.cp1 = t.settings.cp1 := by
  cases b with
  | port p v =>
    cases p with
    | cp1 => exact absurd rfl (h v)
    | _ => rfl
  | held a v => simp [putBack]
  | _ => rfl

theorem putBack_threshold_other (t : State) {p : PortId} (h : ∀ n, b ≠ .threshold p n) :
    (t.putBack b).settings.thresholds.get p = t.settings.thresholds.get p := by
  cases b with
  | threshold q n =>
    have hne : q ≠ p := fun e => h n (e ▸ rfl)
    exact PerPort.get_set_ne _ _ hne
  | port p v => cases p <;> rfl
  | held a v => simp [putBack]
  | _ => rfl

theorem putBack_priority_other (t : State) {k : NoticeKind} (h : ∀ n, b ≠ .priority k n) :
    (t.putBack b).settings.priorities[noticeCode k - 1]? = t.settings.priorities[noticeCode k - 1]? := by
  cases b with
  | priority l n =>
    have hne : l ≠ k := fun e => h n (e ▸ rfl)
    exact tableSet_getElem?_ne _ _ fun e => hne (noticeCode_injective e)
  | port p v => cases p <;> rfl
  | held a v => simp [putBack]
  | _ => rfl

theorem putBack_alarms_other (t : State) (h : ∀ which l full, b ≠ .alarms which l full) :
    (t.putBack b).notices.alarms = t.notices.alarms ∧
      (t.putBack b).notices.alarmOverflow = t.notices.alarmOverflow := by
  cases b with
  | alarms which l full => exact absurd rfl (h which l full)
  | port p v => cases p <;> exact ⟨rfl, rfl⟩
  | held a v => simp [putBack]
  | _ => exact ⟨rfl, rfl⟩

theorem putBack_module_other (t : State) {a : Nat} (h : ∀ v, b ≠ .held a v) : (t.putBack b).module a = t.module a := by
  cases b with
  | held c v =>
    have hne : c ≠ a := fun e => h v (e ▸ rfl)
    exact setModule_module_ne _ _ hne
  | port p v => cases p <;> rfl
  | _ => rfl

/-- Of a module's record the held flag alone is put back. -/
theorem putBack_module (t : State) (b : Before) (a : Nat) :
    (t.putBack b).module a = { t.module a with held := ((t.putBack b).module a).held } := by
  cases b with
  | held c v =>
    by_cases h : c = a
    · subst h
      by_cases hc : 1 ≤ c ∧ c ≤ 144
      · simp only [putBack, setModule_module_self t _ hc]
      · have hout : t.setModule c { t.module c with held := v } = t := by
          unfold setModule
          split
          · rfl
          · have hlt : ¬c - 1 < 144 := by omega
            simp [tableSet, hlt]
        simp only [putBack, hout]
    · simp only [putBack, setModule_module_ne t _ h]
  | port p v => cases p <;> rfl
  | _ => rfl

/-- Of the settings the places that such requests write alone are put back. -/
theorem putBack_settings (t : State) (b : Before) :
    (t.putBack b).settings =
      { t.settings with cp0 := (t.putBack b).settings.cp0, cp1 := (t.putBack b).settings.cp1,
                        thresholds := (t.putBack b).settings.thresholds,
                        priorities := (t.putBack b).settings.priorities } := by
  cases b with
  | port p v => cases p <;> rfl
  | held c v => simp [putBack]
  | _ => rfl

/-! ### All of them put back, the newest first -/

/-- What no entry of a list writes is as it was. -/
theorem foldl_putBack_keeps {β : Type} (g : State → β) {us : List Undo}
    (h : ∀ u ∈ us, ∀ t : State, g (t.putBack u.before) = g t) (s : State) :
    g (us.foldl (fun t u => t.putBack u.before) s) = g s := by
  induction us generalizing s with
  | nil => rfl
  | cons u us ih =>
    rw [List.foldl_cons, ih fun v hv => h v (List.mem_cons_of_mem u hv)]
    exact h u List.mem_cons_self s

/-- What the oldest entry at a place finds is what stands in the end. -/
theorem foldl_putBack_oldest {β : Type} (g : State → β) {newer older : List Undo} {u : Undo} {x : β}
    (hu : ∀ t : State, g (t.putBack u.before) = x) (h : ∀ v ∈ older, ∀ t : State, g (t.putBack v.before) = g t) (s : State) :
    g ((newer ++ u :: older).foldl (fun t u => t.putBack u.before) s) = x := by
  rw [List.foldl_append, List.foldl_cons, foldl_putBack_keeps g h, hu]

theorem trimmed_back (clock : Nat) (d : Int) :
    trimmed clock (-d) < 86400 ∧ ∃ days : Int, (trimmed clock (-d) : Int) = days * 86400 + clock - max (-60) (min 60 d) := by
  refine ⟨trimmed_lt_day _ _, ?_⟩
  obtain ⟨wraps, h⟩ := trimmed_eq clock (-d)
  refine ⟨wraps, h.trans ?_⟩
  split
  · omega
  · split <;> omega

/-- Every trim still outstanding is taken back (R185, R187). -/
theorem foldl_putBack_clock (us : List Undo) (s : State) (hs : s.supply.clock < 86400) :
    let t := us.foldl (fun t u => t.putBack u.before) s
    t.supply.clock < 86400 ∧
      ∃ days : Int, (t.supply.clock : Int) = days * 86400 + (s.supply.clock : Int) -
        (us.map fun u =>
          match u.before with
          | .clock trim => max (-60) (min 60 trim)
          | _ => 0).sum := by
  induction us generalizing s with
  | nil => exact ⟨hs, 0, by simp⟩
  | cons u us ih =>
    have hone : (s.putBack u.before).supply.clock < 86400 ∧ ∃ days : Int,
        ((s.putBack u.before).supply.clock : Int) = days * 86400 + (s.supply.clock : Int) -
          (match u.before with
            | .clock trim => max (-60) (min 60 trim)
            | _ => 0) := by
      cases u.before with
      | clock d => exact trimmed_back _ _
      | port p v => cases p <;> exact ⟨hs, 0, by simp [putBack, setPortSetting]⟩
      | held a v => exact ⟨by simpa [putBack] using hs, 0, by simp [putBack]⟩
      | _ => exact ⟨hs, 0, by simp [putBack, setWatch, setThreshold, setPriority]⟩
    obtain ⟨hlt, d1, h1⟩ := hone
    obtain ⟨hlt', d2, h2⟩ := ih _ hlt
    refine ⟨hlt', d1 + d2, ?_⟩
    rw [List.foldl_cons, List.map_cons, List.sum_cons]
    rw [h1] at h2
    refine h2.trans ?_
    ring

/-! ### A warm start (R31, R66, R84, R122, R136, R150, R171, R185, R192) -/

theorem warmStart_eq (s : State) (straps : Straps) : s.warmStart straps =
    { s with
      engine := { s.engine with
        cabins := tableMap (fun _ k => { k with command := none }) s.engine.cabins, lastGranted := .sweep },
      ports := { cp0 := Port.idle, cp1 := Port.idle, cp2 := Port.idle },
      portRate := straps.portRate,
      notices := { s.notices with raised := [], queues := { cp0 := [], cp1 := [], cp2 := [] },
                                  overflow := { cp0 := false, cp1 := false, cp2 := false } },
      field := startedField (tableMap (fun i m => warmModule (s.moduleSetting (i + 1)) m) s.field.modules) s.supply.supply
        straps.loopRate,
      sweep := { index := 1, remaining := 3135, waiting := false },
      supply := { s.supply with retention := true, resetHeld := false } } := rfl

theorem warmStart_module (s : State) (straps : Straps) {a : Nat} (h1 : 1 ≤ a) (h2 : a ≤ 144) :
    (s.warmStart straps).module a = warmModule (s.moduleSetting a) (s.module a) := by
  have hne : ¬a = 0 := by omega
  have hpred : a - 1 + 1 = a := by omega
  unfold module
  rw [if_neg hne, if_neg hne]
  refine (tableGet_tableMap _ _ (Module.blank false) _ (by omega)).trans ?_
  rw [hpred]

theorem warmStart_cabin (s : State) (straps : Straps) {c : Nat} (h1 : 1 ≤ c) (h2 : c ≤ 64) :
    (s.warmStart straps).cabin c = { s.cabin c with command := none } := by
  have hne : ¬c = 0 := by omega
  unfold cabin
  rw [if_neg hne, if_neg hne]
  exact tableGet_tableMap _ _ (Cabin.blank .unfitted 0) _ (by omega)

theorem warmModule_configured {c : ModuleSetting} (m : Module) (h : c.configured = true) :
    (warmModule c m).silent = false ∧ (warmModule c m).failures = 0 ∧ (warmModule c m).resync = true ∧
      (warmModule c m).held = m.held ∧ (warmModule c m).coldRead = m.coldRead := by
  simp [warmModule, h, clearIndications]

theorem warmModule_shown (c : ModuleSetting) (m : Module) {i : Nat} (hi : i < 8) :
    (tableGet (warmModule c m).positions Position.blank i).shown = none := by
  have h := congrArg Position.shown (clearIndications_position m hi)
  unfold warmModule
  dsimp only
  split <;> exact h

end State

end Sys2Proof.Machine
end

section
/-! PROOFS. Dropped requests are undone, and a warm start keeps the tables (R31, R66, R84, R136, R158, R171, R185, R192). -/

namespace Sys2Proof.Machine

namespace State

variable {s : State}

theorem exec_returnFromDown_warm {straps : Straps} (hd : s.supply.supply = .down) (hr : s.supply.restoring = true)
    (hl : s.supply.retention = true) :
    exec (.returnFromDown straps) s =
      .next ((s.undoTaken.restored.warmStart straps).notify .powerRestored none none) := by
  change execReturnFromDown straps s = _
  simp [execReturnFromDown, hd, hr, hl]

theorem exec_resetReleased_warm {straps : Straps} (hr : s.supply.resetHeld = true) (hd : s.supply.supply ≠ .down)
    (hc : straps.clearClosed = false) : exec (.resetReleased straps) s = .next (s.undoTaken.resetWarm straps) := by
  change execResetReleased straps s = _
  simp [execResetReleased, hr, hd, hc]

/-! ### What the undoing leaves, place by place -/

theorem undoTaken_module (s : State) (a : Nat) :
    s.undoTaken.module a = { s.module a with held := (s.undoTaken.module a).held } := by
  obtain ⟨t, ht, e⟩ := undoTaken_induction (P := fun t => t.module a = { s.module a with held := (t.module a).held }) s rfl
    fun t ht u _ => by rw [putBack_module, ht]
  rw [e]
  exact ht

theorem undoTaken_settings (s : State) :
    s.undoTaken.settings =
      { s.settings with cp0 := s.undoTaken.settings.cp0, cp1 := s.undoTaken.settings.cp1,
                        thresholds := s.undoTaken.settings.thresholds,
                        priorities := s.undoTaken.settings.priorities } := by
  obtain ⟨t, ht, e⟩ := undoTaken_induction
    (P := fun t => t.settings =
      { s.settings with cp0 := t.settings.cp0, cp1 := t.settings.cp1, thresholds := t.settings.thresholds,
                        priorities := t.settings.priorities }) s rfl
    fun t ht u _ => by rw [putBack_settings, ht]
  rw [e]
  exact ht

theorem undoTaken_configured (s : State) (a : Nat) : s.undoTaken.moduleSetting a = s.moduleSetting a := by
  unfold moduleSetting
  rw [undoTaken_settings]

/-- What is read outside the list of entries reads alike before that list is emptied. -/
theorem undoTaken_read {β : Type} (g : State → β) (hg : ∀ t : State, g { t with undo := [] } = g t) (s : State) :
    g s.undoTaken = g (s.undo.foldl (fun t u => t.putBack u.before) s) := hg _

/-- What the oldest entry at a place found there stands in a state (R158, R185). -/
def standsAgain (d : State) : Before → Prop
  | .watch i was => i ≤ 3 → d.watch i = was
  | .enabled i was => i ≤ 3 → (d.watch i).enabled = was
  | .port p was =>
    match p with
    | .cp0 => d.settings.cp0 = was
    | .cp1 => d.settings.cp1 = was
    | .cp2 => True
  | .threshold p was => d.settings.thresholds.get p = was
  | .priority k was => isAlarm k = false → k ≠ .watchHit → d.settings.priorities[noticeCode k - 1]? = some was
  | .alarms _ l full => d.notices.alarms = l ∧ d.notices.alarmOverflow = full
  | .held a was => 1 ≤ a → a ≤ 144 → (d.module a).held = was
  | .clock _ => True

theorem undoTaken_oldest {newer older : List Undo} {u : Undo} (hundo : s.undo = newer ++ u :: older)
    (hold : ∀ v ∈ older, u.before.samePlace v.before = false) : s.undoTaken.standsAgain u.before := by
  have oldest {β : Type} (g : State → β) {x : β} (hg : ∀ t : State, g { t with undo := [] } = g t)
      (hu : ∀ t : State, g (t.putBack u.before) = x)
      (h : ∀ v ∈ older, ∀ t : State, g (t.putBack v.before) = g t) : g s.undoTaken = x := by
    rw [undoTaken_read g hg s, hundo]
    exact foldl_putBack_oldest g hu h s
  have away {v : Undo} (hv : v ∈ older) {b : Before} (hb : u.before.samePlace b = true) : v.before ≠ b := fun he =>
    absurd ((he ▸ hold v hv).symm.trans hb) nofun
  cases hb : u.before with
  | watch i was =>
    exact fun hi => oldest (fun t => t.watch i) (fun _ => rfl)
      (fun t => by rw [hb]; exact tableGet_tableSet_self _ _ _ (Nat.lt_succ_of_le hi))
      fun v hv t => t.putBack_watch_other fun w e =>
        ⟨away hv (by simp [hb, Before.samePlace]), away hv (by simp [hb, Before.samePlace])⟩
  | enabled i was =>
    exact fun hi => oldest (fun t => (t.watch i).enabled) (fun _ => rfl)
      (fun t => by rw [hb]; exact congrArg Watch.enabled (tableGet_tableSet_self _ _ _ (Nat.lt_succ_of_le hi)))
      fun v hv t => congrArg Watch.enabled (t.putBack_watch_other fun w e =>
        ⟨away hv (by simp [hb, Before.samePlace]), away hv (by simp [hb, Before.samePlace])⟩)
  | port p was =>
    cases p with
    | cp0 =>
      exact oldest (fun t => t.settings.cp0) (fun _ => rfl) (fun t => by rw [hb]; rfl)
        fun v hv t => t.putBack_cp0_other fun w => away hv (by simp [hb, Before.samePlace])
    | cp1 =>
      exact oldest (fun t => t.settings.cp1) (fun _ => rfl) (fun t => by rw [hb]; rfl)
        fun v hv t => t.putBack_cp1_other fun w => away hv (by simp [hb, Before.samePlace])
    | cp2 => trivial
  | threshold p was =>
    exact oldest (fun t => t.settings.thresholds.get p) (fun _ => rfl)
      (fun t => by rw [hb]; exact PerPort.get_set_self _ _ _)
      fun v hv t => t.putBack_threshold_other fun n => away hv (by simp [hb, Before.samePlace])
  | priority k was =>
    intro halarm hwatch
    have hfree : k ∉ [.watchHit, .lockerForced, .cabinForced, .cabinOverholdLong] := by
      have := mt (isAlarm_iff k).2 (ne_true_of_eq_false halarm)
      simp only [List.mem_cons, List.not_mem_nil, or_false]
      tauto
    exact oldest (fun t => t.settings.priorities[noticeCode k - 1]?) (fun _ => rfl)
      (fun t => by rw [hb]; exact tableSet_getElem?_self _ _ (noticeCode_lt hfree))
      fun v hv t => t.putBack_priority_other fun n => away hv (by simp [hb, Before.samePlace])
  | alarms which l full =>
    have hother (v : Undo) (hv : v ∈ older) (t : State) := t.putBack_alarms_other (b := v.before) fun w m f =>
      away hv (by simp [hb, Before.samePlace])
    exact ⟨oldest (fun t => t.notices.alarms) (fun _ => rfl) (fun t => by rw [hb]; rfl) fun v hv t => (hother v hv t).1,
      oldest (fun t => t.notices.alarmOverflow) (fun _ => rfl) (fun t => by rw [hb]; rfl) fun v hv t => (hother v hv t).2⟩
  | held a was =>
    exact fun h1 h2 => oldest (fun t => (t.module a).held) (fun _ => rfl)
      (fun t => by rw [hb]; exact congrArg Module.held (setModule_module_self _ _ ⟨h1, h2⟩))
      fun v hv t => congrArg Module.held (t.putBack_module_other fun w => away hv (by simp [hb, Before.samePlace]))
  | clock trim => trivial

end State

/-- Settles O59: the undoing place by place, and the warm start from what it leaves. -/
theorem warmStartKeepsTheTables : Obligations.WarmStartKeepsTheTables := by
  unfold Obligations.WarmStartKeepsTheTables
  constructor
  · intro s d
    have untouched {β : Type} (g : State → β) (hg : ∀ t : State, g { t with undo := [] } = g t)
        (h : ∀ u ∈ s.undo, ∀ t : State, g (t.putBack u.before) = g t) : g d = g s :=
      (State.undoTaken_read g hg s).trans (State.foldl_putBack_keeps g h s)
    refine ⟨State.undoTaken_nil, s.undoTaken_eq, s.undoTaken_settings, s.undoTaken_module, fun hs => ?_, fun i h => ?_,
      fun h => ?_, fun h => ?_, fun p h => ?_, fun k h => ?_, fun h => ⟨?_, ?_⟩, fun a h => ?_, ?_⟩
    · exact State.foldl_putBack_clock s.undo s hs
    · exact untouched (fun t => t.watch i) (fun _ => rfl) fun u hu t => t.putBack_watch_other (h u hu)
    · exact untouched (fun t => t.settings.cp0) (fun _ => rfl) fun u hu t => t.putBack_cp0_other (h u hu)
    · exact untouched (fun t => t.settings.cp1) (fun _ => rfl) fun u hu t => t.putBack_cp1_other (h u hu)
    · exact untouched (fun t => t.settings.thresholds.get p) (fun _ => rfl) fun u hu t => t.putBack_threshold_other (h u hu)
    · exact untouched (fun t => t.settings.priorities[noticeCode k - 1]?) (fun _ => rfl) fun u hu t =>
        t.putBack_priority_other (h u hu)
    · exact untouched (fun t => t.notices.alarms) (fun _ => rfl) fun u hu t => (t.putBack_alarms_other (h u hu)).1
    · exact untouched (fun t => t.notices.alarmOverflow) (fun _ => rfl) fun u hu t => (t.putBack_alarms_other (h u hu)).2
    · exact untouched (fun t => t.module a) (fun _ => rfl) fun u hu t => t.putBack_module_other (h u hu)
    · intro newer u older hundo hold
      have h := State.undoTaken_oldest hundo hold
      revert h
      cases u.before with
      | port p was => cases p <;> exact id
      | _ => exact id
  · intro straps s d kept
    have hd : d = _ := s.undoTaken_eq
    have hengine : d.engine = s.engine := by rw [hd]
    have hundo : d.undo = [] := by rw [hd]
    have hsupply : d.supply = { s.supply with clock := d.supply.clock } := s.undoTaken_supply
    have keeps (v : SupplyUnit) (hclock : v.clock = d.supply.clock) (hvalid : v.clockValid = s.supply.clockValid)
        (hstore : v.store = s.supply.store) : kept (({ d with supply := v } : State).warmStart straps) := by
      let u : State := { d with supply := v }
      have hcabin (c : Nat) : u.cabin c = s.cabin c := by
        unfold State.cabin
        rw [show u.engine = s.engine from hengine]
      have hconf (a : Nat) : u.configured a = s.configured a := congrArg ModuleSetting.configured (s.undoTaken_configured a)
      have hcold (a : Nat) : (d.module a).coldRead = (s.module a).coldRead := by rw [s.undoTaken_module a]
      refine ⟨hundo, rfl, rfl, ?_, fun c h1 h2 => ?_, rfl, rfl, fun p => ?_, rfl, rfl, rfl, rfl, rfl, rfl, rfl, rfl, rfl, rfl,
        fun a h1 h2 ha => ?_, fun a i h1 h2 hi => ?_, rfl, hclock, hvalid, rfl, hstore⟩
      · rw [← hengine]
        rfl
      · rw [← hcabin c]
        exact u.warmStart_cabin straps h1 h2
      · cases p <;> exact ⟨rfl, rfl, rfl⟩
      · rw [u.warmStart_module straps h1 h2]
        obtain ⟨hs, hf, hr, hh, hc⟩ := State.warmModule_configured (u.module a) ((hconf a).trans ha)
        exact ⟨hs, hf, hr, hh, hc.trans (hcold a)⟩
      · rw [u.warmStart_module straps h1 h2]
        exact State.warmModule_shown _ _ hi
    refine ⟨fun hdown hr hl => ?_, fun hr hdown hc => ?_⟩
    · have hret : d.supply.retention = true := by rw [hsupply]; exact hl
      have hrestored : d.restored.supply.clock = d.supply.clock := if_pos hret
      refine ⟨_, State.exec_returnFromDown_warm hdown hr hl, ?_, rfl, rfl, ?_⟩
      · exact keeps d.restored.supply hrestored (by rw [State.restored, hsupply]) (by rw [State.restored, hsupply])
      · exact congrArg (fun n : Nat => [({ kind := .powerRestored, place := none, serial := none, time := n, hit := none } :
          Raised)]) hrestored
    · refine ⟨_, State.exec_resetReleased_warm hr hdown hc, ?_, ?_, ?_, ?_, fun v hv => ?_⟩
      · exact keeps { d.supply with save := d.supply.save.map fun v => { v with replyTo := none } } rfl (by rw [hsupply])
          (by rw [hsupply])
      · have e := congrArg SupplyUnit.supply hsupply
        exact e
      · have e := congrArg SupplyUnit.lpen hsupply
        exact e
      · rfl
      · have hsave : d.supply.save = some v := (congrArg SupplyUnit.save hsupply).trans hv
        have e := congrArg (Option.map fun w : Save => { w with replyTo := none }) hsave
        exact ⟨{ v with replyTo := none }, e, rfl, rfl⟩

end Sys2Proof.Machine
end

section
/-! PROOFS. What is remembered to be undone belongs to a request taken and outstanding, at every step (R176, R179, R185). -/

namespace Sys2Proof.Machine

namespace State

variable {s t u : State}

/-! ### Requests taken and outstanding -/

/-- Every request that is outstanding and taken stays so. -/
def KeepsTaken (s t : State) : Prop :=
  ∀ p r, (s.port p).outstanding = some r → r.taken = true → (t.port p).outstanding = some r

theorem KeepsTaken.refl (s : State) : KeepsTaken s s := fun _ _ h _ => h

theorem KeepsTaken.trans (h : KeepsTaken s t) (k : KeepsTaken t u) : KeepsTaken s u := fun p r ho ht =>
  k p r (h p r ho ht) ht

theorem KeepsTaken.of_ports (h : t.ports = s.ports) : KeepsTaken s t := fun p r ho _ => by
  rwa [port, h]

theorem keepsTaken_setPort {p : PortId} {q : Port}
    (h : ∀ r, (s.port p).outstanding = some r → r.taken = true → q.outstanding = some r) : KeepsTaken s (s.setPort p q) :=
  fun j r ho ht => by
    by_cases hj : p = j
    · subst hj
      rw [setPort_port_self]
      exact h r ho ht
    · rwa [setPort_port_ne s q hj]

theorem keepsTaken_setPort_same {p : PortId} {q : Port} (h : q.outstanding = (s.port p).outstanding) :
    KeepsTaken s (s.setPort p q) := keepsTaken_setPort fun _ ho _ => h.trans ho

theorem keepsTaken_deliver (s : State) (p : PortId) (r : Reply) : KeepsTaken s (s.deliver p r) := by
  unfold deliver
  dsimp only
  split
  · exact keepsTaken_setPort_same rfl
  · exact .refl s
  · exact keepsTaken_setPort_same rfl

theorem keepsTaken_markTaken (s : State) (p : PortId) : KeepsTaken s (s.markTaken p) :=
  keepsTaken_setPort fun r ho ht => by
    rw [ho]
    exact congrArg some (by rw [← ht])

theorem keepsTaken_answered (s : State) (p : PortId) (r : Request) (c : ResultCode) (d : List Byte) :
    KeepsTaken s (s.answered p r c d) := (s.keepsTaken_markTaken p).trans (keepsTaken_deliver _ _ _)

theorem toIdle_outstanding (q : Port) : q.toIdle.outstanding = q.outstanding := by rw [toIdle_eq]

theorem keepsTaken_toIdle (s : State) (p : PortId) : KeepsTaken s (s.setPort p (s.port p).toIdle) :=
  keepsTaken_setPort_same (toIdle_outstanding _)

theorem keepsTaken_takeFrame (s : State) (p : PortId) (tag code : Byte) (body : List Byte) :
    KeepsTaken s (s.takeFrame p tag code body) := by
  unfold takeFrame
  dsimp only
  split
  · exact s.keepsTaken_deliver p _
  · rename_i hnone
    have hfree : (s.port p).outstanding = none := by simpa using hnone
    have held (r : Request) : KeepsTaken s (s.setPort p { s.port p with outstanding := some r }) :=
      keepsTaken_setPort fun _ ho _ => absurd (ho.symm.trans hfree) nofun
    split
    · exact held _
    · exact ((held _).trans (keepsTaken_markTaken _ p)).trans (keepsTaken_deliver _ _ _)

theorem keepsTaken_endFrame (s : State) (p : PortId) (bytes : List Byte) : KeepsTaken s (s.endFrame p bytes) := by
  unfold endFrame
  dsimp only
  split
  · exact (s.keepsTaken_toIdle p).trans (keepsTaken_takeFrame _ _ _ _ _)
  · exact s.keepsTaken_toIdle p

theorem keepsTaken_settleFrame (s : State) (p : PortId) : KeepsTaken s (s.settleFrame p) := by
  unfold settleFrame
  split
  · split
    · exact s.keepsTaken_endFrame p _
    · exact .refl s
  · exact .refl s

theorem keepsTaken_receiveByte (s : State) (p : PortId) (b : Byte) : KeepsTaken s (s.receiveByte p b) := by
  unfold receiveByte
  dsimp only
  split
  · split
    · exact keepsTaken_setPort_same rfl
    · exact .refl s
  · split
    · exact s.keepsTaken_toIdle p
    · exact keepsTaken_setPort_same rfl
  · exact keepsTaken_setPort_same rfl
  · exact .refl s
  · exact .refl s

theorem keepsTaken_stopBlocks (s : State) : KeepsTaken s s.stopBlocks := fun p r ho _ => by
  rw [stopBlocks_port]
  exact ho

theorem keepsTaken_enterDown (s : State) : KeepsTaken s s.enterDown := s.keepsTaken_stopBlocks

theorem keepsTaken_answerSave (s : State) (dest : Option PortId) (c : ResultCode) : KeepsTaken s (s.answerSave dest c) := by
  unfold answerSave
  split
  · exact .refl s
  · split
    · exact .refl s
    · exact s.keepsTaken_deliver _ _

/-! ### Entries that survive a step -/

theorem ports_pairwise (us : List Undo) :
    (us.Pairwise fun a b => a.port ≠ b.port) ↔ (us.map Undo.port).Nodup := List.pairwise_map.symm

/-- Entries of the same ports, each at the place of the one it comes from, while the requests stay outstanding. -/
theorem UndoSound.of_entries (hs : s.UndoSound) (hports : (t.undo.map Undo.port).Sublist (s.undo.map Undo.port))
    (hfrom : ∀ v ∈ t.undo, ∃ u ∈ s.undo, u.port = v.port ∧ ∀ k, u.before.belongs u.port k → v.before.belongs v.port k)
    (hout : ∀ v ∈ t.undo, ∀ r, (s.port v.port).outstanding = some r → r.taken = true →
      (t.port v.port).outstanding = some r) : t.UndoSound := by
  rw [undoSound_iff, ports_pairwise] at hs ⊢
  obtain ⟨hall, hnd⟩ := hs
  refine ⟨fun v hv => ?_, hnd.sublist hports⟩
  obtain ⟨u, hu, hp, hb⟩ := hfrom v hv
  obtain ⟨r, k, ho, htaken, hk, hbelongs⟩ := hall u hu
  exact ⟨r, k, hout v hv r (hp ▸ ho) htaken, htaken, hk, hb k hbelongs⟩

/-- What is remembered is no more than before. -/
theorem UndoSound.of_sublist (hs : s.UndoSound) (hu : t.undo.Sublist s.undo) (hp : KeepsTaken s t) : t.UndoSound :=
  hs.of_entries (hu.map _) (fun v hv => ⟨v, hu.subset hv, rfl, fun _ h => h⟩) fun v _ r ho ht => hp v.port r ho ht

/-- The lists that would stand without each ACK_ALARM are written over in place. -/
theorem UndoSound.onAlarms (hs : s.UndoSound) (f : List Alarm × Bool → List Alarm × Bool) : (s.onAlarms f).UndoSound := by
  have hports : (s.onAlarms f).undo.map Undo.port = s.undo.map Undo.port := by
    simp only [State.onAlarms, List.map_map]
    refine List.map_congr_left fun u _ => ?_
    dsimp only [Function.comp]
    split <;> rfl
  refine hs.of_entries (hports ▸ List.Sublist.refl _) (fun v hv => ?_) fun v _ r ho _ => ho
  obtain ⟨u, hu, rfl⟩ := List.mem_map.1 hv
  refine ⟨u, hu, ?_, fun k h => ?_⟩
  · split <;> rfl
  · cases hb : u.before <;> simp only [hb] at h ⊢ <;> exact h

/-! ### The end of a reply (R158, R176, R185) -/

/-- What remains of an older request belongs where the request's own place did. -/
theorem onceStands_belongs {newer older b : Before} (h : newer.onceStands older = some b) {p : PortId} {k : ReqKind}
    (hb : older.belongs p k) : b.belongs p k := by
  unfold Before.onceStands at h
  split at h
  · split at h <;> cases h <;> exact hb
  · cases h
    exact hb

theorem settledUndo_ports (p : PortId) (us : List Undo) :
    ((settledUndo p us).map Undo.port).Sublist (us.map Undo.port) := by
  induction us with
  | nil => exact List.Sublist.refl _
  | cons u us ih =>
    unfold settledUndo
    split
    · refine List.Sublist.trans ?_ (List.sublist_cons_self _ _)
      clear ih
      induction us with
      | nil => exact List.Sublist.refl _
      | cons o us ih =>
        rw [List.filterMap_cons]
        cases u.before.onceStands o.before with
        | none => exact ih.trans (List.sublist_cons_self _ _)
        | some b => exact ih.cons₂ _
    · exact ih.cons₂ _

theorem settledUndo_from {p : PortId} {us : List Undo} {v : Undo} (h : v ∈ settledUndo p us) :
    ∃ u ∈ us, u.port = v.port ∧ ∀ k, u.before.belongs u.port k → v.before.belongs v.port k := by
  induction us with
  | nil => cases h
  | cons u us ih =>
    unfold settledUndo at h
    split at h
    · obtain ⟨o, ho, hmap⟩ := List.mem_filterMap.1 h
      obtain ⟨b, hb, rfl⟩ := Option.map_eq_some_iff.1 hmap
      exact ⟨o, List.mem_cons_of_mem u ho, rfl, fun _ => onceStands_belongs hb⟩
    · obtain rfl | hv := List.mem_cons.1 h
      · exact ⟨v, List.mem_cons_self, rfl, fun _ h => h⟩
      · obtain ⟨w, hw, hfrom⟩ := ih hv
        exact ⟨w, List.mem_cons_of_mem u hw, hfrom⟩

/-- A port whose reply has left is remembered no more: it had one entry at most. -/
theorem settledUndo_port_ne {p : PortId} {us : List Undo} (hnd : (us.map Undo.port).Nodup) {v : Undo}
    (h : v ∈ settledUndo p us) : v.port ≠ p := by
  induction us with
  | nil => cases h
  | cons u us ih =>
    obtain ⟨hout, hnd⟩ := List.nodup_cons.1 hnd
    unfold settledUndo at h
    split at h
    · rename_i hp
      obtain ⟨o, ho, hmap⟩ := List.mem_filterMap.1 h
      obtain ⟨b, -, rfl⟩ := Option.map_eq_some_iff.1 hmap
      exact fun he => hout (List.mem_map.2 ⟨o, ho, he.trans hp.symm⟩)
    · rename_i hp
      obtain rfl | hv := List.mem_cons.1 h
      · exact hp
      · exact ih hnd hv

theorem UndoSound.endReply (hs : s.UndoSound) (p : PortId) (r : Reply) : (s.endReply p r).UndoSound := by
  have hnd := (ports_pairwise _).1 ((undoSound_iff s).1 hs).2
  rw [endReply_eq]
  cases r.busy with
  | true =>
    exact hs.of_sublist (List.Sublist.refl _) (keepsTaken_setPort_same rfl)
  | false =>
    refine hs.of_entries (settledUndo_ports p s.undo) (fun v hv => settledUndo_from hv) fun v hv r' ho _ => ?_
    rw [setPort_port_ne _ _ (settledUndo_port_ne hnd hv).symm]
    exact ho

/-! ### A request taken without a grant -/

theorem UndoSound.taken (hs : s.UndoSound) {p : PortId} {k : ReqKind} {r : Request} (hg : s.taking p k r)
    (h : Taking p k s t) (c : ResultCode) (d : List Byte) : (t.answered p r c d).UndoSound := by
  have hports : t.ports = s.ports := by
    have e := congrArg State.ports h.frame
    exact e
  have hkeeps : KeepsTaken s (t.answered p r c d) := (KeepsTaken.of_ports hports).trans (t.keepsTaken_answered p r c d)
  have hundo : (t.answered p r c d).undo = t.undo := by rw [answered_frame]
  cases h.undo with
  | nothing hu => exact hs.of_sublist (by rw [hundo, hu]) hkeeps
  | one b hu hb _ =>
    obtain ⟨ho, htaken, hk⟩ := request_outstanding hg.1
    obtain ⟨hall, hnd⟩ := (undoSound_iff s).1 hs
    have hfresh : ∀ u ∈ s.undo, p ≠ u.port := fun u hm he => by
      obtain ⟨r', -, ho', htaken', -⟩ := hall u hm
      have hsame : r = r' := Option.some.inj (ho.symm.trans (he ▸ ho'))
      rw [← hsame, htaken] at htaken'
      cases htaken'
    have hmark : (t.port p).outstanding = some r := by rw [port, hports]; exact ho
    have hanswered : ((t.answered p r c d).port p).outstanding = some { r with taken := true } :=
      keepsTaken_deliver _ p _ p _ (by rw [markTaken_of_outstanding hmark, setPort_port_self]) rfl
    rw [undoSound_iff, hundo, hu]
    refine ⟨fun v hv => ?_, List.pairwise_cons.2 ⟨fun u hm => hfresh u hm, hnd⟩⟩
    obtain rfl | hm := List.mem_cons.1 hv
    · exact ⟨_, k, hanswered, rfl, hk, hb⟩
    · obtain ⟨r', k', ho', htaken', hk', hb'⟩ := hall v hm
      exact ⟨r', k', hkeeps _ _ ho' htaken', htaken', hk', hb'⟩

/-! ### The invariant -/

theorem UndoSound.of_handling (hs : s.UndoSound) (h : Handling s t) : t.UndoSound := hs.of_sublist h.undo (.of_ports h.ports)

theorem Move.keeps_undo (hs : s.UndoSound) (h : Move s t) : t.UndoSound := by
  have same {t : State} (hu : t.undo = s.undo) (hp : KeepsTaken s t) : t.UndoSound :=
    hs.of_sublist (by rw [hu]) hp
  have started (u : State) (straps : Straps) (hu : u.undo = []) : (u.coldStart straps).UndoSound :=
    undoSound_of_empty (by rw [coldStart_eq]; exact hu)
  cases h with
  | handled _ h => exact hs.of_handling h
  | answered hg h =>
    refine hs.of_sublist ?_ ((KeepsTaken.of_ports h.ports).trans (keepsTaken_answered _ _ _ _ _))
    rw [answered_frame]
    exact h.undo
  | swept _ h => exact hs.of_sublist h.undo (.of_ports h.ports)
  | taken hk ha hg => exact hs.taken hg (taking_of_not_arbitrated s _ _ hk ha) _ _
  | saveBegins hg => exact same rfl (keepsTaken_markTaken _ _)
  | saveEnds hv => exact same (by rw [answerSave_frame]) fun q r ho ht => keepsTaken_answerSave _ _ _ q r ho ht
  | byteReceived p b =>
    exact same (by rw [receiveByte_frame, settleFrame_frame])
      ((s.keepsTaken_settleFrame p).trans (keepsTaken_receiveByte _ _ _))
  | frameEnds hl => exact same (by rw [endFrame_frame]) (s.keepsTaken_endFrame _ _)
  | frameDropped hl => exact same rfl (s.keepsTaken_toIdle _)
  | replySent hl => exact hs.endReply _ _
  | @succeeds x content hrun hx =>
    have hw := writes_succeed s x content
    have hports := congrArg State.ports hw.frame
    exact hs.of_sublist hw.undo (.of_ports hports)
  | @attemptFails x hrun hx =>
    obtain ⟨-, e⟩ | ⟨-, e⟩ := attemptFails_cases s x
    · rw [e]
      exact same rfl (.refl s)
    · rw [e]
      have hw := writes_fail s x
      have hports := congrArg State.ports hw.frame
      exact hs.of_sublist hw.undo (.of_ports hports)
  | @noticeTaken n rest hn =>
    let u : State := { s with notices.raised := rest }
    have hports : (u.takeNotice n).ports = s.ports := by rw [takeNotice_frame]
    cases ha : isAlarm n.kind with
    | false => exact same (by rw [takeNotice_plain ha]; exact (u.routeNotice_all_listed _).2.2.2) (.of_ports hports)
    | true =>
      have hentered : (u.enterAlarm n).UndoSound := hs.onAlarms _
      refine hentered.of_sublist ?_ (.of_ports hports)
      rw [takeNotice_alarm ha, ((u.enterAlarm n).routeNotice_all_listed _).2.2.2]
  | escalationTicks => exact hs.onAlarms _
  | supplyFalls => exact same (by rw [enterDown_eq]) (keepsTaken_enterDown s)
  | supplyFallsThroughHold => exact same (by rw [enterDown_eq]; rfl) (keepsTaken_enterDown s.enterHold)
  | resetAsserted hrun => exact same rfl (keepsTaken_stopBlocks s)
  | warmReturn => exact undoSound_of_empty rfl
  | resetWarm => exact undoSound_of_empty rfl
  | coldReturn => exact started _ _ rfl
  | resetCold => exact started _ _ rfl
  | idle => exact hs
  | _ => exact same rfl (.refl _)

end State

end Sys2Proof.Machine
end

section
/-! PROOFS. The requests of the Watches group and the matching of events (R151 to R156). -/

namespace Sys2Proof.Machine

theorem WatchRequest.inRange_iff (q : WatchRequest) : q.inRange = true ↔
    q.watch ≤ 3 ∧ q.priority ≤ 7 ∧ q.subject.inRange = true ∧ (q.stop = false ∨ q.subject.isBand = true) := by
  simp [WatchRequest.inRange, and_assoc]

theorem Subject.inRange_band (first count : Nat) : (Subject.band first count).inRange = true ↔
    first ≠ 0 ∧ first ≠ 4294967295 ∧ count ≠ 0 ∧ count ≤ 256 ∧ first + count - 1 ≤ 4294967294 := by
  have htop : first + count - 1 < Config.serialTop ↔ first + count - 1 ≤ 4294967294 := Nat.lt_succ_iff
  simp only [Subject.inRange, Bool.and_eq_true, decide_eq_true_iff, validSerial_iff, htop]
  omega

/-- Does the subject cover an event, written by its forms. -/
def Subject.coversBy (sub : Subject) (place : Place) (serial : Option Nat) : Bool :=
  match sub, place with
  | .band first count, _ => serial.any fun n => decide (first ≤ n) && decide (n < first + count)
  | .places .locker first last, .locker n => decide (first ≤ n) && decide (n ≤ last)
  | .places .cabin first last, .cabin c => decide (first ≤ c) && decide (c ≤ last)
  | .places .., _ => false

theorem Subject.covers_eq (sub : Subject) (place : Place) (serial : Option Nat) :
    sub.covers place serial = sub.coversBy place serial := by
  cases sub with
  | band first count => cases serial <;> cases place <;> rfl
  | places k first last => cases k <;> cases place <;> rfl

namespace State

variable {s : State}

theorem matchSlot_eq (place : Place) (event : WatchEvent) (serial : Option Nat) (s : State) (i : Nat) :
    matchSlot place event serial s i =
      if (s.watch i).enabled = true ∧ (s.watch i).mask.getLsbD (watchCode event) = true ∧
          (s.watch i).subject.coversBy place serial = true then
        { s with
          watches := tableSet s.watches i
            { s.watch i with hits := min 255 ((s.watch i).hits + 1),
                             lastHit := some { place := place, event := event, serial := serial, time := s.now } },
          notices.raised := s.notices.raised ++
            [{ kind := .watchHit, place := some place, serial := serial, time := s.now,
               hit := some { watch := i, event := event, priority := (s.watch i).priority } }] }
      else s := by
  have hmatch : (s.watch i).matches place event serial = true ↔ (s.watch i).enabled = true ∧
      (s.watch i).mask.getLsbD (watchCode event) = true ∧ (s.watch i).subject.coversBy place serial = true := by
    simp only [Watch.matches, Bool.and_eq_true, Subject.covers_eq, and_assoc]
  exact if_congr hmatch rfl rfl

theorem mem_watches_iff (s : State) (w : Watch) : w ∈ s.watches.toList ↔ ∃ i, i ≤ 3 ∧ s.watch i = w := by
  constructor
  · intro h
    obtain ⟨i, hi, rfl⟩ := List.mem_iff_getElem.1 h
    have hi' : i < 4 := by simpa using hi
    exact ⟨i, by omega, by simp [watch, tableGet, hi']⟩
  · rintro ⟨i, hi, rfl⟩
    exact tableGet_mem _ _ (by omega)

theorem stopped_iff (s : State) (serial : Nat) : s.stopped serial = true ↔
    ∃ i first count, i ≤ 3 ∧ (s.watch i).enabled = true ∧ (s.watch i).stop = true ∧
      (s.watch i).subject = .band first count ∧ first ≤ serial ∧ serial < first + count := by
  have hcovers (sub : Subject) : sub.coversSerial serial = true ↔
      ∃ first count, sub = .band first count ∧ first ≤ serial ∧ serial < first + count := by
    cases sub with
    | band first count => simp [Subject.coversSerial, and_assoc]
    | places k first last => simp [Subject.coversSerial]
  simp only [stopped, List.any_eq_true, mem_watches_iff, Bool.and_eq_true, hcovers]
  constructor
  · rintro ⟨w, ⟨i, hi, rfl⟩, ⟨he, hs⟩, first, count, hsub, h⟩
    exact ⟨i, first, count, hi, he, hs, hsub, h⟩
  · rintro ⟨i, first, count, hi, he, hs, hsub, h⟩
    exact ⟨_, ⟨i, hi, rfl⟩, ⟨he, hs⟩, first, count, hsub, h⟩

end State

section Requests

variable {p : PortId} {r : Request} {s : State}

theorem setWatchRequest_eq {q : WatchRequest} (h : parseWatch r.body = some q) :
    setWatchRequest p r s =
      if q.inRange = true then
        accept (watchBytes q.slot) ((s.remember p (.watch q.watch (s.watch q.watch))).setWatch q.watch q.slot)
      else refuse .outOfRange s := by
  unfold setWatchRequest
  rw [h]
  cases hr : q.inRange <;> simp [hr]

theorem clearWatch_eq {i : Nat} (h : parseNumber 1 r.body = some i) :
    clearWatch p r s =
      if 3 < i then refuse .outOfRange s
      else accept [] ((s.remember p (.enabled i (s.watch i).enabled)).setWatch i { s.watch i with enabled := false }) := by
  unfold clearWatch
  rw [h]

end Requests

/-- Settles O33: the slot written, what it wrote over kept with its request, and an event matched slot by slot. -/
theorem watchesAreSetAndCount : Obligations.WatchesAreSetAndCount := by
  unfold Obligations.WatchesAreSetAndCount
  refine ⟨fun q => ?_, fun p r s => ⟨fun q hg hp hr => ?_, fun i hg hp hi => ?_⟩, fun p r s => ⟨fun q hg hp hr => ?_,
    fun i hg hp hi => ?_⟩, fun s t hs h => ?_, fun place event serial s => rfl, fun serial s => s.stopped_iff serial, ?_⟩
  · rw [WatchRequest.inRange_iff]
    refine and_congr_right fun _ => and_congr_right fun _ => ?_
    rcases q.subject with ⟨first, count⟩ | ⟨kind, first, last⟩
    · simpa [Subject.isBand] using Subject.inRange_band first count
    · cases kind <;> simp [Subject.inRange, Subject.isBand, and_assoc]
  · exact exec_row_taken (k := .setWatch) rfl rfl hg ((setWatchRequest_eq hp).trans (if_neg (ne_true_of_eq_false hr)))
  · exact exec_row_taken (k := .clearWatch) rfl rfl hg ((clearWatch_eq hp).trans (if_pos hi))
  · exact exec_row_taken (k := .setWatch) rfl rfl hg ((setWatchRequest_eq hp).trans (if_pos hr))
  · exact exec_row_taken (k := .clearWatch) rfl rfl hg ((clearWatch_eq hp).trans (if_neg (Nat.not_lt.2 hi)))
  · obtain ⟨q, hm⟩ := State.move_of_step h
    exact hm.keeps_undo (s := s.withPending q) hs
  · intro place event serial i s _ w covered
    have hcovered : covered = w.subject.coversBy place serial := by
      dsimp only [covered]
      generalize w.subject = sub
      cases sub with
      | band first count => rfl
      | places k first last => cases k <;> cases place <;> rfl
    rw [hcovered]
    exact State.matchSlot_eq place event serial s i

end Sys2Proof.Machine
end

section
/-! PROOFS. Frames dropped, replies that leave the line, and what then stands for good (R158, R173, R174, R176, R184, R185). -/

namespace Sys2Proof.Machine

/-! ### What remains to be undone (R158, R176, R185) -/

theorem settledUndo_absent {p : PortId} {us : List Undo} (h : ∀ u ∈ us, u.port ≠ p) : settledUndo p us = us := by
  induction us with
  | nil => rfl
  | cons u us ih =>
    rw [settledUndo, if_neg (h u List.mem_cons_self), ih fun v hv => h v (List.mem_cons_of_mem u hv)]

theorem settledUndo_split {p : PortId} {newer older : List Undo} {u : Undo} (hnewer : ∀ v ∈ newer, v.port ≠ p)
    (hu : u.port = p) :
    settledUndo p (newer ++ u :: older) =
      newer ++ older.filterMap fun o => (u.before.onceStands o.before).map fun b => { o with before := b } := by
  induction newer with
  | nil => rw [List.nil_append, settledUndo, if_pos hu]; rfl
  | cons v newer ih =>
    rw [List.cons_append, settledUndo, if_neg (hnewer v List.mem_cons_self),
      ih fun w hw => hnewer w (List.mem_cons_of_mem v hw)]
    rfl

section OnceStands

variable {newer older : Before}

theorem onceStands_apart (h : newer.samePlace older = false) : newer.onceStands older = some older :=
  if_neg (ne_true_of_eq_false h)

theorem onceStands_watches (i : Nat) (w : Watch) (e : Bool) (j : Nat) (v : Watch) (f : Bool) :
    (Before.watch i w).onceStands (.watch j v) = (if i = j then none else some (.watch j v)) ∧
      (Before.watch i w).onceStands (.enabled j f) = (if i = j then none else some (.enabled j f)) ∧
      (Before.enabled i e).onceStands (.watch j v) = some (.watch j (if i = j then { v with enabled := false } else v)) ∧
      (Before.enabled i e).onceStands (.enabled j f) = (if i = j then none else some (.enabled j f)) := by
  by_cases h : i = j <;> simp [Before.onceStands, Before.samePlace, h]

theorem onceStands_one {k : NoticeKind} {place : Place} {l : List Alarm} {full : Bool}
    {which : Option (NoticeKind × Place)} {m : List Alarm} {f : Bool} :
    (Before.alarms (some (k, place)) l full).onceStands (.alarms which m f) =
      some (.alarms which (ackFrom (some (k, place)) m) (f && !(ackFrom (some (k, place)) m).isEmpty)) := rfl

theorem ackFrom_absent {k : NoticeKind} {place : Place} {m : List Alarm} (h : ∀ a ∈ m, ¬(a.kind = k ∧ a.place = some place)) :
    ackFrom (some (k, place)) m = m := by
  refine List.eraseP_of_forall_not fun a ha => ?_
  simpa using h a ha

end OnceStands

namespace State

variable {s : State}

theorem exec_replySent {p : PortId} {r : Reply} (h : (s.port p).link = .sending r) :
    exec (.replySent p) s = .next (s.endReply p r) := by
  change execReplySent p s = _
  unfold execReplySent
  rw [h]

theorem exec_portFrame_whole {p : PortId} {bytes : List Byte} (h : (s.port p).link = .receiving bytes)
    (hw : frameWhole bytes = true) : exec (.portFrame p) s = .next (s.endFrame p bytes) := by
  change execPortFrame p s = _
  unfold execPortFrame
  rw [h]
  exact congrArg Host.Outcome.next (if_pos hw)

theorem driverEnable_iff (s : State) (p : PortId) :
    s.driverEnable p = true ↔ ∃ sending, (s.port p).link = .sending sending := by
  unfold driverEnable
  cases (s.port p).link <;> simp

end State

/-- Settles O15, clause by clause from the rules of the line and of what is remembered. -/
theorem droppedFramesAndRepliesFreeTheLine : Obligations.DroppedFramesAndRepliesFreeTheLine := by
  unfold Obligations.DroppedFramesAndRepliesFreeTheLine
  refine ⟨fun p bytes s hl => ⟨fun hw hv => ?_, fun hw => ?_, fun h => ?_, fun r rest h => ?_⟩,
    fun p r s => ⟨fun hl => ?_, fun hl => ?_, fun hl => ?_, fun hi hs => ?_⟩,
    fun p us => ⟨settledUndo_absent, fun newer u older h hn hu => h ▸ settledUndo_split hn hu⟩,
    ⟨onceStands_watches, fun p v q w => ?_, fun k m l n => ?_, fun a h b g => ?_, fun d e => rfl,
      fun l full which m f => ?_, fun k place l full which m f h hne => ?_, fun k place l full which f before a after hk ha hb => ?_⟩,
    fun p r s => ⟨s.driverEnable_iff p, fun hl => ?_, fun hl => ⟨_, State.exec_replySent hl, ?_⟩⟩⟩
  · rw [State.exec_portFrame_whole hl hw]
    exact congrArg Host.Outcome.next (if_neg (ne_true_of_eq_false hv))
  · change execFrameGapTimeout p s = _
    unfold execFrameGapTimeout
    rw [hl]
    exact congrArg Host.Outcome.next (if_neg (ne_true_of_eq_false hw))
  · simp [Port.toIdle, h]
  · simp [Port.toIdle, h]
  · rw [State.exec_replySent hl, State.endReply_eq]
  · simp [State.deliver, hl]
  · simp [State.deliver, hl]
  · unfold State.deliver
    dsimp only
    split
    · exact absurd ‹_› hi
    · exact absurd ‹_› hs
    · rfl
  · by_cases h : p = q <;> simp [Before.onceStands, Before.samePlace, h]
  · by_cases h : k = l <;> simp [Before.onceStands, Before.samePlace, h]
  · by_cases h' : a = b <;> simp [Before.onceStands, Before.samePlace, h']
  · simp [Before.onceStands, Before.samePlace, ackFrom]
  · have hm : m.isEmpty = false := by simpa using hne
    rw [onceStands_one, ackFrom_absent h, hm, Bool.not_false, Bool.and_true]
  · rw [onceStands_one, ackFrom_one hk ha hb]
  · rw [State.driverEnable_iff]
    exact ⟨r, by simp [State.deliver, hl]⟩
  · rw [State.driverEnable_iff, State.endReply_eq, State.setPort_port_self]
    cases (s.port p).ready <;> simp [sends]

end Sys2Proof.Machine
end

section
/-! PROOFS. A port receiver: bytes assembled to a frame, and a whole frame checked and taken (R173 to R178, Table 13-1). -/

namespace Sys2Proof.Machine

/-! ### The parts of a whole frame (R174, Table 13-1) -/

section Frame

variable (len tag code hi lo : Byte) (body : List Byte)

theorem frameWhole_iff : frameWhole (len :: tag :: code :: (body ++ [hi, lo])) = true ↔ body.length = len.toNat := by
  simp [frameWhole]

/-- A frame's bytes are what its check covers and the two bytes of the check. -/
theorem frame_split : len :: tag :: code :: (body ++ [hi, lo]) = (len :: tag :: code :: body) ++ [hi, lo] := rfl

theorem frameValid_iff : frameValid (len :: tag :: code :: (body ++ [hi, lo])) = true ↔
    256 * hi.toNat + lo.toNat = (crc16 (len :: tag :: code :: body)).toNat ∧ code.toNat < 128 := by
  have hlen : (len :: tag :: code :: (body ++ [hi, lo])).length - 2 = (len :: tag :: code :: body).length := by simp
  have hcheck : natOf [hi, lo] = 256 * hi.toNat + lo.toNat := by
    rw [natOf_cons, natOf_cons, natOf_nil]
    simp [Nat.mul_comm]
  have hcode : byteAt (len :: tag :: code :: (body ++ [hi, lo])) 2 = code.toNat := by
    change natOf [code] = code.toNat
    simp [natOf_cons]
  rw [frameValid, hlen, hcode, frame_split, List.take_left, List.drop_left, hcheck]
  simp

theorem frameBody_eq : frameBody (len :: tag :: code :: (body ++ [hi, lo])) = body := by
  simp [frameBody]

variable {len tag code hi lo body}

theorem frame_of_whole {bytes : List Byte} (h : frameWhole bytes = true) :
    ∃ (len tag code hi lo : Byte) (body : List Byte), bytes = len :: tag :: code :: (body ++ [hi, lo]) := by
  match bytes, h with
  | len :: rest, h =>
    have hlen : rest.length = len.toNat + 4 := by simpa [frameWhole] using h
    match rest, hlen with
    | tag :: code :: more, hlen =>
      have hmore : more.length = len.toNat + 2 := by simpa using hlen
      obtain ⟨body, tail, rfl, htail⟩ : ∃ body tail, more = body ++ tail ∧ tail.length = 2 :=
        ⟨more.take len.toNat, more.drop len.toNat, (List.take_append_drop _ _).symm, by simp [hmore]⟩
      match tail, htail with
      | [hi, lo], _ => exact ⟨len, tag, code, hi, lo, body, rfl⟩

end Frame

/-! ### The kinds and the ranks they need (R175, R177, R178) -/

theorem kindOf_kindCode (k : ReqKind) : (allKinds.find? fun j => kindCode j == kindCode k) = some k := by
  cases k <;> rfl

theorem kindOf_iff (code : Byte) (k : ReqKind) : kindOf code = some k ↔ code.toNat = kindCode k := by
  constructor
  · intro h
    exact (by simpa using List.find?_some h : kindCode k = code.toNat).symm
  · intro h
    unfold kindOf
    rw [h]
    exact kindOf_kindCode k

/-- The settings requests, which need rank 0 (R177). -/
def settingsKinds : List ReqKind :=
  [.setZone, .setTariff, .setWindows, .setPort, .setModules, .setNoticePriority, .saveSettings, .setClock]

/-- The attendant requests, which need rank 1 or less (R177). -/
def attendantKinds : List ReqKind :=
  [.openLocker, .releaseLocker, .rearmLocker, .setLockerService, .openCabin, .setCabinService, .holdModule, .releaseModule,
   .revokeBand, .discardBand, .closeDay, .setWatch, .clearWatch]

theorem rankNeeded_eq (k : ReqKind) :
    rankNeeded k = if k ∈ settingsKinds then 0 else if k ∈ attendantKinds then 1 else 3 := by
  cases k <;> rfl

theorem rankPasses_issueBand (rank : Nat) (body : List Byte) :
    (∀ b, body[5]? = some b → (rankPasses .issueBand rank body = true ↔ rank ≤ b.toNat)) ∧
      (body.length ≤ 5 → rankPasses .issueBand rank body = true) := by
  refine ⟨fun b hb => by simp [rankPasses, hb], fun h => ?_⟩
  simp [rankPasses, h]

theorem rankPasses_iff {k : ReqKind} (hk : k ≠ .issueBand) (rank : Nat) (body : List Byte) :
    rankPasses k rank body = true ↔ rank ≤ rankNeeded k := by
  unfold rankPasses
  split
  · exact absurd rfl hk
  · exact decide_eq_true_iff

/-! ### A whole frame taken (R174 to R176) -/

namespace State

variable {s : State} {p : PortId} {bytes : List Byte}

theorem portRefusal_congr {t : State} (h : t.settings = s.settings) (code : Byte) (body : List Byte) :
    t.portRefusal p code body = s.portRefusal p code body ∧ t.portRank p = s.portRank p := by
  have hset : t.portPermitted p = s.portPermitted p := by cases p <;> simp [portPermitted, h]
  have hrank : t.portRank p = s.portRank p := by cases p <;> simp [portRank, h]
  exact ⟨by rw [portRefusal, portRefusal, hset, hrank], hrank⟩

/-- The port with one request, its line sending the first of the replies that stand ready. -/
def lined (l : List Reply) (o : Option Request) : Port := { link := sends l, outstanding := o, ready := l.drop 1 }

theorem toIdle_lined (q : Port) : q.toIdle = lined q.ready q.outstanding := toIdle_eq q

theorem deliver_lined (l : List Reply) (o : Option Request) (r : Reply) :
    (s.setPort p (lined l o)).deliver p r = s.setPort p (lined (l ++ [r]) o) := s.deliver_sends p o l r

/-- The request that a frame carries. -/
def framed (s : State) (p : PortId) (bytes : List Byte) (taken : Bool) : Request :=
  { tag := bytes.getD 1 0, code := bytes.getD 2 0, body := frameBody bytes, rank := s.portRank p, taken := taken }

/-- The reply of the port itself to a frame. -/
def portReply (bytes : List Byte) (c : ResultCode) (busy : Bool) : Reply :=
  { tag := bytes.getD 1 0, code := bytes.getD 2 0, result := c, data := [], busy := busy }

theorem endFrame_invalid (h : frameValid bytes = false) : s.endFrame p bytes = s.setPort p (s.port p).toIdle :=
  if_neg (ne_true_of_eq_false h)

theorem endFrame_busy (hv : frameValid bytes = true) (ho : (s.port p).outstanding ≠ none) :
    s.endFrame p bytes =
      s.setPort p (lined ((s.port p).ready ++ [portReply bytes .busy true]) (s.port p).outstanding) := by
  have hsome : (lined (s.port p).ready (s.port p).outstanding).outstanding.isSome = true := Option.isSome_iff_ne_none.2 ho
  rw [endFrame, if_pos hv, takeFrame, toIdle_lined, setPort_port_self, if_pos hsome]
  exact deliver_lined _ _ _

section Free

variable (hv : frameValid bytes = true) (ho : (s.port p).outstanding = none)
include hv ho

/-- The state in which a port without a request outstanding has checked a frame: the refusal is that of the state before. -/
theorem endFrame_checked :
    s.endFrame p bytes =
      let held := s.setPort p (lined (s.port p).ready (some (s.framed p bytes false)))
      match s.portRefusal p (bytes.getD 2 0) (frameBody bytes) with
      | none => held
      | some c => (held.markTaken p).deliver p (portReply bytes c false) := by
  have hnone : ¬(lined (s.port p).ready (s.port p).outstanding).outstanding.isSome = true := by simp [lined, ho]
  obtain ⟨href, hrank⟩ := portRefusal_congr (p := p)
    (setPort_settings s p (lined (s.port p).ready (s.port p).outstanding)) (bytes.getD 2 0) (frameBody bytes)
  rw [endFrame, if_pos hv, takeFrame, toIdle_lined, setPort_port_self, if_neg hnone, href, hrank]
  dsimp only
  rw [setPort_setPort]
  cases s.portRefusal p (bytes.getD 2 0) (frameBody bytes) <;> rfl

/-- A frame that the port does not refuse: its request goes to the block. -/
theorem endFrame_passed (h : s.portRefusal p (bytes.getD 2 0) (frameBody bytes) = none) :
    s.endFrame p bytes = s.setPort p (lined (s.port p).ready (some (s.framed p bytes false))) := by
  rw [endFrame_checked hv ho, h]

/-- A frame that the port refuses: its request stands until the refusal has been sent. -/
theorem endFrame_refused {c : ResultCode} (h : s.portRefusal p (bytes.getD 2 0) (frameBody bytes) = some c) :
    s.endFrame p bytes =
      s.setPort p (lined ((s.port p).ready ++ [portReply bytes c false]) (some (s.framed p bytes true))) := by
  have held : (s.setPort p (lined (s.port p).ready (some (s.framed p bytes false)))).markTaken p =
      s.setPort p (lined (s.port p).ready (some (s.framed p bytes true))) := by
    rw [markTaken_of_outstanding (by rw [setPort_port_self]; rfl), setPort_setPort, setPort_port_self]
    rfl
  rw [endFrame_checked hv ho, h]
  exact (congrArg (deliver · p _) held).trans (deliver_lined _ _ _)

end Free

theorem portRefusal_notPermitted {code : Byte} {body : List Byte}
    (h : kindOf code = none ∨ ∃ k, kindOf code = some k ∧ (s.portPermitted p).getLsbD (kindCode k - 1) = false) :
    s.portRefusal p code body = some .notPermitted := by
  unfold portRefusal
  obtain h | ⟨k, h, hset⟩ := h
  · rw [h]
  · rw [h]
    simp [hset]

theorem portRefusal_rank {code : Byte} {body : List Byte} {k : ReqKind} (hk : kindOf code = some k)
    (hset : (s.portPermitted p).getLsbD (kindCode k - 1) = true) :
    s.portRefusal p code body = if rankPasses k (s.portRank p) body = true then none else some .rank := by
  unfold portRefusal
  rw [hk]
  cases hr : rankPasses k (s.portRank p) body <;> simp [hset, hr]

end State

/-- Settles O14: the parts of a frame, then the checks in their order, then the ranks kind by kind. -/
theorem frameCheckedInOrder : Obligations.FrameCheckedInOrder := by
  refine ⟨?parts, fun _ h => frame_of_whole h, ?checks, ?ranks, kindOf_iff, rfl, fun s => ⟨rfl, ?cp2, rfl, rfl, rfl, rfl⟩⟩
  case parts =>
    intro len tag code hi lo body bytes
    exact ⟨frameWhole_iff _ _ _ _ _ _, frameValid_iff _ _ _ _ _ _, frameBody_eq _ _ _ _ _ _⟩
  case checks =>
    intro p bytes s hl hw hv tag code body waiting request answers
    have run {t : State} (h : s.endFrame p bytes = t) : exec (.portFrame p) s = .next t :=
      (State.exec_portFrame_whole hl hw).trans (congrArg Host.Outcome.next h)
    refine ⟨fun ho => run (State.endFrame_busy hv ho), fun ho => ⟨fun h => ?_, fun k hk hset => ⟨fun hr => ?_, fun hr => ?_⟩⟩⟩
    · exact run (State.endFrame_refused hv ho (State.portRefusal_notPermitted h))
    · exact run (State.endFrame_refused hv ho ((State.portRefusal_rank hk hset).trans (if_neg (ne_true_of_eq_false hr))))
    · exact run (State.endFrame_passed hv ho ((State.portRefusal_rank hk hset).trans (if_pos hr)))
  case ranks =>
    intro k rank body settings attendant
    have issue : ∀ l : List ReqKind, .issueBand ∉ l → k ∈ l → k ≠ .issueBand := fun l hl hk h => hl (h ▸ hk)
    refine ⟨fun h => ?_, fun h => ?_, fun h => h ▸ rankPasses_issueBand rank body, fun hs ha hi hr => ?_⟩
    · rw [rankPasses_iff (issue settings (by decide) h), rankNeeded_eq, if_pos (show k ∈ settingsKinds from h)]
      exact Nat.le_zero
    · have hs : k ∉ settingsKinds := by
        rw [show attendant = attendantKinds from rfl] at h
        revert h
        cases k <;> decide
      rw [rankPasses_iff (issue attendant (by decide) h), rankNeeded_eq, if_neg hs, if_pos (show k ∈ attendantKinds from h)]
    · rw [rankPasses_iff hi, rankNeeded_eq, if_neg (show k ∉ settingsKinds from hs), if_neg (show k ∉ attendantKinds from ha)]
      exact hr
  case cp2 =>
    exact fun i hi => BitVec.getLsbD_allOnes.trans (decide_eq_true hi)

end Sys2Proof.Machine
end

section
/-! PROOFS. A port receiver byte by byte, and a frame sent whole to an IDLE port (R173, R174). -/

namespace Sys2Proof.Machine

namespace State

variable {s : State} {p : PortId}

/-! ### One byte at a port -/

theorem exec_portByte (b : Byte) : exec (.portByteReceived p b) s = .next ((s.settleFrame p).receiveByte p b) := rfl

theorem frameWhole_cons (a : Byte) (more : List Byte) : frameWhole (a :: more) = decide (more.length = a.toNat + 4) := by
  simp [frameWhole]

/-- A line that has no whole frame has none to take before the next byte. -/
theorem settleFrame_unfinished (h : ∀ bytes, (s.port p).link = .receiving bytes → frameWhole bytes = false) :
    s.settleFrame p = s := by
  unfold settleFrame
  split
  next bytes hl => exact if_neg (ne_true_of_eq_false (h bytes hl))
  next => rfl

theorem settleFrame_whole {bytes : List Byte} (hl : (s.port p).link = .receiving bytes) (hw : frameWhole bytes = true) :
    s.settleFrame p = s.endFrame p bytes := by
  unfold settleFrame
  rw [hl]
  exact if_pos hw

/-- A frame ended leaves the line IDLE or sending. -/
theorem endFrame_lined (bytes : List Byte) : ∃ l o, s.endFrame p bytes = s.setPort p (lined l o) := by
  cases hv : frameValid bytes with
  | false => exact ⟨_, _, (endFrame_invalid hv).trans (by rw [toIdle_lined])⟩
  | true =>
    by_cases ho : (s.port p).outstanding = none
    · cases href : s.portRefusal p (bytes.getD 2 0) (frameBody bytes) with
      | none => exact ⟨_, _, endFrame_passed hv ho href⟩
      | some c => exact ⟨_, _, endFrame_refused hv ho href⟩
    · exact ⟨_, _, endFrame_busy hv ho⟩

theorem settleFrame_lined (l : List Reply) (o : Option Request) :
    (s.setPort p (lined l o)).settleFrame p = s.setPort p (lined l o) := by
  refine settleFrame_unfinished fun bytes h => ?_
  rw [setPort_port_self] at h
  cases l <;> exact Link.noConfusion h

/-- A byte that no whole frame stands before. -/
theorem exec_portByte_unfinished (h : ∀ bytes, (s.port p).link = .receiving bytes → frameWhole bytes = false) (b : Byte) :
    exec (.portByteReceived p b) s = .next (s.receiveByte p b) := by
  rw [exec_portByte, settleFrame_unfinished h]

theorem exec_portByte_idle (h : (s.port p).link = .idle) (b : Byte) :
    exec (.portByteReceived p b) s =
      .next (if b = 0xA5#8 then s.setPort p { s.port p with link := .receiving [] } else s) := by
  rw [exec_portByte_unfinished (fun bytes hl => nomatch h.symm.trans hl), receiveByte, h]

theorem exec_portByte_length (h : (s.port p).link = .receiving []) (b : Byte) :
    exec (.portByteReceived p b) s =
      .next (s.setPort p (if b.toNat ≤ 64 then { s.port p with link := .receiving [b] } else (s.port p).toIdle)) := by
  have whole : ∀ bytes, (s.port p).link = .receiving bytes → frameWhole bytes = false := fun bytes hl => by
    obtain rfl : [] = bytes := Link.receiving.inj (h.symm.trans hl)
    rfl
  rw [exec_portByte_unfinished whole, receiveByte, h]
  by_cases hb : b.toNat ≤ 64
  · simp [hb, Config.bodyTop, Nat.not_lt.2 hb]
  · simp [hb, Config.bodyTop, Nat.lt_of_not_le hb]

theorem exec_portByte_more {a : Byte} {more : List Byte} (h : (s.port p).link = .receiving (a :: more))
    (hlen : more.length ≠ a.toNat + 4) (b : Byte) :
    exec (.portByteReceived p b) s = .next (s.setPort p { s.port p with link := .receiving (a :: more ++ [b]) }) := by
  have whole : ∀ bytes, (s.port p).link = .receiving bytes → frameWhole bytes = false := fun bytes hl => by
    obtain rfl : a :: more = bytes := Link.receiving.inj (h.symm.trans hl)
    rw [frameWhole_cons]
    exact decide_eq_false hlen
  rw [exec_portByte_unfinished whole, receiveByte, h] <;> rfl

/-! ### A frame sent byte by byte -/

theorem setPort_port_same (s : State) (p : PortId) : s.setPort p (s.port p) = s := by
  cases p <;> rfl

theorem runAll_cons {c : Instr} {t : State} (h : exec c s = .next t) (rest : List Instr) :
    s.runAll (c :: rest) = t.runAll rest := by
  rw [runAll, h]

/-- Bytes that the length byte still leaves room for join the frame. -/
theorem runAll_receiving (a : Byte) (bytes : List Byte) (rest : List Instr) :
    ∀ (more : List Byte) (s : State), (s.port p).link = .receiving (a :: more) →
      more.length + bytes.length ≤ a.toNat + 4 →
        s.runAll (bytes.map (Instr.portByteReceived p) ++ rest) =
          (s.setPort p { s.port p with link := .receiving (a :: more ++ bytes) }).runAll rest := by
  induction bytes with
  | nil =>
    intro more s hl _
    have same : s.setPort p { s.port p with link := .receiving (a :: more ++ []) } = s := by
      rw [List.append_nil, ← hl]
      exact s.setPort_port_same p
    rw [same]
    rfl
  | cons b bytes ih =>
    intro more s hl hroom
    rw [List.length_cons] at hroom
    refine (runAll_cons (exec_portByte_more hl (by omega) b) _).trans ?_
    refine (ih (more ++ [b]) _ ?_ ?_).trans ?_
    · rw [setPort_port_self]
      rfl
    · rw [List.length_append, List.length_singleton]
      omega
    · rw [setPort_port_self, setPort_setPort, ← List.cons_append, List.append_assoc, List.singleton_append]

end State

/-- A frame as sent: the sync byte, the length, tag and kind, the body and its check. -/
theorem requestFrame_eq {tag code : Byte} {body : List Byte} (hlen : body.length ≤ Config.bodyTop) :
    ∃ a hi lo : Byte, a.toNat = body.length ∧
      256 * hi.toNat + lo.toNat = (crc16 (a :: tag :: code :: body)).toNat ∧
        requestFrame tag code body = 0xA5#8 :: a :: tag :: code :: (body ++ [hi, lo]) := by
  have hsmall : body.length < 256 := lt_of_le_of_lt hlen (by decide)
  let check := (crc16 (BitVec.ofNat 8 body.length :: tag :: code :: body)).toNat
  refine ⟨BitVec.ofNat 8 body.length, BitVec.ofNat 8 (check / 256), BitVec.ofNat 8 check, ?_, ?_, ?_⟩
  · rw [BitVec.toNat_ofNat]
    exact Nat.mod_eq_of_lt hsmall
  · have hcheck : check < 65536 := BitVec.isLt _
    change 256 * (check / 256 % 256) + check % 256 = check
    omega
  · simp [requestFrame, bytesOf, check]

/-- Settles O13: by the port's link state; a frame already whole is ended first, and leaves nothing to end. -/
theorem byteByLinkState : Obligations.ByteByLinkState := by
  intro p b s
  refine ⟨fun h => State.exec_portByte_idle h b, fun h => State.exec_portByte_length h b,
    fun a more h hlen => State.exec_portByte_more h hlen b, fun a more t h hlen ht => ?_, fun r h => ?_, fun h => ?_⟩
  · have hw : frameWhole (a :: more) = true := by
      rw [State.frameWhole_cons]
      exact decide_eq_true hlen
    obtain rfl : s.endFrame p (a :: more) = t := Host.Outcome.next.inj ((State.exec_portFrame_whole h hw).symm.trans ht)
    obtain ⟨l, o, hended⟩ := State.endFrame_lined (s := s) (p := p) (a :: more)
    rw [State.exec_portByte, State.exec_portByte, State.settleFrame_whole h hw, hended, State.settleFrame_lined]
  · rw [State.exec_portByte_unfinished (fun bytes hl => nomatch h.symm.trans hl), State.receiveByte, h]
  · rw [State.exec_portByte_unfinished (fun bytes hl => nomatch h.symm.trans hl), State.receiveByte, h]

/-- Settles O12: the sync byte, the length, then every byte joins the frame, which is then whole, valid and taken. -/
theorem frameSentBecomesTheRequest : Obligations.FrameSentBecomesTheRequest := by
  intro p tag code body s hlen hcode hidle ho hready href
  obtain ⟨a, hi, lo, ha, hcheck, hframe⟩ := requestFrame_eq (tag := tag) (code := code) hlen
  let bytes := a :: tag :: code :: (body ++ [hi, lo])
  have hw : frameWhole bytes = true := (frameWhole_iff ..).2 ha.symm
  have hv : frameValid bytes = true := (frameValid_iff ..).2 ⟨hcheck, hcode⟩
  have hsync := State.exec_portByte_idle hidle 0xA5#8
  rw [if_pos rfl] at hsync
  let begun := s.setPort p { s.port p with link := .receiving [] }
  have hlength : exec (.portByteReceived p a) begun = .next (s.setPort p { s.port p with link := .receiving [a] }) := by
    have hl : (begun.port p).link = .receiving [] := by rw [State.setPort_port_self]
    rw [State.exec_portByte_length hl, if_pos (ha ▸ hlen), State.setPort_port_self, State.setPort_setPort]
  let sent := s.setPort p { s.port p with link := .receiving bytes }
  have hsent : (s.setPort p { s.port p with link := .receiving [a] }).runAll
      ((tag :: code :: (body ++ [hi, lo])).map (Instr.portByteReceived p) ++ [.portFrame p]) =
        sent.runAll [.portFrame p] := by
    rw [State.runAll_receiving (p := p) a _ _ [], State.setPort_port_self, State.setPort_setPort] <;>
      simp [State.setPort_port_self, ha, sent, bytes]
  have hend : sent.endFrame p bytes =
      s.setPort p
        { link := .idle, ready := [],
          outstanding := some { tag := tag, code := code, body := body, rank := s.portRank p, taken := false } } := by
    have hbody : frameBody bytes = body := frameBody_eq ..
    have hport : sent.port p = { s.port p with link := .receiving bytes } := s.setPort_port_self p _
    obtain ⟨hsame, hrank⟩ := State.portRefusal_congr (p := p)
      (State.setPort_settings s p { s.port p with link := .receiving bytes }) code body
    have passed := State.endFrame_passed (s := sent) hv (by rw [hport]; exact ho)
      (by rw [hbody]; exact hsame.trans href)
    rw [passed, State.framed, hport, hready, hbody, hrank]
    exact s.setPort_setPort p _ _
  rw [hframe, List.map_cons, List.map_cons, List.cons_append, List.cons_append, State.runAll_cons hsync,
    State.runAll_cons hlength, hsent]
  have hl : (sent.port p).link = .receiving bytes := by rw [State.setPort_port_self]
  rw [State.runAll_cons ((State.exec_portFrame_whole hl hw).trans (congrArg Host.Outcome.next hend))]
  rfl

end Sys2Proof.Machine
end

section
/-! PROOFS. The request bodies read back as written (Table 13-2). -/

namespace Sys2Proof.Machine

/-! ### Fields read from a record written field by field -/

@[simp] theorem fieldAt_first (w v : Nat) (fs : List (Nat × Nat)) :
    fieldAt (writeFields ((w, v) :: fs)) 0 w = v % 256 ^ w := by
  rw [writeFields_cons, fieldAt_append_left _ _ _ _ (by simp), fieldAt_bytesOf]

@[simp] theorem fieldAt_later {w off : Nat} (h : 0 < w ∧ w ≤ off) (v len : Nat) (fs : List (Nat × Nat)) :
    fieldAt (writeFields ((w, v) :: fs)) off len = fieldAt (writeFields fs) (off - w) len := by
  rw [writeFields_cons, fieldAt_append_right _ _ _ _ (by simpa using h.2), bytesOf_length]

@[simp] theorem byteAt_first (v : Nat) (fs : List (Nat × Nat)) : byteAt (writeFields ((1, v) :: fs)) 0 = v % 256 :=
  fieldAt_first 1 v fs

@[simp] theorem byteAt_later {w off : Nat} (h : 0 < w ∧ w ≤ off) (v : Nat) (fs : List (Nat × Nat)) :
    byteAt (writeFields ((w, v) :: fs)) off = byteAt (writeFields fs) (off - w) := fieldAt_later h v 1 fs

@[simp] theorem drop_later {w off : Nat} (h : 0 < w ∧ w ≤ off) (v : Nat) (fs : List (Nat × Nat)) :
    (writeFields ((w, v) :: fs)).drop off = (writeFields fs).drop (off - w) := by
  rw [writeFields_cons, List.drop_append, List.drop_of_length_le (by simpa using h.2), bytesOf_length, List.nil_append]

@[simp] theorem tail_first (v : Nat) (fs : List (Nat × Nat)) : (writeFields ((1, v) :: fs)).tail = writeFields fs := rfl

/-! ### The enumerations read back as coded (section 13.1) -/

@[simp] theorem yesNoOf_yesNo (b : Bool) : yesNoOf (yesNo b % 256) = some b := by cases b <;> rfl
@[simp] theorem directionOf_yesNo (b : Bool) : directionOf (yesNo b % 256) = some b := by cases b <;> rfl
@[simp] theorem bankOf_bankCode (b : Bank) : bankOf (bankCode b % 256) = some b := by cases b <;> rfl
@[simp] theorem zoneOrderOf_zoneOrderCode (o : ZoneOrder) : zoneOrderOf (zoneOrderCode o % 256) = some o := by cases o <;> rfl
@[simp] theorem cabinKindOf_cabinKindCode (k : CabinKind) : cabinKindOf (cabinKindCode k % 256) = some k := by cases k <;> rfl
@[simp] theorem noticeOf_noticeCode (k : NoticeKind) : noticeOf (noticeCode k % 256) = some k := by cases k <;> rfl

/-! ### The bodies -/

theorem parseNumber_bytesOf {w n : Nat} (h : n < 256 ^ w) : parseNumber w (bytesOf w n) = some n := by
  simp [parseNumber, natOf_bytesOf, Nat.mod_eq_of_lt h]

theorem parseEmpty_eq (body : List Byte) : parseEmpty body = if body = [] then some () else none := by
  cases body <;> rfl

theorem parseSerialAmount_written {n m : Nat} (hn : n < 4294967296) (hm : m < 65536) :
    parseSerialAmount (serialAmountBody n m) = some (n, m) := by
  have hbody : serialAmountBody n m = writeFields [(4, n), (2, m)] := by simp [serialAmountBody, writeFields]
  simp [parseSerialAmount, hbody, writeFields_length, Nat.mod_eq_of_lt, hn, hm]

theorem parseTwoSerials_written {n m : Nat} (hn : n < 4294967296) (hm : m < 4294967296) :
    parseTwoSerials (twoSerialsBody n m) = some (n, m) := by
  have hbody : twoSerialsBody n m = writeFields [(4, n), (4, m)] := by simp [twoSerialsBody, writeFields]
  simp [parseTwoSerials, hbody, writeFields_length, Nat.mod_eq_of_lt, hn, hm]

theorem parseBandRef_written {q : BandRef} (h : q.fits) : parseBandRef (bandRefBody q) = some q := by
  cases q with
  | serial n =>
    have hbody : bandRefBody (.serial n) = writeFields [(1, 0), (4, n)] := by simp [bandRefBody, writeFields]
    have hn : n < 4294967296 := h
    simp [parseBandRef, hbody, writeFields_length, Nat.mod_eq_of_lt, hn]
  | slot n =>
    have hbody : bandRefBody (.slot n) = writeFields [(1, 1), (4, n)] := by simp [bandRefBody, writeFields]
    have hn : n < 4294967296 := h
    simp [parseBandRef, hbody, writeFields_length, Nat.mod_eq_of_lt, hn]

/-- An assignment as two fields: its form and its number. -/
def assignmentFields : Assignment → List (Nat × Nat)
  | .zone z => [(1, 0), (2, z)]
  | .locker n => [(1, 1), (2, n)]

theorem assignmentBytes_eq (a : Assignment) : assignmentBytes a = writeFields (assignmentFields a) := by
  cases a <;> simp [assignmentBytes, assignmentFields, writeFields]

theorem assignmentFields_width (a : Assignment) : ((assignmentFields a).map Prod.fst).sum = 3 := by cases a <;> rfl

theorem assignmentOf_written {a : Assignment} (h : a.fits) : assignmentOf (writeFields (assignmentFields a)) = some a := by
  cases a with
  | zone z =>
    have hz : z < 65536 := h
    simp [assignmentOf, assignmentFields, Nat.mod_eq_of_lt, hz]
  | locker n =>
    have hn : n < 65536 := h
    simp [assignmentOf, assignmentFields, Nat.mod_eq_of_lt, hn]

theorem parseAssign_written {n : Nat} {a : Assignment} (hn : n < 4294967296) (ha : a.fits) :
    parseAssign (assignBody n a) = some (n, a) := by
  have hbody : assignBody n a = writeFields ((4, n) :: assignmentFields a) := by
    rw [assignBody, assignmentBytes_eq, writeFields_cons]
  simp [parseAssign, hbody, writeFields_length, assignmentFields_width, assignmentOf_written ha, Nat.mod_eq_of_lt hn]

theorem parseLockerService_written {n : Nat} (d : Bool) (hn : n < 65536) :
    parseLockerService (lockerServiceBody n d) = some (n, d) := by
  have hbody : lockerServiceBody n d = writeFields [(2, n), (1, yesNo d)] := by simp [lockerServiceBody, writeFields]
  simp [parseLockerService, hbody, writeFields_length, Nat.mod_eq_of_lt hn]

theorem parseCabinService_written {c : Nat} (d : Bool) (hc : c < 256) :
    parseCabinService (cabinServiceBody c d) = some (c, d) := by
  have hbody : cabinServiceBody c d = writeFields [(1, c), (1, yesNo d)] := by simp [cabinServiceBody, writeFields]
  simp [parseCabinService, hbody, writeFields_length, Nat.mod_eq_of_lt hc]

theorem parseZone_written {q : ZoneRequest} (h : q.fits) : parseZone (zoneBody q) = some q := by
  obtain ⟨hzone, hfirst, hcount, hrank⟩ := h
  have hbody : zoneBody q =
      writeFields [(1, q.zone), (1, yesNo q.value.present), (2, q.value.first), (2, q.value.count), (1, q.value.rank),
        (1, yesNo q.value.groupOnly), (1, zoneOrderCode q.value.order)] := by
    simp [zoneBody, writeFields]
  simp [parseZone, hbody, writeFields_length, Nat.mod_eq_of_lt, hzone, hfirst, hcount, hrank]

theorem parseTariff_written {q : TariffRequest} (h : q.fits) : parseTariff (tariffBody q) = some q := by
  obtain ⟨hcls, hstep, hrate, hcap⟩ := h
  have hbody : tariffBody q =
      writeFields [(1, bankCode q.bank), (1, q.cls), (2, q.value.step), (2, q.value.rate), (2, q.value.cap)] := by
    simp [tariffBody, writeFields]
  simp [parseTariff, hbody, writeFields_length, Nat.mod_eq_of_lt, hcls, hstep, hrate, hcap]

theorem parseBank_written (b : Bank) : parseBank (bankBody b) = some b := by cases b <;> rfl

/-- A watch's subject as three fields: its code, its first and its other number. -/
def subjectFields : Subject → List (Nat × Nat)
  | .band first count => [(1, 0), (4, first), (2, count)]
  | .places .locker first last => [(1, 1), (4, first), (2, last)]
  | .places .cabin first last => [(1, 2), (4, first), (2, last)]

theorem subjectBytes_fields (u : Subject) : subjectBytes u = writeFields (subjectFields u) := by
  match u with
  | .band .. => simp [subjectBytes, subjectFields, writeFields]
  | .places .locker .. => simp [subjectBytes, subjectFields, writeFields]
  | .places .cabin .. => simp [subjectBytes, subjectFields, writeFields]

/-- The two flags of SET_WATCH read back from their bits. -/
theorem flags_two_bits (a b : Bool) :
    ((yesNo a + 2 * yesNo b) % 256).testBit 0 = a ∧ ((yesNo a + 2 * yesNo b) % 256).testBit 1 = b := by
  cases a <;> cases b <;> decide

theorem parseWatch_written {q : WatchRequest} (h : q.fits) : parseWatch (watchBody q) = some q := by
  obtain ⟨watch, enabled, stop, subject, mask, priority⟩ := q
  obtain ⟨hwatch, hpriority, hsubject⟩ := h
  have hmask : BitVec.ofNat 5 (mask.toNat % 256) = mask := by
    rw [Nat.mod_eq_of_lt (lt_of_lt_of_le mask.isLt (by decide)), BitVec.ofNat_toNat, BitVec.setWidth_eq]
  have hbody : watchBody ⟨watch, enabled, stop, subject, mask, priority⟩ =
      writeFields ((1, watch) :: (1, yesNo enabled + 2 * yesNo stop) ::
        (subjectFields subject ++ [(1, mask.toNat), (1, priority)])) := by
    rw [watchBody, flags_two, subjectBytes_fields, writeFields_cons, writeFields_cons, writeFields_append]
    simp [writeFields]
  obtain ⟨hbit0, hbit1⟩ := flags_two_bits enabled stop
  obtain ⟨first, other⟩ | ⟨_ | _, first, other⟩ := subject <;> obtain ⟨hfirst, hother⟩ := hsubject <;>
    simp [parseWatch, hbody, subjectFields, writeFields_length, Nat.mod_eq_of_lt, hwatch, hpriority, hfirst, hother, hbit0,
      hbit1, hmask]

theorem parseAck_written {q : AckRequest} (h : q.fits) : parseAck (ackBody q) = some q := by
  cases q with
  | all => rfl
  | one k n =>
    have hbody : ackBody (.one k n) = writeFields [(1, noticeCode k), (2, n)] := by simp [ackBody, writeFields]
    have hn : n < 65536 := h
    simp [parseAck, hbody, writeFields_length, Nat.mod_eq_of_lt, hn]

theorem parsePriority_written (k : NoticeKind) {n : Nat} (hn : n < 256) : parsePriority (priorityBody k n) = some (k, n) := by
  have hbody : priorityBody k n = writeFields [(1, noticeCode k), (1, n)] := by simp [priorityBody, writeFields]
  simp [parsePriority, hbody, writeFields_length, Nat.mod_eq_of_lt hn]

theorem parseModules_written {q : ModulesRequest} (h : q.fits) : parseModules (modulesBody q) = some q := by
  obtain ⟨addr, configured, hold, kinds⟩ := q
  obtain ⟨haddr, hkinds⟩ := h
  dsimp only at haddr hkinds
  have hmod : addr % 256 = addr := Nat.mod_eq_of_lt haddr
  cases hcabin : isCabinModule addr with
  | false =>
    obtain rfl : kinds = [] := List.eq_nil_of_length_eq_zero (by simpa [hcabin] using hkinds)
    have hbody : modulesBody ⟨addr, configured, hold, []⟩ =
        writeFields [(1, addr), (1, yesNo configured), (1, yesNo hold), (4, 0)] := by
      simp [modulesBody, writeFields, hcabin]
    simp [parseModules, hbody, writeFields_length, hmod, hcabin]
  | true =>
    have hfour : kinds.length = 4 := by simpa [hcabin] using hkinds
    match kinds, hfour with
    | [a, b, c, d], _ =>
      have hbody : modulesBody ⟨addr, configured, hold, [a, b, c, d]⟩ =
          writeFields [(1, addr), (1, yesNo configured), (1, yesNo hold), (1, cabinKindCode a), (1, cabinKindCode b),
            (1, cabinKindCode c), (1, cabinKindCode d)] := by
        simp [modulesBody, writeFields, hcabin]
      simp [parseModules, hbody, writeFields_length, hmod, hcabin]

theorem permOf_permBytes (set : PermSet) : permOf (permBytes set) = set := by
  have hlt := set.isLt
  apply BitVec.eq_of_toNat_eq
  simp [permOf, permBytes, List.range_succ, natOf, BitVec.extractLsb'_toNat, Nat.shiftRight_eq_div_pow]
  omega

theorem parsePort_written {n rank : Nat} (set : PermSet) (hn : n < 256) (hr : rank < 256) :
    parsePort (portBody n rank set) = some (n, rank, set) := by
  have hbody : portBody n rank set = writeFields [(1, n), (1, rank)] ++ permBytes set := by
    simp [portBody, writeFields]
  have hfront : (writeFields [(1, n), (1, rank)]).length = 2 := by simp [writeFields_length]
  have hn' : byteAt (writeFields [(1, n), (1, rank)] ++ permBytes set) 0 = n := by
    rw [byteAt, fieldAt_append_left _ _ _ _ (by omega)]
    simpa using Nat.mod_eq_of_lt hn
  have hr' : byteAt (writeFields [(1, n), (1, rank)] ++ permBytes set) 1 = rank := by
    rw [byteAt, fieldAt_append_left _ _ _ _ (by omega)]
    simpa using Nat.mod_eq_of_lt hr
  rw [parsePort, hbody, List.length_append, hfront, permBytes_length, if_pos rfl, hn', hr', List.drop_left' hfront,
    permOf_permBytes]

theorem parseWindows_written {q : WindowsRequest} (h : q.fits) : parseWindows (windowsBody q) = some q := by
  obtain ⟨⟨opening, relock, reservation, leave, grace, single, family, staff, escalation⟩, rate⟩ := q
  obtain ⟨h0, h1, h2, h3, h4, h5, h6, h7, h8, h9⟩ := h
  dsimp only at h0 h1 h2 h3 h4 h5 h6 h7 h8 h9
  have hbody : windowsBody ⟨⟨opening, relock, reservation, leave, grace, single, family, staff, escalation⟩, rate⟩ =
      writeFields [(2, opening), (2, relock), (2, reservation), (2, leave), (2, grace), (2, single), (2, family), (2, staff),
        (2, escalation), (2, rate)] := by
    simp [windowsBody, writeFields]
  simp [parseWindows, hbody, writeFields_length, Nat.mod_eq_of_lt, h0, h1, h2, h3, h4, h5, h6, h7, h8, h9]

theorem parseTrim_written {d : Int} (hlo : -128 ≤ d) (hhi : d < 128) : parseTrim (trimBody d) = some d := by
  have hbyte : byteAt [BitVec.ofInt 8 d] 0 = (BitVec.ofInt 8 d).toNat := by
    change natOf [BitVec.ofInt 8 d] = _
    simp [natOf_cons]
  rw [parseTrim, trimBody, List.length_singleton, if_pos rfl, hbyte, BitVec.toNat_ofInt, signedOf]
  split <;> (congr 1; omega)

theorem parseIssue_written {q : IssueRequest} (h : q.fits) : parseIssue (issueBody q) = some q := by
  obtain ⟨serial, staff, rank, minutes, cls, leader, assignment⟩ := q
  obtain ⟨hserial, hrank, hminutes, hcls, hleader, hassign⟩ := h
  dsimp only at hserial hrank hminutes hcls hleader hassign
  let fields (back : List (Nat × Nat)) :=
    writeFields ((4, serial) :: (1, yesNo staff) :: (1, rank) :: (2, minutes) :: (1, cls) :: back)
  match leader, assignment, hleader, hassign with
  | none, none, _, _ =>
    have hbody : issueBody ⟨serial, staff, rank, minutes, cls, none, none⟩ = fields [] := by
      simp [issueBody, fields, writeFields]
    simp [parseIssue, hbody, fields, writeFields_length, Nat.mod_eq_of_lt, hserial, hrank, hminutes, hcls]
  | none, some a, _, ha =>
    have hbody : issueBody ⟨serial, staff, rank, minutes, cls, none, some a⟩ = fields (assignmentFields a) := by
      simp [issueBody, assignmentBytes_eq, fields, writeFields]
    simp [parseIssue, hbody, fields, writeFields_length, assignmentFields_width, assignmentOf_written (ha a rfl),
      Nat.mod_eq_of_lt, hserial, hrank, hminutes, hcls]
  | some l, none, hl, _ =>
    have hl : l < 4294967296 := hl l rfl
    have hbody : issueBody ⟨serial, staff, rank, minutes, cls, some l, none⟩ = fields [(4, l)] := by
      simp [issueBody, fields, writeFields]
    simp [parseIssue, hbody, fields, writeFields_length, Nat.mod_eq_of_lt, hserial, hrank, hminutes, hcls, hl]
  | some l, some a, hl, ha =>
    have hl : l < 4294967296 := hl l rfl
    have hbody : issueBody ⟨serial, staff, rank, minutes, cls, some l, some a⟩ = fields ((4, l) :: assignmentFields a) := by
      simp [issueBody, assignmentBytes_eq, fields, writeFields]
    simp [parseIssue, hbody, fields, writeFields_length, assignmentFields_width, assignmentOf_written (ha a rfl),
      Nat.mod_eq_of_lt, hserial, hrank, hminutes, hcls, hl]

end Sys2Proof.Machine
end

section
/-! PROOFS. A module's reply read back from its frame, and its data by the function asked (R113, R197). -/

namespace Sys2Proof.Machine

/-! ### The data of a reply frame -/

theorem functionCode_lt (k : ExchangeKind) : functionCode k + 128 < 256 := by
  unfold functionCode
  split
  · decide
  · split <;> decide
  · decide

/-- The byte that carries a number below 256. -/
theorem toNat_byte {n : Nat} (h : n < 256) : (BitVec.ofNat 8 n).toNat = n := by
  rw [BitVec.toNat_ofNat]
  exact Nat.mod_eq_of_lt h

/-- A frame's head is address, function and length. -/
theorem loopFrame_head (addr function : Nat) (data : List Byte) :
    loopFrame addr function data =
      BitVec.ofNat 8 addr :: BitVec.ofNat 8 function :: BitVec.ofNat 8 data.length ::
        (data ++ [crc8 (loopInner addr function data)]) := by
  simp [loopFrame_eq, loopInner, writeFields, bytesOf]

theorem loopFrame_dropLast (addr function : Nat) (data : List Byte) :
    (loopFrame addr function data).dropLast = loopInner addr function data := by
  rw [loopFrame_eq, List.dropLast_concat]

theorem replyData_frame (x : Exchange) {addr function : Nat} (haddr : addr < 256) (hfun : function < 256) {data : List Byte}
    (hlen : data.length < 256) :
    replyData x (loopFrame addr function data) =
      if addr = x.addr ∧ function = functionCode x.kind + 128 then some data else none := by
  have hlast := loopFrame_dropLast addr function data
  rw [loopFrame_head] at hlast ⊢
  rw [replyData, hlast, toNat_byte haddr, toNat_byte hfun, toNat_byte hlen, List.dropLast_concat, List.getLast?_concat,
    List.length_append, List.length_singleton]
  simp

theorem loopFrame_of_replyData {x : Exchange} {bytes data : List Byte} (h : replyData x bytes = some data) :
    data.length < 256 ∧ bytes = loopFrame x.addr (functionCode x.kind + 128) data := by
  unfold replyData at h
  split at h
  next a f m rest =>
    obtain ⟨⟨ha, hf, hm, hcheck⟩, hdata⟩ := Option.ite_none_right_eq_some.1 h
    obtain ⟨c, rfl⟩ : ∃ c, rest = data ++ [c] := by
      have hne : rest ≠ [] := fun h => by simp [h] at hm
      refine ⟨rest.getLast hne, ?_⟩
      rw [← Option.some.inj hdata, List.dropLast_append_getLast]
    have hm : m.toNat = data.length := by simpa using hm.symm
    have hc : crc8 (a :: f :: m :: data) = c := by
      have hdrop : (a :: f :: m :: (data ++ [c])).dropLast = a :: f :: m :: data :=
        List.dropLast_concat (l₁ := a :: f :: m :: data)
      rw [hdrop, List.getLast?_concat] at hcheck
      exact (Option.some.inj hcheck).symm
    refine ⟨hm ▸ m.isLt, ?_⟩
    have hinner : loopInner x.addr (functionCode x.kind + 128) data = a :: f :: m :: data := by
      simp [loopInner, writeFields, bytesOf, ← ha, ← hf, ← hm]
    rw [loopFrame_eq, hinner, hc]
    rfl
  next => cases h

/-! ### The events of a POLL reply -/

/-- The code of an event's type and its serial field. -/
def eventHead : Event → Nat × Nat
  | .present _ serial => (1, serial)
  | .doorOpen _ => (2, 0)
  | .doorClosed _ => (3, 0)
  | .handle _ => (4, 0)

/-- The position an event names. -/
def eventPos : Event → Nat
  | .present pos _ => pos
  | .doorOpen pos => pos
  | .doorClosed pos => pos
  | .handle pos => pos

theorem eventBytes_eq (e : Event) :
    eventBytes e = writeFields [(1, (eventHead e).1), (1, eventPos e), (4, (eventHead e).2)] := by
  cases e <;> simp [eventBytes, eventHead, eventPos, writeFields]

theorem eventBytes_length (e : Event) : (eventBytes e).length = 6 := by simp [eventBytes_eq, writeFields_length]

theorem eventPos_lt {addr : Nat} {e : Event} (h : e.fits addr) : eventPos e < positionCount addr := by
  cases e with
  | present pos serial => exact h.1
  | doorOpen pos => exact h
  | doorClosed pos => exact h
  | handle pos => exact h.1

theorem eventOf_written {addr : Nat} {e : Event} (h : e.fits addr) : eventOf addr (eventBytes e) = some e := by
  have hpos := eventPos_lt h
  have hsmall : eventPos e % 256 = eventPos e :=
    Nat.mod_eq_of_lt (lt_of_lt_of_le hpos ((positionCount_le addr).trans (by decide)))
  rw [eventOf, eventBytes_eq]
  cases e with
  | present pos serial =>
    have hserial : serial < 4294967296 := h.2
    simpa [eventHead, hsmall, Nat.mod_eq_of_lt hserial] using ⟨hpos, rfl⟩
  | doorOpen pos => simpa [eventHead, hsmall] using ⟨hpos, rfl⟩
  | doorClosed pos => simpa [eventHead, hsmall] using ⟨hpos, rfl⟩
  | handle pos => simpa [eventHead, hsmall, h.2] using ⟨hpos, rfl⟩

theorem eventsOf_written {addr : Nat} {events : List Event} (h : ∀ e ∈ events, e.fits addr) :
    eventsOf addr events.length (events.flatMap eventBytes) = some events := by
  induction events with
  | nil => rfl
  | cons e es ih =>
    have he := eventBytes_length e
    rw [List.length_cons, List.flatMap_cons, eventsOf, List.take_left' he, List.drop_left' he,
      eventOf_written (h e List.mem_cons_self), ih fun f hf => h f (List.mem_cons_of_mem e hf)]

/-- One event that cannot be read spoils the reply. -/
theorem eventsOf_none {addr : Nat} {j n : Nat} {bytes : List Byte} (hj : j < n)
    (h : eventOf addr ((bytes.drop (6 * j)).take 6) = none) : eventsOf addr n bytes = none := by
  induction n generalizing j bytes with
  | zero => omega
  | succ n ih =>
    rw [eventsOf]
    cases j with
    | zero =>
      rw [Nat.mul_zero, List.drop_zero] at h
      rw [h]
    | succ j =>
      have hrest : eventsOf addr n (bytes.drop 6) = none := by
        refine ih (Nat.lt_of_succ_lt_succ hj) ?_
        rw [List.drop_drop, Nat.add_comm, ← Nat.mul_succ]
        exact h
      rw [hrest]
      cases eventOf addr (bytes.take 6) <;> rfl

/-- An event of an unknown type, at a position the module has not, or a HANDLE at a lock module. -/
theorem eventOf_none {addr : Nat} {kind pos : Byte} (serial : List Byte)
    (h : kind.toNat = 0 ∨ 4 < kind.toNat ∨ positionCount addr ≤ pos.toNat ∨ (kind.toNat = 4 ∧ isCabinModule addr = false)) :
    eventOf addr (kind :: pos :: serial) = none := by
  have hk : byteAt (kind :: pos :: serial) 0 = kind.toNat := by
    change natOf [kind] = _
    simp [natOf_cons]
  have hp : byteAt (kind :: pos :: serial) 1 = pos.toNat := by
    change natOf [pos] = _
    simp [natOf_cons]
  rw [eventOf, hk, hp]
  obtain h0 | h4 | hpos | ⟨h4, hlock⟩ := h
  · simp [h0]
  · obtain ⟨n, hn⟩ := Nat.exists_eq_add_of_lt h4
    rw [show kind.toNat = n + 5 by omega]
    exact ite_self none
  · exact if_pos hpos
  · simp [h4, hlock]

/-! ### The content of a reply -/

section Content

variable {x : Exchange}

theorem contentOf_poll (hx : x.kind = .poll) (status count : Byte) (rest : List Byte) :
    contentOf x (status :: count :: rest) =
      if count.toNat ≤ 4 ∧ rest.length = 6 * count.toNat then
        (eventsOf x.addr count.toNat rest).map (ReplyContent.poll (status.getLsbD 0))
      else none := by
  unfold contentOf
  rw [hx]

theorem contentOf_poll_short (hx : x.kind = .poll) {data : List Byte} (h : data.length < 2) : contentOf x data = none := by
  unfold contentOf
  rw [hx]
  match data, h with
  | [], _ => rfl
  | [_], _ => rfl

theorem contentOf_command_long {cmd : Command} (hx : x.kind = .command cmd) {data : List Byte} (h : data.length ≠ 1) :
    contentOf x data = none := by
  unfold contentOf
  rw [hx]
  match data, h with
  | [], _ => rfl
  | [_], h => exact absurd rfl h
  | _ :: _ :: _, _ => rfl

theorem contentOf_command {cmd : Command} (hx : x.kind = .command cmd) (o : Byte) :
    contentOf x [o] = (resultOf cmd.action o.toNat).map (ReplyContent.outcome cmd) := by
  unfold contentOf
  rw [hx]

/-- A POLL's data with an event that cannot be read. -/
theorem contentOf_poll_spoilt (hx : x.kind = .poll) {status count kind pos : Byte} {before serial after : List Byte}
    (hbefore : before.length % 6 = 0) (hserial : serial.length = 4)
    (h : eventOf x.addr (kind :: pos :: serial) = none) :
    contentOf x (status :: count :: (before ++ kind :: pos :: serial ++ after)) = none := by
  rw [contentOf_poll hx]
  split
  next hlen =>
    obtain ⟨j, hj⟩ : ∃ j, before.length = 6 * j := Nat.dvd_of_mod_eq_zero hbefore
    have hcount : j < count.toNat := by
      have := hlen.2
      simp [hserial, hj] at this
      omega
    have hevent : ((before ++ kind :: pos :: serial ++ after).drop (6 * j)).take 6 = kind :: pos :: serial := by
      rw [List.append_assoc, List.drop_left' hj, List.take_left' (by simp [hserial])]
    rw [eventsOf_none hcount ((congrArg (eventOf x.addr) hevent).trans h)]
    rfl
  next => rfl

end Content

/-- Settles O11: the bodies read back, then a reply frame, then its data by the function asked. -/
theorem bodiesAndRepliesReadAsWritten : Obligations.BodiesAndRepliesReadAsWritten := by
  refine ⟨⟨fun _ => parseIssue_written, fun _ _ => parseSerialAmount_written, fun _ _ => parseTwoSerials_written,
      fun _ => parseBandRef_written, fun _ _ => parseAssign_written, fun _ d h => parseLockerService_written d h,
      fun _ d h => parseCabinService_written d h, fun _ => parseZone_written, fun _ => parseTariff_written,
      fun _ => parseWatch_written, fun _ => parseAck_written, fun k _ h => parsePriority_written k h,
      fun _ => parseModules_written, fun _ _ set => parsePort_written set, fun _ => parseWindows_written,
      fun _ => parseTrim_written, parseBank_written, parseEmpty_eq, fun _ _ => parseNumber_bytesOf⟩,
    fun x data haddr hlen => ⟨?same, fun a ha hne => ?apart, fun f hf hne => ?function⟩,
    fun _ _ _ => loopFrame_of_replyData, fun x => rfl,
    fun x => ⟨fun hx => ⟨fun status events hlen hfit => ?events, fun status count rest h => ?counted,
        fun data => contentOf_poll_short hx, ?spoilt⟩,
      fun cmd data hx => contentOf_command_long hx, fun cmd o hx => ?outcome, fun hx data => ?readings⟩⟩
  case same => rw [replyData_frame x haddr (functionCode_lt _) hlen, if_pos ⟨rfl, rfl⟩]
  case apart => rw [replyData_frame x ha (functionCode_lt _) hlen, if_neg fun h => hne h.1]
  case function => rw [replyData_frame x haddr hf hlen, if_neg fun h => hne h.2]
  case events =>
    have hcount : (BitVec.ofNat 8 events.length).toNat = events.length := toNat_byte (lt_of_le_of_lt hlen (by decide))
    have hwidth : (events.flatMap eventBytes).length = 6 * events.length := length_flatMap_width eventBytes_length events
    have hdata : status :: bytesOf 1 events.length ++ events.flatMap eventBytes =
        status :: BitVec.ofNat 8 events.length :: events.flatMap eventBytes := by
      simp [bytesOf]
    rw [hdata, contentOf_poll hx, hcount, if_pos ⟨hlen, hwidth⟩, eventsOf_written hfit]
    rfl
  case counted =>
    rw [contentOf_poll hx, if_neg]
    exact fun hc => h.elim (fun h => Nat.not_lt.2 hc.1 h) fun h => h hc.2
  case spoilt =>
    intro status count kind pos before serial after hbefore hserial cabins hbad
    refine contentOf_poll_spoilt hx hbefore hserial (eventOf_none serial ?_)
    rw [positionCount_eq]
    have hlock : isCabinModule x.addr = false ↔ ¬cabins := by simp [isCabinModule, cabins]
    rw [hlock]
    exact hbad
  case outcome =>
    rw [contentOf_command hx]
    match o.toNat with
    | 0 => rfl
    | 1 => exact apply_ite (Option.map (ReplyContent.outcome cmd)) _ _ _
    | 2 => rfl
    | _ + 3 => rfl
  case readings =>
    unfold contentOf
    rw [hx, ← positionCount_eq]

end Sys2Proof.Machine
end

section
/-! PROOFS. The binding arbiter: the fixed cycle, whom it may grant, and the rows that find nothing to do (R27, R28). -/

namespace Sys2Proof.Machine

/-! ### Turns in the fixed cycle -/

/-- Where a requester stands in the fixed cycle CP0, CP1, CP2, field engine, sweep. -/
def Requester.seat : Requester → Nat
  | .port .cp0 => 0
  | .port .cp1 => 1
  | .port .cp2 => 2
  | .field => 3
  | .sweep => 4

/-- How many requesters come before `q` once `r` has been granted. -/
def turnAfter (r q : Requester) : Nat := (cycleAfter r).idxOf q

theorem Requester.seat_lt (r : Requester) : r.seat < 5 := by
  obtain (_ | _ | _) | _ | _ := r <;> decide

theorem Requester.seat_injective {q r : Requester} (h : q.seat = r.seat) : q = r := by
  revert h
  obtain (_ | _ | _) | _ | _ := q <;> obtain (_ | _ | _) | _ | _ := r <;> decide

theorem turnAfter_eq (r q : Requester) : turnAfter r q = (q.seat + 4 - r.seat) % 5 := by
  obtain (_ | _ | _) | _ | _ := q <;> obtain (_ | _ | _) | _ | _ := r <;> rfl

theorem turnAfter_self (r : Requester) : turnAfter r r = 4 := by
  have := r.seat_lt
  rw [turnAfter_eq]
  omega

theorem turnAfter_lt_of_ne {q r : Requester} (h : q ≠ r) : turnAfter r q < 4 := by
  have hne : q.seat ≠ r.seat := fun he => h (Requester.seat_injective he)
  have := q.seat_lt
  have := r.seat_lt
  rw [turnAfter_eq]
  omega

theorem turnAfter_injective {l q r : Requester} (h : turnAfter l q = turnAfter l r) : q = r := by
  apply Requester.seat_injective
  have := q.seat_lt
  have := r.seat_lt
  have := l.seat_lt
  rw [turnAfter_eq, turnAfter_eq] at h
  omega

/-- A grant to a requester before `q` brings `q` nearer. -/
theorem turnAfter_nearer {l q r : Requester} (h : turnAfter l r < turnAfter l q) : turnAfter r q < turnAfter l q := by
  have := q.seat_lt
  have := r.seat_lt
  have := l.seat_lt
  rw [turnAfter_eq, turnAfter_eq] at *
  omega

theorem mem_takeWhile_ne_iff {α : Type} [DecidableEq α] (l : List α) (q r : α) :
    q ∈ l.takeWhile (· != r) ↔ l.idxOf q < l.idxOf r := by
  induction l with
  | nil => simp
  | cons a l ih =>
    by_cases har : a = r
    · simp [har]
    · by_cases haq : a = q
      · subst haq
        simp [har, List.idxOf_cons_ne _ har]
      · simp [har, List.idxOf_cons_ne _ har, List.idxOf_cons_ne _ haq, ih, Ne.symm haq]

namespace State

variable {s : State}

/-! ### Whom the arbiter may grant -/

/-- The arbiter may grant a requester when none that waits comes before it. -/
theorem mayGrant_iff_turn (s : State) (r : Requester) :
    s.mayGrant r = true ↔ s.running = true ∧ s.promptWaits = false ∧
      ∀ q, turnAfter s.engine.lastGranted q < turnAfter s.engine.lastGranted r → s.waits q = false := by
  rw [mayGrant_iff]
  simp only [mem_takeWhile_ne_iff, turnAfter]

theorem mayGrant_self_of_waits {q r : Requester} (hne : q ≠ r) (hq : (s.granted r).waits q = true) :
    (s.granted r).mayGrant r = false := by
  refine eq_false_of_ne_true fun h => ?_
  obtain ⟨_, _, hbefore⟩ := (mayGrant_iff_turn _ r).1 h
  have hlt : turnAfter r q < turnAfter r r := by
    rw [turnAfter_self]
    exact turnAfter_lt_of_ne hne
  exact Bool.false_ne_true ((hbefore q hlt).symm.trans hq)

theorem turn_of_mayGrant {q r : Requester} (hr : s.mayGrant r = true) (hq : s.waits q = true) (hne : q ≠ r) :
    turnAfter s.engine.lastGranted r < turnAfter s.engine.lastGranted q := by
  obtain ⟨_, _, hbefore⟩ := (mayGrant_iff_turn s r).1 hr
  refine lt_of_le_of_ne (Nat.le_of_not_lt fun hlt => ?_) fun he => hne (turnAfter_injective he).symm
  exact Bool.false_ne_true ((hbefore q hlt).symm.trans hq)

/-- Of the requesters that wait, one may be granted: the one whose turn is nearest. -/
theorem exists_mayGrant (hrun : s.running = true) (hprompt : s.promptWaits = false) (q : Requester) (hq : s.waits q = true) :
    ∃ r, s.waits r = true ∧ s.mayGrant r = true := by
  by_cases h : s.mayGrant q = true
  · exact ⟨q, hq, h⟩
  · have hnot : ¬∀ r, turnAfter s.engine.lastGranted r < turnAfter s.engine.lastGranted q → s.waits r = false :=
      fun hall => h ((mayGrant_iff_turn s q).2 ⟨hrun, hprompt, hall⟩)
    obtain ⟨r, hr⟩ := not_forall.1 hnot
    obtain ⟨hlt, hwaits⟩ := Classical.not_imp.1 hr
    exact exists_mayGrant hrun hprompt r (eq_true_of_ne_false hwaits)
termination_by turnAfter s.engine.lastGranted q

theorem mayGrant_of_next (hrun : s.running = true) (hprompt : s.promptWaits = false) {r : Requester}
    (h : (cycleAfter s.engine.lastGranted).head? = some r) : s.mayGrant r = true := by
  refine (mayGrant_iff_turn s r).2 ⟨hrun, hprompt, fun q hq => ?_⟩
  obtain ⟨tail, hl⟩ := List.head?_eq_some_iff.1 h
  rw [turnAfter, turnAfter, hl, List.idxOf_cons_self] at hq
  exact absurd hq (Nat.not_lt_zero _)

/-- Grants to others, one after another, while `q` waits: each brings the turn of `q` nearer than any before it. -/
theorem grants_nearer {q : Requester} {grants : List (State × Requester)}
    (h : ∀ g ∈ grants, g.1.mayGrant g.2 = true ∧ g.1.waits q = true ∧ g.2 ≠ q)
    (hchain : grants.IsChain fun g next => next.1.engine.lastGranted = g.2) :
    (grants.map fun g => turnAfter g.2 q).Pairwise (· > ·) := by
  refine List.isChain_iff_pairwise.1 ((List.isChain_map _).2 (hchain.imp_of_mem_imp fun g next _ hnext hlast => ?_))
  obtain ⟨hgrant, hwaits, hne⟩ := h next hnext
  have := turnAfter_nearer (turn_of_mayGrant hgrant hwaits hne.symm)
  rwa [hlast] at this

/-! ### Requests that wait -/

theorem request_iff {p : PortId} {k : ReqKind} {r : Request} :
    s.request p k = some r ↔ s.awaiting p = some r ∧ kindOf r.code = some k := by
  unfold request
  cases s.awaiting p with
  | none => simp
  | some r' =>
    by_cases hk : kindOf r'.code = some k
    · simp only [hk, if_true, Option.some.injEq]
      exact ⟨fun h => ⟨h, h ▸ hk⟩, fun h => h.1⟩
    · simp only [hk, if_false, Option.some.injEq]
      exact ⟨fun h => (nomatch h), fun h => absurd (h.1 ▸ h.2) hk⟩

theorem awaits_iff (p : PortId) (f : ReqKind → Bool) :
    (((s.awaiting p).bind fun r => kindOf r.code).any f) = true ↔ ∃ k r, s.request p k = some r ∧ f k = true := by
  simp only [request_iff, Option.any_eq_true, Option.bind_eq_some_iff]
  exact ⟨fun ⟨k, ⟨r, hr, hk⟩, hf⟩ => ⟨k, r, ⟨hr, hk⟩, hf⟩, fun ⟨k, r, ⟨hr, hk⟩, hf⟩ => ⟨k, ⟨r, hr, hk⟩, hf⟩⟩

theorem promptWaits_of_request {p : PortId} {k : ReqKind} {r : Request} (h : s.request p k = some r) (hk : prompt k = true) :
    s.promptWaits = true :=
  List.any_eq_true.2 ⟨p, by cases p <;> decide, (awaits_iff p prompt).2 ⟨k, r, h, hk⟩⟩

/-! ### Rows that find nothing to do (assumption 2) -/

theorem mayGrant_of_stopped (h : s.running = false) (r : Requester) : s.mayGrant r = false :=
  eq_false_of_ne_true fun hg => Bool.false_ne_true (h.symm.trans (running_of_mayGrant hg))

/-- A request's row that finds no such request, or the part stopped. -/
theorem exec_row_idle {p : PortId} {k : ReqKind} (h : s.request p k = none ∨ s.running = false) :
    exec (rowOf p k) s = .next s := by
  have notaking : ∀ r, ¬s.taking p k r := fun r hg => h.elim (fun hn => nomatch hn.symm.trans hg.1)
    fun hs => Bool.false_ne_true (hs.symm.trans hg.2)
  cases hk : handlerOf p k with
  | some f =>
    rw [exec_rowOf hk]
    split
    · exact congrArg Host.Outcome.next
        (grantRequest_not_granting f fun r hg => notaking r ⟨hg.1, running_of_mayGrant hg.2⟩)
    · exact congrArg Host.Outcome.next (takeRequest_not_taking f notaking)
  | none =>
    obtain rfl : k = .saveSettings := by
      cases k <;> cases hk <;> rfl
    change execSaveSettings p s = _
    unfold execSaveSettings
    split
    · rfl
    next r hr =>
      have hrun : s.running = false := h.elim (fun hn => nomatch hn.symm.trans hr) id
      simp [hrun]

/-- A granted request's row whose port may not be granted. -/
theorem exec_row_waits {p : PortId} {k : ReqKind} (ha : arbitrated k = true) (h : s.mayGrant (.port p) = false) :
    exec (rowOf p k) s = .next s := by
  obtain ⟨f, hk⟩ : ∃ f, handlerOf p k = some f := by
    cases k <;> cases ha <;> exact ⟨_, rfl⟩
  rw [exec_rowOf hk, if_pos ha]
  exact congrArg Host.Outcome.next
    (grantRequest_not_granting f fun r hg => Bool.false_ne_true (h.symm.trans hg.2))

end State

/-- Settles O9: the cycle as a distance, which a grant to another makes shorter. -/
theorem noRequesterIsGrantedTwiceBeforeAnother : Obligations.NoRequesterIsGrantedTwiceBeforeAnother := by
  refine ⟨fun s q r hne hq => State.mayGrant_self_of_waits hne hq, ?cycle, fun s q r hr hq hne => ?nearer,
    fun q grants h hchain => ?grants, fun s p k r hr hk q => ?prompt, fun s => ⟨Iff.rfl, ?field, fun p => State.awaits_iff p _⟩,
    fun s hrun hprompt => ⟨State.exists_mayGrant hrun hprompt, fun r => State.mayGrant_of_next hrun hprompt⟩, ?kinds,
    fun p k s => ⟨State.exec_row_waits, State.exec_row_idle⟩,
    fun c s hc => ⟨fun h => ?item, fun h => State.mayGrant_of_stopped h _⟩⟩
  case cycle =>
    intro r
    obtain (_ | _ | _) | _ | _ := r <;> decide
  case nearer =>
    have h := State.turn_of_mayGrant hr hq hne
    exact ⟨h, turnAfter_nearer h⟩
  case grants =>
    have hdown := State.grants_nearer h hchain
    have hnodup : (grants.map fun g => turnAfter g.2 q).Nodup := hdown.imp fun h => (ne_of_lt h).symm
    refine ⟨?_, ?_⟩
    · refine List.Nodup.of_map (fun r => turnAfter r q) ?_
      rwa [List.map_map]
    · have hsub : (grants.map fun g => turnAfter g.2 q) ⊆ List.range 4 := fun n hn => by
        obtain ⟨g, hg, rfl⟩ := List.mem_map.1 hn
        exact List.mem_range.2 (turnAfter_lt_of_ne (h g hg).2.2.symm)
      simpa using (List.subperm_of_subset hnodup hsub).length_le
  case prompt =>
    have hk : prompt k = true := by
      revert hk
      cases k <;> decide
    refine eq_false_of_ne_true fun hg => ?_
    obtain ⟨_, hnone, _⟩ := (State.mayGrant_iff_turn s q).1 hg
    exact Bool.false_ne_true (hnone.symm.trans (State.promptWaits_of_request hr hk))
  case field => exact Option.isSome_iff_exists
  case kinds =>
    intro k
    cases k <;> decide
  case item =>
    have idle (f : HandItem → Option (State → State)) : Host.Outcome.next (s.grantItem f) = (.next s : Host.Outcome State Fault Refusal) :=
      congrArg Host.Outcome.next (State.grantItem_idle f h)
    simp only [List.mem_cons, List.not_mem_nil, or_false] at hc
    rcases hc with rfl | rfl | rfl | rfl | rfl | rfl | rfl | rfl | rfl | rfl | rfl | rfl <;> exact idle _

end Sys2Proof.Machine
end

section
/-! PROOFS. Requests refused: by any check, and by a body that its layout does not allow (R27, R180, R196). -/

namespace Sys2Proof.Machine

/-! ### What an answer that refuses leaves (R180) -/

/-- The answer refuses only where the state stays as it was. -/
def KeepsOnRefusal (s : State) (o : Answer × State) : Prop := o.1.code.refuses = true → o.2 = s

theorem keeps_refuse (s : State) (c : ResultCode) : KeepsOnRefusal s (refuse c s) := fun _ => rfl

theorem keeps_of_passes {s : State} {o : Answer × State} (h : o.1.code.refuses = false) : KeepsOnRefusal s o :=
  fun hr => absurd hr (ne_true_of_eq_false h)

theorem keeps_accept (s t : State) (data : List Byte) : KeepsOnRefusal s (accept data t) := keeps_of_passes rfl

theorem KeepsOnRefusal.or {s : State} {o : Answer × State} {q : Prop} (h : KeepsOnRefusal s o) :
    o.1.code.refuses = true → o.2 = s ∨ q := fun hr => .inl (h hr)

section Requests

variable (s : State) (r : Request) (p : PortId)

/-! ### Bands and settlement -/

theorem keeps_issueBand : KeepsOnRefusal s (issueBand r s) := by
  unfold issueBand
  iterate 8
    split
    · exact keeps_refuse s _
  exact keeps_accept s _ _

theorem keeps_addTime : KeepsOnRefusal s (addTime r s) := by
  unfold addTime
  iterate 4
    split
    · exact keeps_refuse s _
  exact keeps_accept s _ _

theorem keeps_reissueBand : KeepsOnRefusal s (reissueBand r s) := by
  unfold reissueBand
  iterate 4
    split
    · exact keeps_refuse s _
  extract_lets reissuable
  iterate 4
    split
    · exact keeps_refuse s _
  exact keeps_accept s _ _

theorem keeps_revokeBand : KeepsOnRefusal s (revokeBand r s) := by
  unfold revokeBand
  iterate 3
    split
    · exact keeps_refuse s _
  split
  · exact keeps_accept s _ _
  · iterate 2
      split
      · exact keeps_refuse s _
    exact keeps_accept s _ _

theorem keeps_discardBand : KeepsOnRefusal s (discardBand r s) := by
  unfold discardBand
  iterate 5
    split
    · exact keeps_refuse s _
  exact keeps_accept s _ _

theorem keeps_queryBand : KeepsOnRefusal s (queryBand r s) := by
  unfold queryBand
  iterate 2
    split
    · exact keeps_refuse s _
  exact keeps_accept s _ _

theorem keeps_closeDay : KeepsOnRefusal s (closeDay r s) := by
  unfold closeDay
  iterate 3
    split
    · exact keeps_refuse s _
  exact keeps_accept s _ _

theorem keeps_settleWith (slot : Nat) (b : Band) (f : Figures) : KeepsOnRefusal s (settleWith slot b f s) := by
  unfold settleWith
  split <;> exact keeps_of_passes rfl

/-- A SETTLE refused leaves the state, but for the notice of a REVOKED band (R94). -/
theorem settle_refused (h : (settle r s).1.code.refuses = true) :
    (settle r s).2 = s ∨
      (settle r s).1.code = .revoked ∧ (settle r s).2 = s.notify .revokedPresented none (parseNumber 4 r.body) := by
  cases hp : parseNumber 4 r.body with
  | none => exact .inl (by unfold settle; rw [hp]; rfl)
  | some serial =>
    revert h
    unfold settle
    simp only [hp]
    split
    · exact fun _ => .inl rfl
    next slot b _ =>
      by_cases hb : b.state = .revoked
      · rw [if_pos hb]
        exact fun _ => .inr ⟨rfl, rfl⟩
      · rw [if_neg hb]
        refine KeepsOnRefusal.or ?_
        split
        · exact keeps_of_passes rfl
        · exact keeps_of_passes rfl
        · split
          · exact keeps_refuse s _
          · exact keeps_settleWith s _ _ _

theorem keeps_pay : KeepsOnRefusal s (pay r s) := by
  unfold pay
  iterate 3
    split
    · exact keeps_refuse s _
  split
  · split
    · exact keeps_refuse s _
    · exact keeps_accept s _ _
  · split
    · exact keeps_refuse s _
    · dsimp only
      split <;> exact keeps_of_passes rfl
  · exact keeps_refuse s _

theorem keeps_collect : KeepsOnRefusal s (collect r s) := by
  unfold collect
  iterate 4
    split
    · exact keeps_refuse s _
  exact keeps_accept s _ _

/-! ### Lockers and cabins -/

theorem keeps_assignLocker : KeepsOnRefusal s (assignLocker r s) := by
  unfold assignLocker
  iterate 6
    split
    · exact keeps_refuse s _
  exact keeps_accept s _ _

theorem keeps_onLocker (n : Nat) {f : Locker → Answer × State} (h : ∀ l, KeepsOnRefusal s (f l)) :
    KeepsOnRefusal s (onLocker n s f) := by
  unfold onLocker
  iterate 2
    split
    · exact keeps_refuse s _
  exact h _

theorem keeps_onCabin (c : Nat) {f : Cabin → Answer × State} (h : ∀ k, KeepsOnRefusal s (f k)) :
    KeepsOnRefusal s (onCabin c s f) := by
  unfold onCabin
  iterate 2
    split
    · exact keeps_refuse s _
  exact h _

theorem keeps_queuing (a : Nat) (f : State → State) : KeepsOnRefusal s (queuing a s f) := by
  unfold queuing
  iterate 2
    split
    · exact keeps_refuse s _
  exact keeps_accept s _ _

theorem keeps_openLocker : KeepsOnRefusal s (openLocker r s) := by
  unfold openLocker
  split
  · exact keeps_refuse s _
  refine keeps_onLocker s _ fun l => ?_
  split
  · exact keeps_queuing s _ _
  · exact keeps_queuing s _ _
  · exact keeps_queuing s _ _
  · exact keeps_refuse s _

theorem keeps_releaseLocker : KeepsOnRefusal s (releaseLocker r s) := by
  unfold releaseLocker
  split
  · exact keeps_refuse s _
  refine keeps_onLocker s _ fun l => ?_
  cases l.state
  case locked => exact keeps_queuing s _ _
  case fault => exact keeps_queuing s _ _
  case orphaned => exact keeps_queuing s _ _
  case forced =>
    dsimp only
    split
    · exact keeps_queuing s _ _
    · exact keeps_accept s _ _
  case reserved => exact keeps_accept s _ _
  case released => exact keeps_accept s _ _
  case opened => exact keeps_accept s _ _
  case closing => exact keeps_accept s _ _
  all_goals exact keeps_refuse s _

theorem keeps_rearmLocker : KeepsOnRefusal s (rearmLocker r s) := by
  unfold rearmLocker
  split
  · exact keeps_refuse s _
  refine keeps_onLocker s _ fun l => ?_
  iterate 2
    split
    · exact keeps_refuse s _
  exact keeps_queuing s _ _

theorem keeps_setLockerService : KeepsOnRefusal s (setLockerService r s) := by
  unfold setLockerService
  split
  · exact keeps_refuse s _
  refine keeps_onLocker s _ fun l => ?_
  split
  · exact keeps_accept s _ _
  · exact keeps_accept s _ _
  · exact keeps_refuse s _

theorem keeps_queryLocker : KeepsOnRefusal s (queryLocker r s) := by
  unfold queryLocker
  iterate 2
    split
    · exact keeps_refuse s _
  exact keeps_accept s _ _

theorem keeps_openCabin : KeepsOnRefusal s (openCabin r s) := by
  unfold openCabin
  split
  · exact keeps_refuse s _
  refine keeps_onCabin s _ fun k => ?_
  split
  · exact keeps_queuing s _ _
  · split
    · exact keeps_refuse s _
    · exact keeps_queuing s _ _
  · exact keeps_refuse s _

theorem keeps_setCabinService : KeepsOnRefusal s (setCabinService r s) := by
  unfold setCabinService
  split
  · exact keeps_refuse s _
  refine keeps_onCabin s _ fun k => ?_
  split
  · exact keeps_accept s _ _
  · exact keeps_accept s _ _
  · exact keeps_refuse s _

theorem keeps_queryCabin : KeepsOnRefusal s (queryCabin r s) := by
  unfold queryCabin
  iterate 2
    split
    · exact keeps_refuse s _
  exact keeps_accept s _ _

/-! ### Zones, tariffs, modules and the clock -/

theorem keeps_setZone : KeepsOnRefusal s (setZone r s) := by
  unfold setZone
  iterate 4
    split
    · exact keeps_refuse s _
  exact keeps_accept s _ _

theorem keeps_queryZone : KeepsOnRefusal s (queryZone r s) := by
  unfold queryZone
  iterate 2
    split
    · exact keeps_refuse s _
  exact keeps_accept s _ _

theorem keeps_setTariff : KeepsOnRefusal s (setTariff r s) := by
  unfold setTariff
  iterate 2
    split
    · exact keeps_refuse s _
  exact keeps_accept s _ _

theorem keeps_selectBank : KeepsOnRefusal s (selectBank r s) := by
  unfold selectBank
  split
  · exact keeps_refuse s _
  exact keeps_accept s _ _

theorem keeps_setModules : KeepsOnRefusal s (setModules r s) := by
  unfold setModules
  iterate 2
    split
    · exact keeps_refuse s _
  dsimp only
  split
  · iterate 2
      split
      · exact keeps_refuse s _
    exact keeps_accept s _ _
  · split <;> exact keeps_accept s _ _

theorem keeps_setHeld (held : Bool) : KeepsOnRefusal s (setHeld held p r s) := by
  unfold setHeld
  iterate 3
    split
    · exact keeps_refuse s _
  exact keeps_accept s _ _

theorem keeps_queryModule : KeepsOnRefusal s (queryModule r s) := by
  unfold queryModule
  iterate 2
    split
    · exact keeps_refuse s _
  exact keeps_accept s _ _

theorem keeps_setWindows : KeepsOnRefusal s (setWindows r s) := by
  unfold setWindows
  split
  · exact keeps_refuse s _
  exact keeps_accept s _ _

theorem keeps_setClock : KeepsOnRefusal s (setClock r s) := by
  unfold setClock
  iterate 3
    split
    · exact keeps_refuse s _
  exact keeps_accept s _ _

theorem keeps_trimClock : KeepsOnRefusal s (trimClock p r s) := by
  unfold trimClock
  split
  · exact keeps_refuse s _
  exact keeps_accept s _ _

/-! ### Watches, notices and ports -/

theorem keeps_setWatchRequest : KeepsOnRefusal s (setWatchRequest p r s) := by
  unfold setWatchRequest
  iterate 2
    split
    · exact keeps_refuse s _
  exact keeps_accept s _ _

theorem keeps_clearWatch : KeepsOnRefusal s (clearWatch p r s) := by
  unfold clearWatch
  iterate 2
    split
    · exact keeps_refuse s _
  exact keeps_accept s _ _

theorem keeps_queryWatch : KeepsOnRefusal s (queryWatch r s) := by
  unfold queryWatch
  iterate 2
    split
    · exact keeps_refuse s _
  exact keeps_accept s _ _

theorem keeps_readNotice : KeepsOnRefusal s (readNotice p r s) := by
  unfold readNotice
  split
  · exact keeps_refuse s _
  · split
    · exact keeps_of_passes rfl
    · exact keeps_accept s _ _

theorem keeps_ackAlarm : KeepsOnRefusal s (ackAlarm p r s) := by
  unfold ackAlarm
  split
  · exact keeps_refuse s _
  · exact keeps_accept s _ _
  · split
    · exact keeps_refuse s _
    · split
      · exact keeps_accept s _ _
      · exact keeps_of_passes rfl

theorem keeps_setThreshold : KeepsOnRefusal s (setThreshold p r s) := by
  unfold setThreshold
  iterate 2
    split
    · exact keeps_refuse s _
  exact keeps_accept s _ _

theorem keeps_setNoticePriority : KeepsOnRefusal s (setNoticePriority p r s) := by
  unfold setNoticePriority
  iterate 3
    split
    · exact keeps_refuse s _
  exact keeps_accept s _ _

theorem keeps_setPortRequest : KeepsOnRefusal s (setPortRequest p r s) := by
  unfold setPortRequest
  iterate 4
    split
    · exact keeps_refuse s _
  exact keeps_accept s _ _

theorem keeps_statusRequest : KeepsOnRefusal s (statusRequest p r s) := by
  unfold statusRequest
  split
  · exact keeps_refuse s _
  exact keeps_accept s _ _

end Requests

end Sys2Proof.Machine
end

section
/-! PROOFS. A body that its layout does not allow is read as nothing, and its request refused OUT_OF_RANGE (R196). -/

namespace Sys2Proof.Machine

/-! ### Codes that enumerations have (section 13.1) -/

theorem byteAt_eq_getD (body : List Byte) (i : Nat) : byteAt body i = (body.getD i 0#8).toNat := by
  rw [byteAt, fieldAt, List.take_one, List.getD_eq_getElem?_getD, List.head?_drop]
  cases body[i]? with
  | none => rfl
  | some b => simp [natOf_cons]

theorem yesNoOf_le {n : Nat} {b : Bool} (h : yesNoOf n = some b) : n ≤ 1 := by
  match n, h with
  | 0, _ => decide
  | 1, _ => decide

theorem bankOf_le {n : Nat} {b : Bank} (h : bankOf n = some b) : n ≤ 1 := by
  match n, h with
  | 0, _ => decide
  | 1, _ => decide

theorem zoneOrderOf_le {n : Nat} {o : ZoneOrder} (h : zoneOrderOf n = some o) : n ≤ 1 := by
  match n, h with
  | 0, _ => decide
  | 1, _ => decide

theorem cabinKindOf_le {n : Nat} {k : CabinKind} (h : cabinKindOf n = some k) : n ≤ 2 := by
  match n, h with
  | 0, _ => decide
  | 1, _ => decide
  | 2, _ => decide

theorem noticeOf_range {n : Nat} {k : NoticeKind} (h : noticeOf n = some k) : 1 ≤ n ∧ n ≤ 19 := by
  unfold noticeOf at h
  split at h
  · cases h
  · obtain ⟨hlt, _⟩ := List.getElem?_eq_some_iff.1 h
    have : n - 1 < 19 := hlt
    omega

theorem assignmentOf_le {bytes : List Byte} {a : Assignment} (h : assignmentOf bytes = some a) : byteAt bytes 0 ≤ 1 := by
  unfold assignmentOf at h
  split at h
  next h0 => omega
  next h1 => omega
  next => cases h

theorem byteAt_drop (body : List Byte) (n : Nat) : byteAt (body.drop n) 0 = byteAt body n := by
  simp [byteAt, fieldAt]

/-! ### What a body that reads as something has (Table 13-2) -/

variable {body : List Byte}

theorem allowed_parseNumber {w n : Nat} (h : parseNumber w body = some n) : body.length = w :=
  (Option.ite_none_right_eq_some.1 h).1

theorem allowed_parseEmpty {u : Unit} (h : parseEmpty body = some u) : body.length = 0 := (Option.ite_none_right_eq_some.1 h).1

theorem allowed_parseSerialAmount {q : Nat × Nat} (h : parseSerialAmount body = some q) : body.length = 6 :=
  (Option.ite_none_right_eq_some.1 h).1

theorem allowed_parseTwoSerials {q : Nat × Nat} (h : parseTwoSerials body = some q) : body.length = 8 :=
  (Option.ite_none_right_eq_some.1 h).1

theorem allowed_parsePort {q : Nat × Nat × PermSet} (h : parsePort body = some q) : body.length = 7 :=
  (Option.ite_none_right_eq_some.1 h).1

theorem allowed_parseWindows {q : WindowsRequest} (h : parseWindows body = some q) : body.length = 20 :=
  (Option.ite_none_right_eq_some.1 h).1

theorem allowed_parseTrim {d : Int} (h : parseTrim body = some d) : body.length = 1 := (Option.ite_none_right_eq_some.1 h).1

theorem allowed_parseBank {b : Bank} (h : parseBank body = some b) : body.length = 1 ∧ byteAt body 0 ≤ 1 := by
  obtain ⟨hlen, hb⟩ := Option.ite_none_right_eq_some.1 h
  exact ⟨hlen, bankOf_le hb⟩

theorem allowed_parseBandRef {q : BandRef} (h : parseBandRef body = some q) : body.length = 5 ∧ byteAt body 0 ≤ 1 := by
  obtain ⟨hlen, hq⟩ := Option.ite_none_right_eq_some.1 h
  refine ⟨hlen, ?_⟩
  split at hq
  next h0 => omega
  next h1 => omega
  next => cases hq

theorem allowed_parseAssign {q : Nat × Assignment} (h : parseAssign body = some q) : body.length = 7 ∧ byteAt body 4 ≤ 1 := by
  obtain ⟨hlen, hq⟩ := Option.ite_none_right_eq_some.1 h
  obtain ⟨a, ha, _⟩ := Option.map_eq_some_iff.1 hq
  exact ⟨hlen, byteAt_drop body 4 ▸ assignmentOf_le ha⟩

theorem allowed_parseLockerService {q : Nat × Bool} (h : parseLockerService body = some q) :
    body.length = 3 ∧ byteAt body 2 ≤ 1 := by
  obtain ⟨hlen, hq⟩ := Option.ite_none_right_eq_some.1 h
  obtain ⟨d, hd, _⟩ := Option.map_eq_some_iff.1 hq
  exact ⟨hlen, yesNoOf_le hd⟩

theorem allowed_parseCabinService {q : Nat × Bool} (h : parseCabinService body = some q) :
    body.length = 2 ∧ byteAt body 1 ≤ 1 := by
  obtain ⟨hlen, hq⟩ := Option.ite_none_right_eq_some.1 h
  obtain ⟨d, hd, _⟩ := Option.map_eq_some_iff.1 hq
  exact ⟨hlen, yesNoOf_le hd⟩

theorem allowed_parseZone {q : ZoneRequest} (h : parseZone body = some q) :
    body.length = 9 ∧ byteAt body 1 ≤ 1 ∧ byteAt body 7 ≤ 1 ∧ byteAt body 8 ≤ 1 := by
  obtain ⟨hlen, hq⟩ := Option.ite_none_right_eq_some.1 h
  split at hq
  next hpresent hgroup horder => exact ⟨hlen, yesNoOf_le hpresent, yesNoOf_le hgroup, zoneOrderOf_le horder⟩
  next => cases hq

theorem allowed_parseTariff {q : TariffRequest} (h : parseTariff body = some q) : body.length = 8 ∧ byteAt body 0 ≤ 1 := by
  obtain ⟨hlen, hq⟩ := Option.ite_none_right_eq_some.1 h
  obtain ⟨b, hb, _⟩ := Option.map_eq_some_iff.1 hq
  exact ⟨hlen, bankOf_le hb⟩

theorem allowed_parseWatch {q : WatchRequest} (h : parseWatch body = some q) : body.length = 11 ∧ byteAt body 2 ≤ 2 := by
  obtain ⟨hlen, hq⟩ := Option.ite_none_right_eq_some.1 h
  obtain ⟨sub, hsub, _⟩ := Option.map_eq_some_iff.1 hq
  refine ⟨hlen, ?_⟩
  split at hsub
  next h0 => omega
  next h1 => omega
  next h2 => omega
  next => cases hsub

theorem allowed_parseAck {q : AckRequest} (h : parseAck body = some q) :
    body = [] ∨ body.length = 3 ∧ 1 ≤ byteAt body 0 ∧ byteAt body 0 ≤ 19 := by
  unfold parseAck at h
  split at h
  next hlen => exact .inl (List.eq_nil_of_length_eq_zero hlen)
  next =>
    obtain ⟨hlen, hq⟩ := Option.ite_none_right_eq_some.1 h
    obtain ⟨k, hk, _⟩ := Option.map_eq_some_iff.1 hq
    exact .inr ⟨hlen, noticeOf_range hk⟩

theorem allowed_parsePriority {q : NoticeKind × Nat} (h : parsePriority body = some q) :
    body.length = 2 ∧ 1 ≤ byteAt body 0 ∧ byteAt body 0 ≤ 19 := by
  obtain ⟨hlen, hq⟩ := Option.ite_none_right_eq_some.1 h
  obtain ⟨k, hk, _⟩ := Option.map_eq_some_iff.1 hq
  exact ⟨hlen, noticeOf_range hk⟩

theorem allowed_parseModules {q : ModulesRequest} (h : parseModules body = some q) :
    body.length = 7 ∧ byteAt body 1 ≤ 1 ∧ byteAt body 2 ≤ 1 ∧
      (isCabinModule (byteAt body 0) = true →
        byteAt body 3 ≤ 2 ∧ byteAt body 4 ≤ 2 ∧ byteAt body 5 ≤ 2 ∧ byteAt body 6 ≤ 2) := by
  obtain ⟨hlen, hq⟩ := Option.ite_none_right_eq_some.1 h
  split at hq
  next hconfigured hhold =>
    refine ⟨hlen, yesNoOf_le hconfigured, yesNoOf_le hhold, fun hcabin => ?_⟩
    dsimp only at hq
    rw [if_pos hcabin] at hq
    split at hq
    next ha hb hc hd => exact ⟨cabinKindOf_le ha, cabinKindOf_le hb, cabinKindOf_le hc, cabinKindOf_le hd⟩
    next => cases hq
  next => cases hq

theorem allowed_parseIssue {q : IssueRequest} (h : parseIssue body = some q) :
    byteAt body 4 ≤ 1 ∧
      (body.length = 9 ∨ body.length = 12 ∧ byteAt body 9 ≤ 1 ∨ body.length = 13 ∨ body.length = 16 ∧ byteAt body 13 ≤ 1) := by
  unfold parseIssue at h
  dsimp only at h
  split at h
  next => cases h
  next staff hstaff =>
    refine ⟨yesNoOf_le hstaff, ?_⟩
    split at h
    next hlen => exact .inl hlen
    next =>
      split at h
      next hlen =>
        obtain ⟨a, ha, _⟩ := Option.map_eq_some_iff.1 h
        exact .inr (.inl ⟨hlen, byteAt_drop body 9 ▸ assignmentOf_le ha⟩)
      next =>
        split at h
        next hlen => exact .inr (.inr (.inl hlen))
        next =>
          obtain ⟨hlen, hq⟩ := Option.ite_none_right_eq_some.1 h
          obtain ⟨a, ha, _⟩ := Option.map_eq_some_iff.1 hq
          exact .inr (.inr (.inr ⟨hlen, byteAt_drop body 13 ▸ assignmentOf_le ha⟩))

end Sys2Proof.Machine
end

section
/-! PROOFS. A request of a body that is not allowed, for each of the forty kinds (R196). -/

namespace Sys2Proof.Machine

variable {k : ReqKind} {body : List Byte}

/-! ### Bodies that are allowed -/

theorem bodyAllowed_iff (k : ReqKind) (body : List Byte) :
    bodyAllowed k body ↔
      body.length ∈ bodyLengths k ∧ ∀ c ∈ codedBytes k body, c.2.1 ≤ byteAt body c.1 ∧ byteAt body c.1 ≤ c.2.2 := by
  simp only [bodyAllowed, byteAt_eq_getD]

/-- A kind with one length and no coded byte. -/
theorem bodyAllowed_plain {n : Nat} (hl : bodyLengths k = [n]) (hc : codedBytes k body = []) (h : body.length = n) :
    bodyAllowed k body := by
  rw [bodyAllowed_iff, hl, hc]
  exact ⟨List.mem_singleton.2 h, fun _ hc => nomatch hc⟩

/-- A kind with one length and one coded byte. -/
theorem bodyAllowed_coded {n off lo hi : Nat} (hl : bodyLengths k = [n]) (hc : codedBytes k body = [(off, lo, hi)])
    (h : body.length = n) (hlo : lo ≤ byteAt body off) (hhi : byteAt body off ≤ hi) : bodyAllowed k body := by
  rw [bodyAllowed_iff, hl, hc]
  exact ⟨List.mem_singleton.2 h, fun c hc => by rw [List.mem_singleton.1 hc]; exact ⟨hlo, hhi⟩⟩

theorem bodyAllowed_issueBand {q : IssueRequest} (h : parseIssue body = some q) : bodyAllowed .issueBand body := by
  obtain ⟨hstaff, hlen | ⟨hlen, ha⟩ | hlen | ⟨hlen, ha⟩⟩ := allowed_parseIssue h
  · simp [bodyAllowed_iff, bodyLengths, codedBytes, hlen, hstaff]
  · simp [bodyAllowed_iff, bodyLengths, codedBytes, hlen, hstaff, ha]
  · simp [bodyAllowed_iff, bodyLengths, codedBytes, hlen, hstaff]
  · simp [bodyAllowed_iff, bodyLengths, codedBytes, hlen, hstaff, ha]

theorem bodyAllowed_setZone {q : ZoneRequest} (h : parseZone body = some q) : bodyAllowed .setZone body := by
  obtain ⟨hlen, hpresent, hgroup, horder⟩ := allowed_parseZone h
  simp [bodyAllowed_iff, bodyLengths, codedBytes, hlen, hpresent, hgroup, horder]

theorem bodyAllowed_ackAlarm {q : AckRequest} (h : parseAck body = some q) : bodyAllowed .ackAlarm body := by
  obtain rfl | ⟨hlen, hlo, hhi⟩ := allowed_parseAck h
  · simp [bodyAllowed_iff, bodyLengths, codedBytes]
  · have hne : body ≠ [] := fun h => by simp [h] at hlen
    simp [bodyAllowed_iff, bodyLengths, codedBytes, hlen, hne, hlo, hhi]

theorem bodyAllowed_setModules {q : ModulesRequest} (h : parseModules body = some q) : bodyAllowed .setModules body := by
  obtain ⟨hlen, hconfigured, hhold, hkinds⟩ := allowed_parseModules h
  rw [bodyAllowed_iff, codedBytes, ← byteAt_eq_getD]
  by_cases hcabin : 129 ≤ byteAt body 0 ∧ byteAt body 0 ≤ 144
  · obtain ⟨ha, hb, hc, hd⟩ := hkinds (by simpa [isCabinModule] using hcabin)
    simp [bodyLengths, hlen, hconfigured, hhold, hcabin, ha, hb, hc, hd]
  · simp [bodyLengths, hlen, hconfigured, hhold, hcabin]

/-! ### A body not allowed reads as nothing -/

section Misread

variable {α : Type} {parse : List Byte → Option α}

/-- A reader reads only what is allowed. -/
theorem misread (h : ∀ q, parse body = some q → bodyAllowed k body) (hb : ¬bodyAllowed k body) : parse body = none :=
  Option.eq_none_iff_forall_ne_some.2 fun q hq => hb (h q hq)

end Misread

theorem misread_number {w : Nat} (hl : bodyLengths k = [w]) (hc : codedBytes k body = []) (hb : ¬bodyAllowed k body) :
    parseNumber w body = none := misread (fun _ h => bodyAllowed_plain hl hc (allowed_parseNumber h)) hb

theorem misread_empty (hl : bodyLengths k = [0]) (hc : codedBytes k body = []) (hb : ¬bodyAllowed k body) :
    parseEmpty body = none := misread (fun _ h => bodyAllowed_plain hl hc (allowed_parseEmpty h)) hb

theorem misread_amount (hl : bodyLengths k = [6]) (hc : codedBytes k body = []) (hb : ¬bodyAllowed k body) :
    parseSerialAmount body = none := misread (fun _ h => bodyAllowed_plain hl hc (allowed_parseSerialAmount h)) hb

theorem misread_bandRef (hl : bodyLengths k = [5]) (hc : codedBytes k body = [(0, 0, 1)]) (hb : ¬bodyAllowed k body) :
    parseBandRef body = none :=
  misread (fun _ h => bodyAllowed_coded hl hc (allowed_parseBandRef h).1 (Nat.zero_le _) (allowed_parseBandRef h).2) hb

/-- A request of a body that is not allowed is refused before its handler checks anything else. -/
theorem handler_misread {p : PortId} {f : Handler} (hk : handlerOf p k = some f) (r : Request) (s : State)
    (hb : ¬bodyAllowed k r.body) : f r s = refuse .outOfRange s := by
  cases k <;> cases hk
  case issueBand.refl => simp only [issueBand, misread (fun _ => bodyAllowed_issueBand) hb]
  case addTime.refl => simp only [addTime, misread_amount rfl rfl hb]
  case reissueBand.refl =>
    simp only [reissueBand, misread (fun _ h => bodyAllowed_plain rfl rfl (allowed_parseTwoSerials h)) hb]
  case revokeBand.refl => simp only [revokeBand, misread_number rfl rfl hb]
  case discardBand.refl => simp only [discardBand, misread_bandRef rfl rfl hb]
  case queryBand.refl => simp only [queryBand, misread_bandRef rfl rfl hb]
  case closeDay.refl => simp only [closeDay, misread_empty rfl rfl hb]
  case settle.refl => simp only [settle, misread_number rfl rfl hb]
  case pay.refl => simp only [pay, misread_amount rfl rfl hb]
  case collect.refl => simp only [collect, misread_number rfl rfl hb]
  case assignLocker.refl =>
    simp only [assignLocker, misread (fun _ h => bodyAllowed_coded rfl rfl (allowed_parseAssign h).1 (Nat.zero_le _)
      (allowed_parseAssign h).2) hb]
  case openLocker.refl => simp only [openLocker, misread_number rfl rfl hb]
  case releaseLocker.refl => simp only [releaseLocker, misread_number rfl rfl hb]
  case rearmLocker.refl => simp only [rearmLocker, misread_number rfl rfl hb]
  case setLockerService.refl =>
    simp only [setLockerService, misread (fun _ h => bodyAllowed_coded rfl rfl (allowed_parseLockerService h).1
      (Nat.zero_le _) (allowed_parseLockerService h).2) hb]
  case queryLocker.refl => simp only [queryLocker, misread_number rfl rfl hb]
  case openCabin.refl => simp only [openCabin, misread_number rfl rfl hb]
  case setCabinService.refl =>
    simp only [setCabinService, misread (fun _ h => bodyAllowed_coded rfl rfl (allowed_parseCabinService h).1
      (Nat.zero_le _) (allowed_parseCabinService h).2) hb]
  case queryCabin.refl => simp only [queryCabin, misread_number rfl rfl hb]
  case setZone.refl => simp only [setZone, misread (fun _ => bodyAllowed_setZone) hb]
  case queryZone.refl => simp only [queryZone, misread_number rfl rfl hb]
  case setTariff.refl =>
    simp only [setTariff, misread (fun _ h => bodyAllowed_coded rfl rfl (allowed_parseTariff h).1 (Nat.zero_le _)
      (allowed_parseTariff h).2) hb]
  case selectBank.refl =>
    simp only [selectBank, misread (fun _ h => bodyAllowed_coded rfl rfl (allowed_parseBank h).1 (Nat.zero_le _)
      (allowed_parseBank h).2) hb]
  case setWatch.refl =>
    simp only [setWatchRequest, misread (fun _ h => bodyAllowed_coded rfl rfl (allowed_parseWatch h).1 (Nat.zero_le _)
      (allowed_parseWatch h).2) hb]
  case clearWatch.refl => simp only [clearWatch, misread_number rfl rfl hb]
  case queryWatch.refl => simp only [queryWatch, misread_number rfl rfl hb]
  case readNotice.refl => simp only [readNotice, misread_empty rfl rfl hb]
  case ackAlarm.refl => simp only [ackAlarm, misread (fun _ => bodyAllowed_ackAlarm) hb]
  case setThreshold.refl => simp only [setThreshold, misread_number rfl rfl hb]
  case setNoticePriority.refl =>
    simp only [setNoticePriority, misread (fun _ h => bodyAllowed_coded rfl rfl (allowed_parsePriority h).1
      (allowed_parsePriority h).2.1 (allowed_parsePriority h).2.2) hb]
  case setModules.refl => simp only [setModules, misread (fun _ => bodyAllowed_setModules) hb]
  case holdModule.refl => simp only [setHeld, misread_number rfl rfl hb]
  case releaseModule.refl => simp only [setHeld, misread_number rfl rfl hb]
  case queryModule.refl => simp only [queryModule, misread_number rfl rfl hb]
  case setPort.refl =>
    simp only [setPortRequest, misread (fun _ h => bodyAllowed_plain rfl rfl (allowed_parsePort h)) hb]
  case setWindows.refl =>
    simp only [setWindows, misread (fun _ h => bodyAllowed_plain rfl rfl (allowed_parseWindows h)) hb]
  case setClock.refl => simp only [setClock, misread_number rfl rfl hb]
  case trimClock.refl => simp only [trimClock, misread (fun _ h => bodyAllowed_plain rfl rfl (allowed_parseTrim h)) hb]
  case status.refl => simp only [statusRequest, misread_empty rfl rfl hb]

/-- A SAVE_SETTINGS of a body that is not empty is refused before anything else, as the handlers do. -/
theorem saveSettings_misread {p : PortId} {r : Request} {s : State} (hg : s.taking p .saveSettings r)
    (hb : ¬bodyAllowed .saveSettings r.body) :
    exec (.saveSettings p) s = .next (s.answered p r .outOfRange []) := by
  have hne : r.body.isEmpty = false := eq_false_of_ne_true fun h =>
    hb (bodyAllowed_plain rfl rfl (by rw [List.isEmpty_iff.1 h, List.length_nil]))
  change execSaveSettings p s = _
  unfold execSaveSettings
  rw [hg.1]
  simp only [hg.2, hne]
  rfl

/-- Every handler keeps the state when it refuses, SETTLE but for its notice (R94). -/
theorem handler_keeps {p : PortId} {f : Handler} (hk : handlerOf p k = some f) (r : Request) (s : State)
    (h : (f r s).1.code.refuses = true) :
    (f r s).2 = s ∨
      (k = .settle ∧ (f r s).1.code = .revoked ∧ (f r s).2 = s.notify .revokedPresented none (parseNumber 4 r.body)) := by
  cases k <;> cases hk
  case settle.refl => exact (settle_refused s r h).imp id fun h => ⟨rfl, h⟩
  all_goals refine KeepsOnRefusal.or ?_ h
  case issueBand.refl => exact keeps_issueBand s r
  case addTime.refl => exact keeps_addTime s r
  case reissueBand.refl => exact keeps_reissueBand s r
  case revokeBand.refl => exact keeps_revokeBand s r
  case discardBand.refl => exact keeps_discardBand s r
  case queryBand.refl => exact keeps_queryBand s r
  case closeDay.refl => exact keeps_closeDay s r
  case pay.refl => exact keeps_pay s r
  case collect.refl => exact keeps_collect s r
  case assignLocker.refl => exact keeps_assignLocker s r
  case openLocker.refl => exact keeps_openLocker s r
  case releaseLocker.refl => exact keeps_releaseLocker s r
  case rearmLocker.refl => exact keeps_rearmLocker s r
  case setLockerService.refl => exact keeps_setLockerService s r
  case queryLocker.refl => exact keeps_queryLocker s r
  case openCabin.refl => exact keeps_openCabin s r
  case setCabinService.refl => exact keeps_setCabinService s r
  case queryCabin.refl => exact keeps_queryCabin s r
  case setZone.refl => exact keeps_setZone s r
  case queryZone.refl => exact keeps_queryZone s r
  case setTariff.refl => exact keeps_setTariff s r
  case selectBank.refl => exact keeps_selectBank s r
  case setWatch.refl => exact keeps_setWatchRequest s r p
  case clearWatch.refl => exact keeps_clearWatch s r p
  case queryWatch.refl => exact keeps_queryWatch s r
  case readNotice.refl => exact keeps_readNotice s r p
  case ackAlarm.refl => exact keeps_ackAlarm s r p
  case setThreshold.refl => exact keeps_setThreshold s r p
  case setNoticePriority.refl => exact keeps_setNoticePriority s r p
  case setModules.refl => exact keeps_setModules s r
  case holdModule.refl => exact keeps_setHeld s r p true
  case releaseModule.refl => exact keeps_setHeld s r p false
  case queryModule.refl => exact keeps_queryModule s r
  case setPort.refl => exact keeps_setPortRequest s r p
  case setWindows.refl => exact keeps_setWindows s r
  case setClock.refl => exact keeps_setClock s r
  case trimClock.refl => exact keeps_trimClock s r p
  case status.refl => exact keeps_statusRequest s r p

/-- Settles O10: handler by handler, and SAVE_SETTINGS, which has no handler of the common form. -/
theorem refusedRequestsLeaveTheState : Obligations.RefusedRequestsLeaveTheState := by
  refine ⟨fun p k f r s hk h => handler_keeps hk r s h, fun p k r s hb => ⟨fun ha hg => ?granted, fun ha hg => ?taken⟩⟩
  case granted =>
    obtain ⟨f, hk⟩ : ∃ f, handlerOf p k = some f := by
      cases k <;> cases ha <;> exact ⟨_, rfl⟩
    exact exec_row_granted hk ha hg (handler_misread hk r _ hb)
  case taken =>
    cases hk : handlerOf p k with
    | some f => exact exec_row_taken hk ha hg (handler_misread hk r _ hb)
    | none =>
      obtain rfl : k = .saveSettings := by
        cases k <;> cases hk <;> rfl
      exact saveSettings_misread hg hb

end Sys2Proof.Machine
end

section
/-! PROOFS. The binding tables' agreement in parts: the links between the tables, each record, each locker and each cabin
(R4, R14, R15, R17, R37, R38, R68). -/

namespace Sys2Proof.Machine

/-! ### What the links read of the records -/

/-- How many lockers a role may hold (R15). -/
def Role.room : Role → Nat
  | .none => 1
  | .leader _ => 2
  | .member _ => 0

/-- The REVOKED records that a walk along previous links meets. -/
def chainFrom (prev : Nat → Option Nat) : Nat → Option Nat → List Nat
  | 0, _ => []
  | _ + 1, none => []
  | fuel + 1, some k => k :: chainFrom prev fuel (prev k)

/-- What a record in a state may still hold (R19, R23, R95, R99). -/
def Band.HoldingFits (b : Band) : Prop :=
  match b.state with
  | .active => True
  | .revoked => b.cabin = none ∧ (b.next ≠ none → b.lockers = [] ∧ b.role = .none)
  | .owing _ => b.lockers = [] ∧ b.members = []
  | .cleared _ => b.lockers = [] ∧ b.members = [] ∧ b.cabin = none

/-- What a record's own fields keep, whatever the other tables hold. -/
structure Band.Sound (b : Band) : Prop where
  room : b.lockers.length ≤ b.role.room
  visitor : b.role ≠ .none → b.isVisitor = true
  reissued : b.next ≠ none → b.state = .revoked
  staff : b.kind = .staff → b.previous = none ∧ b.next = none
  holding : b.HoldingFits

namespace State

/-- A field of the record in each slot, with what an EMPTY slot reads as. -/
def look {α : Type} (s : State) (d : α) (v : Band → α) (k : Nat) : α := (s.band k).elim d v

/-- The lockers that the record in a slot lists. -/
def lockersOf (s : State) : Nat → List Nat := s.look [] Band.lockers

/-- The cabin that the record in a slot names. -/
def cabinOf (s : State) : Nat → Option Nat := s.look none Band.cabin

/-- The role of the record in a slot. -/
def roleOf (s : State) : Nat → Role := s.look .none Band.role

/-- The previous link of the record in a slot. -/
def prevOf (s : State) : Nat → Option Nat := s.look none Band.previous

/-- The next link of the record in a slot. -/
def nextOf (s : State) : Nat → Option Nat := s.look none Band.next

/-- The serial of the record in a slot. -/
def markOf (s : State) : Nat → Option Nat := s.look none fun b => some b.serial

/-- The holder of each locker. -/
def holderOf (s : State) (n : Nat) : Option Nat := (s.locker n).holder

/-- The occupant of each cabin. -/
def occupantOf (s : State) (c : Nat) : Option Nat := (s.cabin c).occupant

theorem look_some {α : Type} {s : State} {k : Nat} {b : Band} (h : s.band k = some b) (d : α) (v : Band → α) :
    s.look d v k = v b := by
  rw [look, h]
  rfl

theorem look_none {α : Type} {s : State} {k : Nat} (h : s.band k = none) (d : α) (v : Band → α) : s.look d v k = d := by
  rw [look, h]
  rfl

theorem look_of_band {α : Type} {s t : State} (h : ∀ k, t.band k = s.band k) (d : α) (v : Band → α) :
    t.look d v = s.look d v := funext fun k => congrArg (Option.elim · d v) (h k)

theorem look_setBand {α : Type} (s : State) {k : Nat} (hk : 1 ≤ k ∧ k ≤ Config.lastSlot) (o : Option Band) (d : α)
    (v : Band → α) : (s.setBand k o).look d v = Function.update (s.look d v) k (o.elim d v) := by
  funext j
  by_cases hj : j = k
  · subst hj
    rw [Function.update_self, look, setBand_band_self s o hk]
  · rw [Function.update_of_ne hj, look, setBand_band_ne s o (Ne.symm hj)]
    rfl

/-- A record replaced by one of the same field reads as before. -/
theorem look_setBand_same {α : Type} {s : State} {k : Nat} {b b' : Band} (h : s.band k = some b) {d : α} {v : Band → α}
    (hv : v b' = v b) : (s.setBand k (some b')).look d v = s.look d v := by
  rw [look_setBand s (s.slot_of_band h)]
  exact Function.update_eq_self_iff.2 (hv.trans (look_some h d v).symm)

theorem look_eq_iff {α : Type} {s : State} {k : Nat} {d x : α} {v : Band → α} (hx : d ≠ x) :
    s.look d v k = x ↔ ∃ b, s.band k = some b ∧ v b = x := by
  unfold look
  cases s.band k with
  | none => simpa using hx
  | some b => simp

theorem mem_lockersOf {s : State} {n k : Nat} : n ∈ s.lockersOf k ↔ ∃ b, s.band k = some b ∧ n ∈ b.lockers := by
  unfold lockersOf look
  cases s.band k <;> simp

/-! ### The links between the tables -/

/-- The tables name one another: lockers and lists, cabins and cabin fields, serials, groups, chains; and each record is sound. -/
structure Linked (s : State) : Prop where
  held : ∀ n h, 1 ≤ n → n ≤ 1024 → (s.holderOf n = some h ↔ n ∈ s.lockersOf h)
  lists : ∀ k, (s.lockersOf k).Nodup ∧ ∀ n ∈ s.lockersOf k, 1 ≤ n ∧ n ≤ 1024
  inside : ∀ c k, 1 ≤ c → c ≤ 64 → (s.occupantOf c = some k ↔ s.cabinOf k = some c)
  cabins : ∀ k c, s.cabinOf k = some c → 1 ≤ c ∧ c ≤ 64
  rising : s.engine.serialMap.Pairwise fun a b => a.1 < b.1
  serials : ∀ m k, s.slotOf m = some k ↔ s.markOf k = some m
  leaders : ∀ k ms, s.roleOf k = .leader ms →
    ms.length ≤ Config.groupCapacity ∧ ms.Nodup ∧ ∀ m ∈ ms, s.roleOf m = .member k
  members : ∀ k l, s.roleOf k = .member l → ∃ ms, s.roleOf l = .leader ms ∧ k ∈ ms
  chains : ∀ k p, s.prevOf k = some p ↔ s.nextOf p = some k
  short : ∀ k, (chainFrom s.prevOf Config.lastSlot (s.prevOf k)).length < Config.chainCapacity
  sound : ∀ k b, s.band k = some b → b.Sound

end State

/-! ### Each locker and each cabin (Tables 3-3 and 4-2) -/

/-- A locker's state has a holder, or none, as Table 3-3 gives. -/
def Locker.HolderFits (l : Locker) : Prop :=
  match l.state with
  | .unfitted | .free | .orphaned | .outOfService => l.holder = none
  | .reserved | .locked | .released | .opened | .closing => l.holder ≠ none
  | .latching => l.holder = none → l.origin = some .forced
  | .unlatching => l.holder = none ↔ l.release = true
  | .fault | .forced => True

/-- And a locker of a module that is not configured is UNFITTED. -/
def Locker.Fits (conf : Bool) (l : Locker) : Prop := (conf = false → l.state = .unfitted) ∧ l.HolderFits

/-- A cabin's state has an occupant, or none, as Table 4-2 gives. -/
def Cabin.OccupantFits (r : Cabin) : Prop :=
  match r.state with
  | .unfitted | .vacant | .outOfService => r.occupant = none
  | .latching | .occupied => r.occupant ≠ none
  | .unlatching => True

/-- And a cabin of a module that is not configured is UNFITTED. -/
def Cabin.Fits (conf : Bool) (r : Cabin) : Prop := (conf = false → r.state = .unfitted) ∧ r.OccupantFits

namespace State

/-- The record of a locker fits its state and its module. -/
def LockerFits (s : State) (n : Nat) : Prop := (s.locker n).Fits (s.configured (lockerAt n).1)

/-- The record of a cabin fits its state and its module. -/
def CabinFits (s : State) (c : Nat) : Prop := (s.cabin c).Fits (s.configured (cabinAt c).1)

/-- The tables agree, but that the record of the place given may not fit its state. -/
structure AgreesBut (x : Option Place) (s : State) : Prop where
  linked : s.Linked
  lockers : ∀ n, 1 ≤ n → n ≤ 1024 → x ≠ some (.locker n) → s.LockerFits n
  cabins : ∀ c, 1 ≤ c → c ≤ 64 → x ≠ some (.cabin c) → s.CabinFits c

/-- The tables agree. -/
abbrev Agrees (s : State) : Prop := s.AgreesBut none

/-! ### The statement's invariant -/

theorem predecessors_eq {s : State} (hrev : ∀ k b, s.band k = some b → b.next ≠ none → b.state = .revoked)
    (hlink : ∀ k p, s.prevOf k = some p → s.nextOf p = some k) (fuel k : Nat) :
    s.predecessors fuel (s.prevOf k) = chainFrom s.prevOf fuel (s.prevOf k) := by
  induction fuel generalizing k with
  | zero => rw [predecessors, chainFrom]
  | succ fuel ih =>
    cases hp : s.prevOf k with
    | none => rfl
    | some p =>
      obtain ⟨b, hb, hnext⟩ := (look_eq_iff (by simp)).1 (hlink k p hp)
      have hprev : s.prevOf p = b.previous := look_some hb none Band.previous
      have hih := ih p
      rw [hprev] at hih
      simp only [predecessors, hb, hrev p b hb (by simp [hnext]), if_true, hih, chainFrom, hprev]

theorem chainLength_eq {s : State} (hrev : ∀ k b, s.band k = some b → b.next ≠ none → b.state = .revoked)
    (hlink : ∀ k p, s.prevOf k = some p → s.nextOf p = some k) {k : Nat} {b : Band} (hb : s.band k = some b) :
    s.chainLength b = (chainFrom s.prevOf Config.lastSlot (s.prevOf k)).length + 1 := by
  rw [chainLength, ← predecessors_eq hrev hlink]
  exact congrArg (fun o => (s.predecessors Config.lastSlot o).length + 1) (look_some hb none Band.previous).symm

/-- A record's lockers, by its role. -/
def lockersRoom (b : Band) : Prop :=
  match b.role with
  | .none => b.lockers.length ≤ 1
  | .leader _ => b.lockers.length ≤ 2
  | .member _ => b.lockers = []

theorem lockersRoom_iff (b : Band) : lockersRoom b ↔ b.lockers.length ≤ b.role.room := by
  unfold lockersRoom
  cases b.role with
  | none => rfl
  | leader ms => rfl
  | member l => exact List.length_eq_zero_iff.symm.trans Nat.le_zero.symm

section Parts

variable {s : State}

theorem lockersAgree_iff :
    s.LockersAgree ↔
      (∀ n h, 1 ≤ n → n ≤ 1024 → (s.holderOf n = some h ↔ n ∈ s.lockersOf h)) ∧
        (∀ k b, s.band k = some b → b.lockers.Nodup ∧ (∀ n ∈ b.lockers, 1 ≤ n ∧ n ≤ 1024) ∧ lockersRoom b) ∧
        ∀ n, 1 ≤ n → n ≤ 1024 → s.LockerFits n := by
  simp only [mem_lockersOf]
  exact Iff.rfl

theorem cabinsAgree_iff :
    s.CabinsAgree ↔
      (∀ c k, 1 ≤ c → c ≤ 64 → (s.occupantOf c = some k ↔ s.cabinOf k = some c)) ∧
        (∀ k c, s.cabinOf k = some c → 1 ≤ c ∧ c ≤ 64) ∧ ∀ c, 1 ≤ c → c ≤ 64 → s.CabinFits c := by
  have names (k c : Nat) : s.cabinOf k = some c ↔ ∃ b, s.band k = some b ∧ b.cabin = some c := look_eq_iff (by simp)
  simp only [names]
  exact and_congr Iff.rfl (and_congr ⟨fun h k c ⟨b, hb, hc⟩ => h k b c hb hc, fun h k b c hb hc => h k c ⟨b, hb, hc⟩⟩ Iff.rfl)

theorem serialMapAgrees_iff :
    s.SerialMapAgrees ↔
      s.engine.serialMap.Pairwise (fun a b => a.1 < b.1) ∧ ∀ m k, s.slotOf m = some k ↔ s.markOf k = some m := by
  have marks (k m : Nat) : s.markOf k = some m ↔ ∃ b, s.band k = some b ∧ b.serial = m := by
    rw [markOf, look_eq_iff (by simp)]
    simp
  simp only [marks]
  exact Iff.rfl

/-- A record's place in its group. -/
def groupFits (s : State) (k : Nat) (b : Band) : Prop :=
  match b.role with
  | .none => True
  | .leader ms => b.isVisitor = true ∧ ms.length ≤ Config.groupCapacity ∧ ms.Nodup ∧
      ∀ m ∈ ms, ∃ mb, s.band m = some mb ∧ mb.role = .member k
  | .member l => b.isVisitor = true ∧ ∃ lb ms, s.band l = some lb ∧ lb.role = .leader ms ∧ k ∈ ms

theorem groupsAgree_iff :
    s.GroupsAgree ↔
      (∀ k ms, s.roleOf k = .leader ms →
        ms.length ≤ Config.groupCapacity ∧ ms.Nodup ∧ ∀ m ∈ ms, s.roleOf m = .member k) ∧
      (∀ k l, s.roleOf k = .member l → ∃ ms, s.roleOf l = .leader ms ∧ k ∈ ms) ∧
      ∀ k b, s.band k = some b → b.role ≠ .none → b.isVisitor = true := by
  have leads (k : Nat) (ms : List Nat) : s.roleOf k = .leader ms ↔ ∃ b, s.band k = some b ∧ b.role = .leader ms :=
    look_eq_iff (by simp)
  have belongs (k l : Nat) : s.roleOf k = .member l ↔ ∃ b, s.band k = some b ∧ b.role = .member l := look_eq_iff (by simp)
  simp only [leads, belongs]
  change (∀ k b, s.band k = some b → s.groupFits k b) ↔ _
  constructor
  · intro h
    refine ⟨fun k ms ⟨b, hb, hr⟩ => ?_, fun k l ⟨b, hb, hr⟩ => ?_, fun k b hb hr => ?_⟩
    · have := h k b hb
      rw [groupFits, hr] at this
      exact this.2
    · have := h k b hb
      rw [groupFits, hr] at this
      obtain ⟨_, lb, ms, hl, hlr, hk⟩ := this
      exact ⟨ms, ⟨lb, hl, hlr⟩, hk⟩
    · have := h k b hb
      unfold groupFits at this
      split at this
      next hn => exact absurd hn hr
      next => exact this.1
      next => exact this.1
  · rintro ⟨hlead, hmember, hvisitor⟩ k b hb
    unfold groupFits
    split
    next => trivial
    next ms hr => exact ⟨hvisitor k b hb (by simp [hr]), hlead k ms ⟨b, hb, hr⟩⟩
    next l hr =>
      obtain ⟨ms, ⟨lb, hl, hlr⟩, hk⟩ := hmember k l ⟨b, hb, hr⟩
      exact ⟨hvisitor k b hb (by simp [hr]), lb, ms, hl, hlr, hk⟩

theorem chainsAgree_iff :
    s.ChainsAgree ↔
      (∀ k p, s.prevOf k = some p ↔ s.nextOf p = some k) ∧
      (∀ k, (chainFrom s.prevOf Config.lastSlot (s.prevOf k)).length < Config.chainCapacity) ∧
      ∀ k b, s.band k = some b → (b.next ≠ none → b.state = .revoked) ∧
        (b.kind = .staff → b.previous = none ∧ b.next = none) := by
  have prevs (k p : Nat) : s.prevOf k = some p ↔ ∃ b, s.band k = some b ∧ b.previous = some p := look_eq_iff (by simp)
  have nexts (p k : Nat) : s.nextOf p = some k ↔ ∃ b, s.band p = some b ∧ b.next = some k := look_eq_iff (by simp)
  have nextOfBand {k : Nat} {b : Band} (hb : s.band k = some b) {P : Prop} :
      (b.next ≠ none → P) ↔ ∀ m, b.next = some m → P := by
    cases b.next <;> simp
  constructor
  · intro h
    have hrev : ∀ k b, s.band k = some b → b.next ≠ none → b.state = .revoked := fun k b hb =>
      (nextOfBand hb).2 fun m hm => ((h k b hb).2.2.1 m hm).1
    have hlink : ∀ k p, s.prevOf k = some p ↔ s.nextOf p = some k := fun k p => by
      rw [prevs, nexts]
      constructor
      · rintro ⟨b, hb, hp⟩
        obtain ⟨pb, hpb, _, hn⟩ := (h k b hb).2.1 p hp
        exact ⟨pb, hpb, hn⟩
      · rintro ⟨b, hb, hn⟩
        obtain ⟨_, mb, hmb, hp⟩ := (h p b hb).2.2.1 k hn
        exact ⟨mb, hmb, hp⟩
    refine ⟨hlink, fun k => ?_, fun k b hb => ⟨hrev k b hb, (h k b hb).2.2.2⟩⟩
    cases hb : s.band k with
    | none =>
      rw [show s.prevOf k = none from look_none hb none Band.previous,
        show chainFrom s.prevOf Config.lastSlot none = [] from rfl]
      decide
    | some b =>
      have hlen := (h k b hb).1
      rw [chainLength_eq hrev (fun k p => (hlink k p).1) hb] at hlen
      exact hlen
  · rintro ⟨hlink, hshort, hband⟩ k b hb
    have hrev : ∀ k b, s.band k = some b → b.next ≠ none → b.state = .revoked := fun k b hb => (hband k b hb).1
    refine ⟨?_, fun p hp => ?_, fun m hm => ⟨hrev k b hb (by simp [hm]), ?_⟩, (hband k b hb).2⟩
    · rw [chainLength_eq hrev (fun k p => (hlink k p).1) hb]
      exact hshort k
    · obtain ⟨pb, hpb, hn⟩ := (nexts p k).1 ((hlink k p).1 ((prevs k p).2 ⟨b, hb, hp⟩))
      exact ⟨pb, hpb, hrev p pb hpb (by simp [hn]), hn⟩
    · exact (prevs m k).1 ((hlink m k).2 ((nexts k m).2 ⟨b, hb, hm⟩))

/-- The invariant of the statement, in parts. -/
theorem agrees_iff :
    s.Agrees ↔
      s.LockersAgree ∧ s.CabinsAgree ∧ s.SerialMapAgrees ∧ s.GroupsAgree ∧ s.ChainsAgree ∧ s.HoldingsAgree := by
  rw [lockersAgree_iff, cabinsAgree_iff, serialMapAgrees_iff, groupsAgree_iff, chainsAgree_iff]
  constructor
  · rintro ⟨h, hlockers, hcabins⟩
    refine ⟨⟨h.held, fun k b hb => ?_, fun n h1 h2 => hlockers n h1 h2 nofun⟩,
      ⟨h.inside, h.cabins, fun c h1 h2 => hcabins c h1 h2 nofun⟩, ⟨h.rising, h.serials⟩,
      ⟨h.leaders, h.members, fun k b hb => (h.sound k b hb).visitor⟩,
      ⟨h.chains, h.short, fun k b hb => ⟨(h.sound k b hb).reissued, (h.sound k b hb).staff⟩⟩,
      fun k b hb => (h.sound k b hb).holding⟩
    have hlist := h.lists k
    rw [show s.lockersOf k = b.lockers from look_some hb [] Band.lockers] at hlist
    exact ⟨hlist.1, hlist.2, (lockersRoom_iff b).2 (h.sound k b hb).room⟩
  · rintro ⟨⟨hheld, hlists, hlockers⟩, ⟨hinside, hcabinRange, hcabins⟩, ⟨hrising, hserials⟩,
      ⟨hleaders, hmembers, hvisitor⟩, ⟨hlink, hshort, hchain⟩, hholding⟩
    refine ⟨⟨hheld, fun k => ?_, hinside, hcabinRange, hrising, hserials, hleaders, hmembers, hlink, hshort,
      fun k b hb => ⟨(lockersRoom_iff b).1 (hlists k b hb).2.2, hvisitor k b hb, (hchain k b hb).1, (hchain k b hb).2,
        hholding k b hb⟩⟩, fun n h1 h2 _ => hlockers n h1 h2, fun c h1 h2 _ => hcabins c h1 h2⟩
    cases hb : s.band k with
    | none =>
      rw [show s.lockersOf k = [] from look_none hb [] Band.lockers]
      exact ⟨List.nodup_nil, fun n hn => nomatch hn⟩
    | some b =>
      rw [show s.lockersOf k = b.lockers from look_some hb [] Band.lockers]
      exact ⟨(hlists k b hb).1, (hlists k b hb).2.1⟩

end Parts

end State

end Sys2Proof.Machine
end

section
/-! PROOFS. The agreement of the binding tables under writes of one locker, one cabin and one record (R38, R39, R68, R69). -/

namespace Sys2Proof.Machine

namespace State

variable {s t : State} {x : Option Place} {n c k : Nat}

/-! ### Writes that no binding table sees -/

/-- The binding tables, and which modules are configured, are the same in both states. -/
structure SameBinding (s t : State) : Prop where
  bands : t.engine.bands = s.engine.bands
  serialMap : t.engine.serialMap = s.engine.serialMap
  lockers : t.engine.lockers = s.engine.lockers
  cabins : t.engine.cabins = s.engine.cabins
  modules : t.settings.modules = s.settings.modules

theorem SameBinding.refl (s : State) : SameBinding s s := ⟨rfl, rfl, rfl, rfl, rfl⟩

theorem SameBinding.trans {u : State} (h : SameBinding s t) (k : SameBinding t u) : SameBinding s u :=
  ⟨k.bands.trans h.bands, k.serialMap.trans h.serialMap, k.lockers.trans h.lockers, k.cabins.trans h.cabins,
    k.modules.trans h.modules⟩

theorem sameBinding_of_engine (he : t.engine = s.engine) (hm : t.settings.modules = s.settings.modules) : SameBinding s t :=
  ⟨congrArg Engine.bands he, congrArg Engine.serialMap he, congrArg Engine.lockers he, congrArg Engine.cabins he, hm⟩

theorem SameBinding.band (h : SameBinding s t) (k : Nat) : t.band k = s.band k := by
  unfold State.band
  rw [h.bands]

theorem SameBinding.locker (h : SameBinding s t) (n : Nat) : t.locker n = s.locker n := by
  unfold State.locker
  rw [h.lockers]

theorem SameBinding.cabin (h : SameBinding s t) (c : Nat) : t.cabin c = s.cabin c := by
  unfold State.cabin
  rw [h.cabins]

theorem SameBinding.configured (h : SameBinding s t) (a : Nat) : t.configured a = s.configured a := by
  unfold State.configured moduleSetting
  rw [h.modules]

theorem slotOf_of_map (h : t.engine.serialMap = s.engine.serialMap) (m : Nat) : t.slotOf m = s.slotOf m := by
  unfold slotOf
  rw [h]

/-! ### The links under writes that leave what they read -/

/-- The records are the same but in what no other table reads. -/
structure SameReads (s t : State) : Prop where
  cabinOf : t.cabinOf = s.cabinOf
  markOf : t.markOf = s.markOf
  roleOf : t.roleOf = s.roleOf
  prevOf : t.prevOf = s.prevOf
  nextOf : t.nextOf = s.nextOf
  serialMap : t.engine.serialMap = s.engine.serialMap

theorem sameReads_of_band (hb : ∀ k, t.band k = s.band k) (hm : t.engine.serialMap = s.engine.serialMap) : SameReads s t :=
  ⟨look_of_band hb _ _, look_of_band hb _ _, look_of_band hb _ _, look_of_band hb _ _, look_of_band hb _ _, hm⟩

theorem sameReads_setBand {b b' : Band} (hb : s.band k = some b) (hcabin : b'.cabin = b.cabin) (hserial : b'.serial = b.serial)
    (hrole : b'.role = b.role) (hprev : b'.previous = b.previous) (hnext : b'.next = b.next) :
    SameReads s (s.setBand k (some b')) :=
  ⟨look_setBand_same hb hcabin, look_setBand_same hb (congrArg some hserial), look_setBand_same hb hrole,
    look_setBand_same hb hprev, look_setBand_same hb hnext, by simp⟩

theorem SameReads.trans {u : State} (h : SameReads s t) (k : SameReads t u) : SameReads s u :=
  ⟨k.cabinOf.trans h.cabinOf, k.markOf.trans h.markOf, k.roleOf.trans h.roleOf, k.prevOf.trans h.prevOf,
    k.nextOf.trans h.nextOf, k.serialMap.trans h.serialMap⟩

/-- Lockers and lists written together, everything else read as before. -/
theorem Linked.relist (h : s.Linked) (hr : SameReads s t) (ho : ∀ c, 1 ≤ c → c ≤ 64 → t.occupantOf c = s.occupantOf c)
    (held : ∀ n h, 1 ≤ n → n ≤ 1024 → (t.holderOf n = some h ↔ n ∈ t.lockersOf h))
    (lists : ∀ k, (t.lockersOf k).Nodup ∧ ∀ n ∈ t.lockersOf k, 1 ≤ n ∧ n ≤ 1024)
    (sound : ∀ k b, t.band k = some b → b.Sound) : t.Linked where
  held := held
  lists := lists
  inside := fun c k h1 h2 => by
    rw [ho c h1 h2, hr.cabinOf]
    exact h.inside c k h1 h2
  cabins := hr.cabinOf ▸ h.cabins
  rising := hr.serialMap ▸ h.rising
  serials := fun m k => by
    rw [slotOf_of_map hr.serialMap, hr.markOf]
    exact h.serials m k
  leaders := hr.roleOf ▸ h.leaders
  members := hr.roleOf ▸ h.members
  chains := by
    rw [hr.prevOf, hr.nextOf]
    exact h.chains
  short := hr.prevOf ▸ h.short
  sound := sound

/-- Nothing written that a link reads. -/
theorem Linked.keep (h : s.Linked) (hr : SameReads s t) (hl : t.lockersOf = s.lockersOf)
    (hh : ∀ n, 1 ≤ n → n ≤ 1024 → t.holderOf n = s.holderOf n) (ho : ∀ c, 1 ≤ c → c ≤ 64 → t.occupantOf c = s.occupantOf c)
    (sound : ∀ k b, t.band k = some b → b.Sound) : t.Linked :=
  h.relist hr ho
    (fun n k h1 h2 => by
      rw [hh n h1 h2, hl]
      exact h.held n k h1 h2)
    (hl ▸ h.lists) sound

theorem AgreesBut.frame (h : AgreesBut x s) (hf : SameBinding s t) : AgreesBut x t where
  linked := h.linked.keep (sameReads_of_band hf.band hf.serialMap) (look_of_band hf.band _ _)
    (fun n _ _ => congrArg Locker.holder (hf.locker n)) (fun c _ _ => congrArg Cabin.occupant (hf.cabin c))
    (fun k b hb => h.linked.sound k b (hf.band k ▸ hb))
  lockers := fun n h1 h2 hx => by
    unfold LockerFits
    rw [hf.locker, hf.configured]
    exact h.lockers n h1 h2 hx
  cabins := fun c h1 h2 hx => by
    unfold CabinFits
    rw [hf.cabin, hf.configured]
    exact h.cabins c h1 h2 hx

/-! ### One locker or one cabin apart, and closed again -/

theorem AgreesBut.but (h : s.Agrees) (x : Option Place) : AgreesBut x s :=
  ⟨h.linked, fun n h1 h2 _ => h.lockers n h1 h2 nofun, fun c h1 h2 _ => h.cabins c h1 h2 nofun⟩

theorem AgreesBut.closeLocker (h : AgreesBut (some (.locker n)) s) (hf : 1 ≤ n → n ≤ 1024 → s.LockerFits n) : s.Agrees where
  linked := h.linked
  lockers := fun m h1 h2 _ => by
    by_cases hm : m = n
    · exact hm ▸ hf (hm ▸ h1) (hm ▸ h2)
    · exact h.lockers m h1 h2 fun he => hm (Place.locker.inj (Option.some.inj he)).symm
  cabins := fun c h1 h2 _ => h.cabins c h1 h2 nofun

theorem AgreesBut.closeCabin (h : AgreesBut (some (.cabin c)) s) (hf : 1 ≤ c → c ≤ 64 → s.CabinFits c) : s.Agrees where
  linked := h.linked
  lockers := fun n h1 h2 _ => h.lockers n h1 h2 nofun
  cabins := fun d h1 h2 _ => by
    by_cases hd : d = c
    · exact hd ▸ hf (hd ▸ h1) (hd ▸ h2)
    · exact h.cabins d h1 h2 fun he => hd (Place.cabin.inj (Option.some.inj he)).symm

/-! ### One locker written -/

theorem setLocker_holderOf_of_ne {l : Locker} {m : Nat} (hm : m ≠ n) : (s.setLocker n l).holderOf m = s.holderOf m :=
  congrArg Locker.holder (setLocker_locker_ne s l (Ne.symm hm))

/-- A locker written apart from the others' fits. -/
theorem AgreesBut.lockers_setLocker (h : AgreesBut (some (.locker n)) s) (l : Locker) (m : Nat) (h1 : 1 ≤ m) (h2 : m ≤ 1024)
    (hx : some (Place.locker n) ≠ some (.locker m)) : (s.setLocker n l).LockerFits m := by
  unfold LockerFits
  rw [setLocker_locker_ne s l fun he => hx (congrArg (fun n => some (Place.locker n)) he), setLocker_configured]
  exact h.lockers m h1 h2 hx

theorem AgreesBut.setLocker {l : Locker} (h : AgreesBut (some (.locker n)) s) (hl : l.holder = (s.locker n).holder) :
    AgreesBut (some (.locker n)) (s.setLocker n l) where
  linked := by
    have hb := s.setLocker_band n l
    refine h.linked.keep (sameReads_of_band hb (by simp)) (look_of_band hb _ _) (fun m h1 h2 => ?_) (fun c _ _ => ?_)
      fun k b hk => h.linked.sound k b (hb k ▸ hk)
    · by_cases hm : m = n
      · subst hm
        exact (congrArg Locker.holder (s.setLocker_locker_self l ⟨h1, h2⟩)).trans hl
      · exact setLocker_holderOf_of_ne hm
    · exact congrArg Cabin.occupant (s.setLocker_cabin n l c)
  lockers := h.lockers_setLocker l
  cabins := fun c h1 h2 hx => by
    unfold CabinFits
    rw [setLocker_cabin, setLocker_configured]
    exact h.cabins c h1 h2 hx

/-- A locker written with its holder kept. -/
theorem AgreesBut.putLocker {l : Locker} (h : s.Agrees) (hl : l.holder = (s.locker n).holder)
    (hf : 1 ≤ n → n ≤ 1024 → l.Fits (s.configured (lockerAt n).1)) : (s.setLocker n l).Agrees :=
  ((AgreesBut.but h _).setLocker hl).closeLocker fun h1 h2 => by
    unfold LockerFits
    rw [s.setLocker_locker_self l ⟨h1, h2⟩, setLocker_configured]
    exact hf h1 h2

/-! ### One locker and one list written together -/

section Relist

variable {b : Band} {l : Locker} {ns : List Nat}

/-- The record of a list, and its locker, written together. -/
def relisted (s : State) (n : Nat) (l : Locker) (k : Nat) (b : Band) (ns : List Nat) : State :=
  (s.setLocker n l).setBand k (some { b with lockers := ns })

theorem relisted_lockersOf (hb : s.band k = some b) : (s.relisted n l k b ns).lockersOf = Function.update s.lockersOf k ns := by
  have hlook : (s.setLocker n l).lockersOf = s.lockersOf := look_of_band (s.setLocker_band n l) _ _
  rw [relisted, lockersOf, look_setBand _ (s.slot_of_band hb)]
  exact congrArg (Function.update · k ns) hlook

theorem relisted_band_of_ne {j : Nat} (hj : j ≠ k) : (s.relisted n l k b ns).band j = s.band j := by
  rw [relisted, setBand_band_ne _ _ (Ne.symm hj), setLocker_band]

theorem AgreesBut.relist (h : AgreesBut (some (.locker n)) s) (hn : 1 ≤ n ∧ n ≤ 1024) (hb : s.band k = some b)
    (hsound : ({ b with lockers := ns } : Band).Sound) (hnodup : ns.Nodup) (hmem : ∀ m, m ≠ n → (m ∈ ns ↔ m ∈ b.lockers))
    (hholder : ∀ j, l.holder = some j ↔ j = k ∧ n ∈ ns) (hother : ∀ j, j ≠ k → n ∉ s.lockersOf j) :
    AgreesBut (some (.locker n)) (s.relisted n l k b ns) where
  linked := by
    have hlist : s.lockersOf k = b.lockers := look_some hb [] Band.lockers
    have hband : (s.setLocker n l).band k = some b := (s.setLocker_band n l k).trans hb
    refine h.linked.relist ((sameReads_of_band (s.setLocker_band n l) (by simp)).trans
      (sameReads_setBand hband rfl rfl rfl rfl rfl)) (fun c _ _ => ?_) (fun m j h1 h2 => ?_) (fun j => ?_) fun j b' hj => ?_
    · exact congrArg Cabin.occupant (by simp [relisted])
    · rw [relisted_lockersOf hb]
      have hread : (s.relisted n l k b ns).holderOf m = (s.setLocker n l).holderOf m :=
        congrArg Locker.holder (setBand_locker ..)
      rw [hread]
      by_cases hm : m = n
      · subst hm
        rw [show (s.setLocker m l).holderOf m = l.holder from congrArg Locker.holder (s.setLocker_locker_self l hn), hholder]
        by_cases hj : j = k
        · subst hj
          rw [Function.update_self]
          exact and_iff_right rfl
        · rw [Function.update_of_ne hj]
          exact ⟨fun h => absurd h.1 hj, fun h => absurd h (hother j hj)⟩
      · rw [setLocker_holderOf_of_ne hm, h.linked.held m j h1 h2]
        by_cases hj : j = k
        · subst hj
          rw [Function.update_self, hlist, hmem m hm]
        · rw [Function.update_of_ne hj]
    · rw [relisted_lockersOf hb]
      by_cases hj : j = k
      · subst hj
        rw [Function.update_self]
        refine ⟨hnodup, fun m hmns => ?_⟩
        by_cases hm : m = n
        · exact hm ▸ hn
        · exact (h.linked.lists j).2 m (hlist ▸ (hmem m hm).1 hmns)
      · rw [Function.update_of_ne hj]
        exact h.linked.lists j
    · by_cases hjk : j = k
      · subst hjk
        rw [relisted, setBand_band_self _ _ (s.slot_of_band hb)] at hj
        exact Option.some.inj hj ▸ hsound
      · rw [relisted_band_of_ne hjk] at hj
        exact h.linked.sound j b' hj
  lockers := fun m h1 h2 hx => by
    unfold LockerFits relisted
    rw [setBand_locker, setBand_configured]
    exact h.lockers_setLocker l m h1 h2 hx
  cabins := fun c h1 h2 hx => by
    unfold CabinFits relisted
    rw [setBand_cabin, setLocker_cabin, setBand_configured, setLocker_configured]
    exact h.cabins c h1 h2 hx

/-- A locker without a holder bound to a band with room. -/
theorem AgreesBut.bind (h : AgreesBut (some (.locker n)) s) (hn : 1 ≤ n ∧ n ≤ 1024) (hfree : (s.locker n).holder = none)
    (hb : s.band k = some b) (hroom : b.lockers.length < b.role.room) (hactive : b.state = .active) (hl : l.holder = some k) :
    AgreesBut (some (.locker n)) (s.relisted n l k b (b.lockers ++ [n])) := by
  have hnot (j : Nat) : n ∉ s.lockersOf j := fun hj =>
    nomatch hfree.symm.trans ((h.linked.held n j hn.1 hn.2).2 hj)
  have hlist : s.lockersOf k = b.lockers := look_some hb [] Band.lockers
  have hsound := h.linked.sound k b hb
  refine h.relist hn hb ⟨?_, hsound.visitor, hsound.reissued, hsound.staff, ?_⟩ ?_ (fun m hm => by simp [hm])
    (fun j => by simp [hl, eq_comm]) fun j _ => hnot j
  · rw [List.length_append]
    exact hroom
  · unfold Band.HoldingFits
    rw [hactive]
    trivial
  · exact List.nodup_append.2 ⟨hlist ▸ (h.linked.lists k).1, List.nodup_singleton n, fun a ha c hc =>
      fun he => hnot k (hlist ▸ (List.mem_singleton.1 hc ▸ he ▸ ha))⟩

end Relist

end State

end Sys2Proof.Machine
end

section
/-! PROOFS. The agreement of the binding tables as lockers are unbound and bound, and cabins occupied and cleared (R38, R39,
R68, R69). -/

namespace Sys2Proof.Machine

namespace State

variable {s t : State} {x : Option Place} {n c k : Nat}

/-! ### A locker unbound -/

/-- A locker unbound from the band that holds it. -/
theorem AgreesBut.unbind {b : Band} {l : Locker} (h : AgreesBut (some (.locker n)) s) (hn : 1 ≤ n ∧ n ≤ 1024)
    (hheld : (s.locker n).holder = some k) (hb : s.band k = some b) (hl : l.holder = none) :
    AgreesBut (some (.locker n)) (s.relisted n l k b (b.lockers.erase n)) := by
  have hlist : s.lockersOf k = b.lockers := look_some hb [] Band.lockers
  have hnodup : b.lockers.Nodup := hlist ▸ (h.linked.lists k).1
  have hsound := h.linked.sound k b hb
  have hnot : n ∉ b.lockers.erase n := fun hm => (hnodup.mem_erase_iff.1 hm).1 rfl
  refine h.relist hn hb ⟨?_, hsound.visitor, hsound.reissued, hsound.staff, ?_⟩ (hnodup.erase n)
    (fun m hm => by rw [hnodup.mem_erase_iff]; exact and_iff_right hm) (fun j => ?_) fun j hj hm => hj ?_
  · exact (List.length_erase_le ..).trans hsound.room
  · have hempty (he : b.lockers = []) : b.lockers.erase n = [] := by rw [he]; rfl
    have hhold := hsound.holding
    unfold Band.HoldingFits at hhold ⊢
    cases hs : b.state with
    | active => trivial
    | owing _ =>
      rw [hs] at hhold
      exact ⟨hempty hhold.1, hhold.2⟩
    | cleared _ =>
      rw [hs] at hhold
      exact ⟨hempty hhold.1, hhold.2⟩
    | revoked =>
      rw [hs] at hhold
      exact ⟨hhold.1, fun hn => ⟨hempty (hhold.2 hn).1, (hhold.2 hn).2⟩⟩
  · rw [hl]
    exact iff_of_false nofun fun he => hnot he.2
  · exact Option.some.inj (((h.linked.held n j hn.1 hn.2).2 hm).symm.trans hheld)

theorem range_of_holder (h : (s.locker n).holder = some k) : 1 ≤ n ∧ n ≤ 1024 := by
  by_contra hn
  rw [s.locker_of_gt (n := n) (by omega)] at h
  cases h

/-- The band that a locker names as its holder lists it. -/
theorem Linked.holder (h : s.Linked) (hheld : (s.locker n).holder = some k) :
    ∃ b, s.band k = some b ∧ n ∈ b.lockers := by
  have hn : 1 ≤ n ∧ n ≤ 1024 := range_of_holder hheld
  exact mem_lockersOf.1 ((h.held n k hn.1 hn.2).1 hheld)

/-- A locker unbound and written without a holder. -/
theorem AgreesBut.unbindSet {l : Locker} (h : AgreesBut (some (.locker n)) s) (hl : l.holder = none) :
    AgreesBut (some (.locker n)) ((s.unbindLocker n).setLocker n l) := by
  cases hheld : (s.locker n).holder with
  | none =>
    rw [unbindLocker_unheld hheld, setLocker_setLocker]
    exact h.setLocker (hl.trans hheld.symm)
  | some k =>
    obtain ⟨b, hb, _⟩ := h.linked.holder hheld
    have heq : (s.unbindLocker n).setLocker n l = s.relisted n l k b (b.lockers.erase n) := by
      rw [unbindLocker_eq, leaveHolder_setLocker, setLocker_setLocker, hheld]
      exact updBand_some _ ((s.setLocker_band n l k).trans hb)
    rw [heq]
    exact h.unbind (range_of_holder hheld) hheld hb hl

@[simp] theorem updBand_configured (s : State) (k : Nat) (f : Band → Band) (a : Nat) :
    (s.updBand k f).configured a = s.configured a := by
  unfold updBand
  split
  · exact setBand_configured ..
  · rfl

theorem unbindLocker_configured (s : State) (n a : Nat) : (s.unbindLocker n).configured a = s.configured a := by
  unfold unbindLocker
  dsimp only
  split
  · exact setLocker_configured ..
  · rw [updBand_configured, setLocker_configured]

/-- A locker unbound and put in a state that needs no holder. -/
theorem AgreesBut.releaseSet {l : Locker} (h : s.Agrees) (hl : l.holder = none)
    (hf : 1 ≤ n → n ≤ 1024 → l.Fits (s.configured (lockerAt n).1)) : ((s.unbindLocker n).setLocker n l).Agrees :=
  ((AgreesBut.but h _).unbindSet hl).closeLocker fun h1 h2 => by
    unfold LockerFits
    rw [setLocker_locker_self _ l ⟨h1, h2⟩, setLocker_configured, unbindLocker_configured]
    exact hf h1 h2

/-! ### One cabin written -/

/-- A cabin written apart from the others' fits. -/
theorem AgreesBut.cabins_setCabin (h : AgreesBut (some (.cabin c)) s) (r : Cabin) (d : Nat) (h1 : 1 ≤ d) (h2 : d ≤ 64)
    (hx : some (Place.cabin c) ≠ some (.cabin d)) : (s.setCabin c r).CabinFits d := by
  unfold CabinFits
  rw [setCabin_cabin_ne s r fun he => hx (congrArg (fun c => some (Place.cabin c)) he), setCabin_configured]
  exact h.cabins d h1 h2 hx

theorem setCabin_occupantOf_of_ne {r : Cabin} {d : Nat} (hd : d ≠ c) : (s.setCabin c r).occupantOf d = s.occupantOf d :=
  congrArg Cabin.occupant (setCabin_cabin_ne s r (Ne.symm hd))

theorem AgreesBut.setCabin {r : Cabin} (h : AgreesBut (some (.cabin c)) s) (hr : r.occupant = (s.cabin c).occupant) :
    AgreesBut (some (.cabin c)) (s.setCabin c r) where
  linked := by
    have hb := s.setCabin_band c r
    refine h.linked.keep (sameReads_of_band hb (by simp)) (look_of_band hb _ _) (fun n _ _ => ?_) (fun d h1 h2 => ?_)
      fun k b hk => h.linked.sound k b (hb k ▸ hk)
    · exact congrArg Locker.holder (s.setCabin_locker c r n)
    · by_cases hd : d = c
      · subst hd
        exact (congrArg Cabin.occupant (s.setCabin_cabin_self r ⟨h1, h2⟩)).trans hr
      · exact setCabin_occupantOf_of_ne hd
  lockers := fun n h1 h2 hx => by
    unfold LockerFits
    rw [setCabin_locker, setCabin_configured]
    exact h.lockers n h1 h2 hx
  cabins := h.cabins_setCabin r

/-- A cabin written with its occupant kept. -/
theorem AgreesBut.putCabin {r : Cabin} (h : s.Agrees) (hr : r.occupant = (s.cabin c).occupant)
    (hf : 1 ≤ c → c ≤ 64 → r.Fits (s.configured (cabinAt c).1)) : (s.setCabin c r).Agrees :=
  ((AgreesBut.but h _).setCabin hr).closeCabin fun h1 h2 => by
    unfold CabinFits
    rw [s.setCabin_cabin_self r ⟨h1, h2⟩, setCabin_configured]
    exact hf h1 h2

/-! ### One cabin and one cabin field written together -/

section Recabin

variable {b : Band} {r : Cabin} {o : Option Nat}

/-- A cabin and the record of its occupant written together. -/
def recabined (s : State) (c : Nat) (r : Cabin) (k : Nat) (b : Band) (o : Option Nat) : State :=
  (s.setCabin c r).setBand k (some { b with cabin := o })

theorem recabined_cabinOf (hb : s.band k = some b) : (s.recabined c r k b o).cabinOf = Function.update s.cabinOf k o := by
  have hlook : (s.setCabin c r).cabinOf = s.cabinOf := look_of_band (s.setCabin_band c r) _ _
  rw [recabined, cabinOf, look_setBand _ (s.slot_of_band hb)]
  exact congrArg (Function.update · k o) hlook

theorem recabined_same {α : Type} (hb : s.band k = some b) {d : α} {v : Band → α} (hv : v { b with cabin := o } = v b) :
    (s.recabined c r k b o).look d v = s.look d v :=
  (look_setBand_same ((s.setCabin_band c r k).trans hb) hv).trans (look_of_band (s.setCabin_band c r) d v)

theorem AgreesBut.recabin (h : AgreesBut (some (.cabin c)) s) (hc : 1 ≤ c ∧ c ≤ 64) (hb : s.band k = some b)
    (hsound : ({ b with cabin := o } : Band).Sound) (hrange : ∀ d, o = some d → d = c)
    (hwas : ∀ d, b.cabin = some d → d = c) (hoccupant : ∀ j, r.occupant = some j ↔ j = k ∧ o = some c)
    (hother : ∀ j, j ≠ k → s.cabinOf j ≠ some c) :
    AgreesBut (some (.cabin c)) (s.recabined c r k b o) where
  linked := by
    have hfield : s.cabinOf k = b.cabin := look_some hb none Band.cabin
    refine ⟨fun n j h1 h2 => ?_, ?_, fun d j h1 h2 => ?_, fun j d hd => ?_, ?_, fun m j => ?_, ?_, ?_, ?_, ?_, fun j b' hj => ?_⟩
    · rw [show (s.recabined c r k b o).lockersOf = s.lockersOf from recabined_same hb rfl,
        show (s.recabined c r k b o).holderOf n = s.holderOf n from congrArg Locker.holder (by simp [recabined])]
      exact h.linked.held n j h1 h2
    · rw [show (s.recabined c r k b o).lockersOf = s.lockersOf from recabined_same hb rfl]
      exact h.linked.lists
    · rw [recabined_cabinOf hb,
        show (s.recabined c r k b o).occupantOf d = (s.setCabin c r).occupantOf d from congrArg Cabin.occupant (setBand_cabin ..)]
      by_cases hd : d = c
      · subst hd
        rw [show (s.setCabin d r).occupantOf d = r.occupant from congrArg Cabin.occupant (s.setCabin_cabin_self r hc),
          hoccupant]
        by_cases hj : j = k
        · subst hj
          rw [Function.update_self]
          exact and_iff_right rfl
        · rw [Function.update_of_ne hj]
          exact ⟨fun h => absurd h.1 hj, fun h => absurd h (hother j hj)⟩
      · rw [setCabin_occupantOf_of_ne hd, h.linked.inside d j h1 h2]
        by_cases hj : j = k
        · subst hj
          rw [Function.update_self, hfield]
          exact ⟨fun h => absurd (hwas d h) hd, fun h => absurd (hrange d h) hd⟩
        · rw [Function.update_of_ne hj]
    · rw [recabined_cabinOf hb] at hd
      by_cases hj : j = k
      · subst hj
        rw [Function.update_self] at hd
        exact hrange d hd ▸ hc
      · rw [Function.update_of_ne hj] at hd
        exact h.linked.cabins j d hd
    · rw [show (s.recabined c r k b o).engine.serialMap = s.engine.serialMap by simp [recabined]]
      exact h.linked.rising
    · rw [slotOf_of_map (show (s.recabined c r k b o).engine.serialMap = s.engine.serialMap by simp [recabined]),
        show (s.recabined c r k b o).markOf = s.markOf from recabined_same hb rfl]
      exact h.linked.serials m j
    · rw [show (s.recabined c r k b o).roleOf = s.roleOf from recabined_same hb rfl]
      exact h.linked.leaders
    · rw [show (s.recabined c r k b o).roleOf = s.roleOf from recabined_same hb rfl]
      exact h.linked.members
    · rw [show (s.recabined c r k b o).prevOf = s.prevOf from recabined_same hb rfl,
        show (s.recabined c r k b o).nextOf = s.nextOf from recabined_same hb rfl]
      exact h.linked.chains
    · rw [show (s.recabined c r k b o).prevOf = s.prevOf from recabined_same hb rfl]
      exact h.linked.short
    · by_cases hjk : j = k
      · subst hjk
        rw [recabined, setBand_band_self _ _ (s.slot_of_band hb)] at hj
        exact Option.some.inj hj ▸ hsound
      · rw [recabined, setBand_band_ne _ _ (Ne.symm hjk), setCabin_band] at hj
        exact h.linked.sound j b' hj
  lockers := fun n h1 h2 hx => by
    unfold LockerFits recabined
    rw [setBand_locker, setCabin_locker, setBand_configured, setCabin_configured]
    exact h.lockers n h1 h2 hx
  cabins := fun d h1 h2 hx => by
    unfold CabinFits recabined
    rw [setBand_cabin, setBand_configured]
    exact h.cabins_setCabin r d h1 h2 hx

theorem cabin_of_gt (s : State) (h : c = 0 ∨ 64 < c) : s.cabin c = Cabin.blank .unfitted 0 := by
  unfold cabin
  split
  · rfl
  · exact tableGet_of_le _ _ (by omega)

theorem range_of_occupant (h : (s.cabin c).occupant = some k) : 1 ≤ c ∧ c ≤ 64 := by
  by_contra hc
  rw [s.cabin_of_gt (c := c) (by omega)] at h
  cases h

/-- The band that a cabin names as its occupant names the cabin. -/
theorem Linked.occupant (h : s.Linked) (hocc : (s.cabin c).occupant = some k) : ∃ b, s.band k = some b ∧ b.cabin = some c := by
  have hc : 1 ≤ c ∧ c ≤ 64 := range_of_occupant hocc
  exact (look_eq_iff (by simp)).1 ((h.inside c k hc.1 hc.2).1 hocc)

/-- A cabin without an occupant taken by a band without a cabin. -/
theorem AgreesBut.occupySet (h : AgreesBut (some (.cabin c)) s) (hc : 1 ≤ c ∧ c ≤ 64) (hfree : (s.cabin c).occupant = none)
    (hb : s.band k = some b) (hcabin : b.cabin = none) (hstate : b.state = .active ∨ ∃ o, b.state = .owing o)
    (hr : r.occupant = some k) : AgreesBut (some (.cabin c)) (s.recabined c r k b (some c)) := by
  have hsound := h.linked.sound k b hb
  refine h.recabin hc hb ⟨hsound.room, hsound.visitor, hsound.reissued, hsound.staff, ?_⟩
    (fun d hd => (Option.some.inj hd).symm) (fun d hd => nomatch hcabin.symm.trans hd) (fun j => by simp [hr, eq_comm])
    fun j _ hj => nomatch hfree.symm.trans ((h.linked.inside c j hc.1 hc.2).2 hj)
  have hhold := hsound.holding
  unfold Band.HoldingFits at hhold ⊢
  obtain hs | ⟨o, hs⟩ := hstate
  · rw [hs]
    trivial
  · rw [hs] at hhold ⊢
    exact hhold

theorem holdingFits_leave {b : Band} (h : b.HoldingFits) : ({ b with cabin := none } : Band).HoldingFits := by
  unfold Band.HoldingFits at h ⊢
  cases hs : b.state with
  | active => trivial
  | owing _ =>
    rw [hs] at h
    exact h
  | cleared _ =>
    rw [hs] at h
    exact ⟨h.1, h.2.1, rfl⟩
  | revoked =>
    rw [hs] at h
    exact ⟨rfl, h.2⟩

/-- A cabin cleared of its occupant and written without one. -/
theorem AgreesBut.clearSet (h : AgreesBut (some (.cabin c)) s) (hr : r.occupant = none) :
    AgreesBut (some (.cabin c)) ((s.clearOccupant c).setCabin c r) := by
  cases hocc : (s.cabin c).occupant with
  | none =>
    have hclear : s.clearOccupant c = s := by
      unfold clearOccupant
      simp only [hocc]
    rw [hclear]
    exact h.setCabin (hr.trans hocc.symm)
  | some k =>
    obtain ⟨b, hb, hcabin⟩ := h.linked.occupant hocc
    have hc : 1 ≤ c ∧ c ≤ 64 := range_of_occupant hocc
    have heq : (s.clearOccupant c).setCabin c r = s.recabined c r k b none := by
      unfold clearOccupant
      simp only [hocc]
      rw [updBand_some _ ((s.setCabin_band c _ k).trans hb), setBand_setCabin, setCabin_setCabin]
      rfl
    have hsound := h.linked.sound k b hb
    rw [heq]
    refine h.recabin hc hb ⟨hsound.room, hsound.visitor, hsound.reissued, hsound.staff, holdingFits_leave hsound.holding⟩
      (fun d hd => nomatch hd) (fun d hd => (Option.some.inj (hcabin.symm.trans hd)).symm)
      (fun j => by rw [hr]; exact iff_of_false nofun fun he => nomatch he.2) fun j hj hm => hj ?_
    exact Option.some.inj (((h.linked.inside c j hc.1 hc.2).2 hm).symm.trans hocc)

end Recabin

end State

end Sys2Proof.Machine
end

section
/-! PROOFS. The agreement of the binding tables under the operations on one locker (Table 3-3, R39, R48 to R54, R132). -/

namespace Sys2Proof.Machine

/-! ### Records that fit -/

/-- The states in which a locker has no holder. -/
def unheldStates : List LockerState := [.unfitted, .free, .orphaned, .outOfService]

/-- The states in which a locker has one. -/
def heldStates : List LockerState := [.reserved, .locked, .released, .opened, .closing]

namespace Locker

variable {l : Locker}

theorem HolderFits.unheld (h : l.HolderFits) (hs : l.state ∈ unheldStates) : l.holder = none := by
  unfold HolderFits at h
  revert hs h
  cases l.state <;> simp [unheldStates]

theorem HolderFits.held (h : l.HolderFits) (hs : l.state ∈ heldStates) : l.holder ≠ none := by
  unfold HolderFits at h
  revert hs h
  cases l.state <;> simp [heldStates]

theorem HolderFits.latching (h : l.HolderFits) (hs : l.state = .latching) : l.holder = none → l.origin = some .forced := by
  unfold HolderFits at h
  rwa [hs] at h

theorem HolderFits.unlatching (h : l.HolderFits) (hs : l.state = .unlatching) : l.holder = none ↔ l.release = true := by
  unfold HolderFits at h
  rwa [hs] at h

theorem holderFits_unheld (hs : l.state ∈ unheldStates) (hh : l.holder = none) : l.HolderFits := by
  unfold HolderFits
  revert hs
  cases l.state <;> simp [unheldStates, hh]

theorem holderFits_held (hs : l.state ∈ heldStates) (hh : l.holder ≠ none) : l.HolderFits := by
  unfold HolderFits
  revert hs
  cases l.state <;> simp [heldStates, hh]

theorem holderFits_open (hs : l.state = .fault ∨ l.state = .forced) : l.HolderFits := by
  unfold HolderFits
  obtain hs | hs := hs <;> rw [hs] <;> trivial

theorem holderFits_latching (hs : l.state = .latching) (hh : l.holder = none → l.origin = some .forced) : l.HolderFits := by
  unfold HolderFits
  rwa [hs]

theorem holderFits_unlatching (hs : l.state = .unlatching) (hh : l.holder = none ↔ l.release = true) : l.HolderFits := by
  unfold HolderFits
  rwa [hs]

/-- The fit reads state, holder, origin and release alone. -/
theorem HolderFits.read (h : l.HolderFits) (d : Door) (e : Latch) : ({ l with door := d, latch := e } : Locker).HolderFits := h

end Locker

namespace State

variable {s t : State} {n : Nat}

/-! ### Operations that the binding tables do not see -/

theorem sameBinding_notify (s : State) (k : NoticeKind) (x : Option Place) (m : Option Nat) :
    SameBinding s (s.notify k x m) := sameBinding_of_engine rfl rfl

theorem sameBinding_handOver (s : State) (items : List HandItem) : SameBinding s (s.handOver items) :=
  sameBinding_of_engine (by rw [handOver_eq]) (by rw [handOver_eq])

theorem sameBinding_queueCommand (s : State) (a pos : Nat) (act : Action) : SameBinding s (s.queueCommand a pos act) :=
  sameBinding_of_engine (by rw [queueCommand_eq]) (by rw [queueCommand_eq])

theorem sameBinding_setModule (s : State) (a : Nat) (m : Module) : SameBinding s (s.setModule a m) :=
  sameBinding_of_engine (by simp) (by simp)

theorem sameBinding_holdOnForce (s : State) (a : Nat) : SameBinding s (s.holdOnForce a) := by
  unfold holdOnForce
  split
  · exact (s.sameBinding_setModule a _).trans (sameBinding_of_engine rfl rfl)
  · exact .refl s

/-! ### What a locker of tables that agree has -/

theorem AgreesBut.holderFits (h : s.Agrees) (n : Nat) : (s.locker n).HolderFits := by
  by_cases hn : 1 ≤ n ∧ n ≤ 1024
  · exact (h.lockers n hn.1 hn.2 nofun).2
  · rw [s.locker_of_gt (by omega)]
    rfl

/-- A locker that is fitted written with its holder kept, in a state its holder fits. -/
theorem AgreesBut.put {l : Locker} (h : s.Agrees) (hs : (s.locker n).state ≠ .unfitted) (hl : l.holder = (s.locker n).holder)
    (hf : l.HolderFits) : (s.setLocker n l).Agrees :=
  h.putLocker hl fun h1 h2 => ⟨fun hc => absurd ((h.lockers n h1 h2 nofun).1 hc) hs, hf⟩

/-- A locker that is fitted unbound, and written in a state that needs no holder. -/
theorem AgreesBut.release {l : Locker} (h : s.Agrees) (hs : (s.locker n).state ≠ .unfitted) (hl : l.holder = none)
    (hf : l.HolderFits) : ((s.unbindLocker n).setLocker n l).Agrees :=
  h.releaseSet hl fun h1 h2 => ⟨fun hc => absurd ((h.lockers n h1 h2 nofun).1 hc) hs, hf⟩

theorem unbindLocker_holder (s : State) (n : Nat) : ((s.unbindLocker n).locker n).holder = none := by
  by_cases hn : 1 ≤ n ∧ n ≤ 1024
  · rw [unbindLocker_locker_self hn]
  · rw [locker_of_gt _ (by omega)]
    rfl

/-! ### A locker entering a state -/

theorem AgreesBut.fields (h : s.Agrees) (n : Nat) (d : Door) (e : Latch) :
    (s.setLocker n { s.locker n with door := d, latch := e }).Agrees :=
  h.putLocker rfl fun h1 h2 => ⟨(h.lockers n h1 h2 nofun).1, (h.lockers n h1 h2 nofun).2⟩

theorem AgreesBut.enterHeld (h : s.Agrees) (hs : (s.locker n).state ≠ .unfitted) (hh : (s.locker n).holder ≠ none)
    {st : LockerState} (hst : st ∈ heldStates) : (s.enterLocker n st).Agrees :=
  h.put hs rfl (Locker.holderFits_held hst hh)

theorem AgreesBut.enterUnheld (h : s.Agrees) (hs : (s.locker n).state ≠ .unfitted) (hh : (s.locker n).holder = none)
    {st : LockerState} (hst : st ∈ unheldStates) : (s.enterLocker n st).Agrees :=
  h.put hs rfl (Locker.holderFits_unheld hst hh)

theorem AgreesBut.enterOpen (h : s.Agrees) (hs : (s.locker n).state ≠ .unfitted) {st : LockerState}
    (hst : st = .fault ∨ st = .forced) : (s.enterLocker n st).Agrees :=
  h.put hs rfl (Locker.holderFits_open hst)

/-- A locker unbound that enters a state without a holder. -/
theorem AgreesBut.releaseEnter (h : s.Agrees) (hs : (s.locker n).state ≠ .unfitted) {st : LockerState}
    (hst : st ∈ unheldStates) : ((s.unbindLocker n).enterLocker n st).Agrees :=
  h.release hs (s.unbindLocker_holder n) (Locker.holderFits_unheld hst (s.unbindLocker_holder n))

theorem AgreesBut.notify {x : Option Place} (h : AgreesBut x s) (k : NoticeKind) (p : Option Place) (m : Option Nat) :
    AgreesBut x (s.notify k p m) := h.frame (s.sameBinding_notify k p m)

theorem AgreesBut.queue {x : Option Place} (h : AgreesBut x s) (a pos : Nat) (act : Action) :
    AgreesBut x (s.queueCommand a pos act) := h.frame (s.sameBinding_queueCommand a pos act)

theorem AgreesBut.latch (h : s.Agrees) (hs : (s.locker n).state ≠ .unfitted)
    (hh : (s.locker n).holder = none → (s.locker n).state = .forced) (fresh : Bool) : (s.latchLocker n fresh).Agrees :=
  (h.put (l := (s.locker n).startLatch fresh) hs rfl
    (Locker.holderFits_latching rfl fun he => congrArg some (hh he))).queue _ _ _

theorem AgreesBut.unlatch (h : s.Agrees) (hs : (s.locker n).state ≠ .unfitted) (master : Bool) {release : Bool}
    (hh : (s.locker n).holder = none ↔ release = true) : (s.unlatchLocker n master release).Agrees :=
  (h.put (l := (s.locker n).startUnlatch master release) hs rfl (Locker.holderFits_unlatching rfl hh)).queue _ _ _

theorem AgreesBut.force (h : s.Agrees) (hs : (s.locker n).state ≠ .unfitted) : (s.forceLocker n).Agrees :=
  ((h.enterOpen hs (.inr rfl)).notify _ _ _).frame (sameBinding_holdOnForce _ _)

/-! ### Door and handle events (R53, R54) -/

theorem state_of_setLocker (s : State) (n : Nat) (d : Door) (e : Latch) :
    ((s.setLocker n { s.locker n with door := d, latch := e }).locker n).state = (s.locker n).state := by
  by_cases hn : 1 ≤ n ∧ n ≤ 1024
  · rw [setLocker_locker_self _ _ hn]
  · rw [locker_of_gt _ (by omega), locker_of_gt _ (by omega)]

theorem agrees_lockerDoorOpen (h : s.Agrees) (n : Nat) : (s.lockerDoorOpen n).Agrees := by
  have hread : (s.setLocker n { s.locker n with door := .opened }).Agrees := h.fields n .opened (s.locker n).latch
  unfold lockerDoorOpen
  dsimp only
  revert hread
  generalize s.setLocker n { s.locker n with door := .opened } = t
  intro ht
  have hf := ht.holderFits n
  split
  next hst => exact ht.enterHeld (by simp [hst]) (hf.held (by simp [hst, heldStates])) (by simp [heldStates])
  next hst => exact ht.enterHeld (by simp [hst]) (hf.held (by simp [hst, heldStates])) (by simp [heldStates])
  next hst => exact ht.force (by simp [hst])
  next hst => exact ht.force (by simp [hst])
  next => exact ht

theorem agrees_lockerDoorClosed (h : s.Agrees) (n : Nat) : (s.lockerDoorClosed n).Agrees := by
  have hread : (s.setLocker n { s.locker n with door := .closed }).Agrees := h.fields n .closed (s.locker n).latch
  unfold lockerDoorClosed
  dsimp only
  revert hread
  generalize s.setLocker n { s.locker n with door := .closed } = t
  intro ht
  split
  next hst =>
    exact ht.enterHeld (by simp [hst]) ((ht.holderFits n).held (by simp [hst, heldStates])) (by simp [heldStates])
  next => exact ht

/-! ### Command outcomes (R48 to R52) -/

theorem AgreesBut.outcome (h : s.Agrees) (n : Nat) (a : Action) (r : CommandResult) : (s.lockerFields n a r).Agrees :=
  h.fields n _ _

theorem agrees_lockerLatchDone (h : s.Agrees) (n : Nat) : (s.lockerLatchDone n).Agrees := by
  have ht := h.outcome n .latch .done
  unfold lockerLatchDone
  dsimp only
  revert ht
  generalize s.lockerFields n .latch .done = t
  intro ht
  split
  next hst =>
    have hs : (t.locker n).state ≠ .unfitted := by simp [hst]
    cases hh : (t.locker n).holder with
    | none => exact ht.enterUnheld hs hh (by simp [unheldStates])
    | some k => exact ht.enterHeld hs (by simp [hh]) (by simp [heldStates])
  next => exact ht

theorem agrees_lockerLatchDoorOpen (h : s.Agrees) (n : Nat) : (s.lockerLatchDoorOpen n).Agrees := by
  have ht := h.outcome n .latch .doorOpen
  unfold lockerLatchDoorOpen
  dsimp only
  revert ht
  generalize s.lockerFields n .latch .doorOpen = t
  intro ht
  split
  next hst =>
    have hs : (t.locker n).state ≠ .unfitted := by simp [hst]
    have horigin := (ht.holderFits n).latching hst
    split
    next => exact ht.releaseEnter hs (by simp [unheldStates])
    next =>
      split
      next ho =>
        exact ht.put hs rfl (Locker.holderFits_held (by simp [Locker.enter, heldStates])
          fun hn => nomatch ho.symm.trans (horigin hn))
      next =>
        split
        next => exact ht.enterOpen hs (.inr rfl)
        next ho => exact ht.enterHeld hs (fun hn => ho (horigin hn)) (by simp [heldStates])
  next => exact ht

theorem agrees_lockerLatchFails (h : s.Agrees) (r : CommandResult) (n : Nat) : (s.lockerLatchFails r n).Agrees := by
  have ht := h.outcome n .latch r
  unfold lockerLatchFails
  dsimp only
  revert ht
  generalize s.lockerFields n .latch r = t
  intro ht
  split
  next hst => exact (ht.enterOpen (by simp [hst]) (.inl rfl)).notify _ _ _
  next => exact ht

theorem agrees_lockerUnlatchDone (h : s.Agrees) (n : Nat) : (s.lockerUnlatchDone n).Agrees := by
  have ht := h.outcome n .unlatch .done
  unfold lockerUnlatchDone
  dsimp only
  revert ht
  generalize s.lockerFields n .unlatch .done = t
  intro ht
  split
  next hst =>
    have hs : (t.locker n).state ≠ .unfitted := by simp [hst]
    split
    next =>
      refine ht.releaseEnter hs ?_
      split <;> simp [unheldStates]
    next hr =>
      have hh : (t.locker n).holder ≠ none := fun hn => hr (((ht.holderFits n).unlatching hst).1 hn)
      split
      · exact ht.enterHeld hs hh (by simp [heldStates])
      · exact ht.enterHeld hs hh (by simp [heldStates])
  next => exact ht

theorem agrees_lockerUnlatchFails (h : s.Agrees) (r : CommandResult) (n : Nat) : (s.lockerUnlatchFails r n).Agrees := by
  have ht := h.outcome n .unlatch r
  unfold lockerUnlatchFails
  dsimp only
  revert ht
  generalize s.lockerFields n .unlatch r = t
  intro ht
  split
  next hst =>
    have hs : (t.locker n).state ≠ .unfitted := by simp [hst]
    let l := { t.locker n with master := false }
    have hset : ((t.setLocker n l).notify .lockerFault (some (.locker n)) (t.holderSerial n)).Agrees :=
      (ht.put (l := l) hs rfl (Locker.holderFits_unlatching hst ((ht.holderFits n).unlatching hst))).notify _ _ _
    have hsame : ((t.setLocker n l).locker n).state = .unlatching ∧ ((t.setLocker n l).locker n).holder = (t.locker n).holder := by
      by_cases hn : 1 ≤ n ∧ n ≤ 1024
      · rw [setLocker_locker_self _ _ hn]
        exact ⟨hst, rfl⟩
      · rw [locker_of_gt t (by omega)] at hst
        cases hst
    have hs' : ((t.setLocker n l).locker n).state ≠ .unfitted := by simp [hsame.1]
    split
    next => exact hset.force hs'
    next =>
      unfold unlatchReturn
      split
      next hh => exact hset.enterHeld hs' (by simpa [hsame.2] using Option.isSome_iff_ne_none.1 hh) (by simp [heldStates])
      next hh =>
        refine hset.enterUnheld hs' (hsame.2.trans (Option.not_isSome_iff_eq_none.1 hh)) ?_
        split <;> simp [unheldStates]
  next => exact ht

end State

end Sys2Proof.Machine
end

section
/-! PROOFS. The agreement of the binding tables as a locker is bound, presented at, read and swept (R42 to R47, R60, R131 to
R134, R142). -/

namespace Sys2Proof.Machine

namespace State

variable {s t : State} {n slot : Nat} {b : Band}

/-! ### The band that becomes holder (R15, R43, R59) -/

theorem Linked.leaderOf (h : s.Linked) {l : Nat} (hb : s.band slot = some b) (hr : b.role = .member l) :
    ∃ lb ms, s.band l = some lb ∧ lb.role = .leader ms ∧ slot ∈ ms := by
  obtain ⟨ms, hms, hmem⟩ := h.members slot l ((look_some hb Role.none Band.role).trans hr)
  obtain ⟨lb, hlb, hrole⟩ := (look_eq_iff (by simp)).1 hms
  exact ⟨lb, ms, hlb, hrole, hmem⟩

/-- The holder-to-be of an ACTIVE band, whose leader is not REVOKED, is ACTIVE and has the room the band's role gives. -/
theorem Linked.holderToBe (h : s.Linked) (hb : s.band slot = some b) (hactive : b.state = .active)
    (hleader : s.leaderRevoked b = false) (hroom : s.heldBy (b.holderSlot slot) < b.role.capacity) :
    ∃ hb, s.band (b.holderSlot slot) = some hb ∧ hb.state = .active ∧ hb.lockers.length < hb.role.room := by
  cases hr : b.role with
  | none =>
    have hslot : b.holderSlot slot = slot := by simp [Band.holderSlot, Band.leaderSlot, hr]
    rw [hslot] at hroom ⊢
    refine ⟨b, hb, hactive, ?_⟩
    simpa [heldBy, hb, hr, Role.capacity, Role.room] using hroom
  | leader ms =>
    have hslot : b.holderSlot slot = slot := by simp [Band.holderSlot, Band.leaderSlot, hr]
    rw [hslot] at hroom ⊢
    refine ⟨b, hb, hactive, ?_⟩
    simpa [heldBy, hb, hr, Role.capacity, Role.room] using hroom
  | member l =>
    have hslot : b.holderSlot slot = l := by simp [Band.holderSlot, Band.leaderSlot, hr]
    obtain ⟨lb, ms, hlb, hlr, hmem⟩ := h.leaderOf hb hr
    rw [hslot] at hroom ⊢
    have hnot : lb.state ≠ .revoked := by
      simpa [leaderRevoked, Band.leaderSlot, hr, hlb] using hleader
    have hmembers : lb.members ≠ [] := by
      simpa [Band.members, hlr] using List.ne_nil_of_mem hmem
    refine ⟨lb, hlb, ?_, ?_⟩
    · have hhold := (h.sound l lb hlb).holding
      unfold Band.HoldingFits at hhold
      cases hs : lb.state with
      | active => rfl
      | revoked => exact absurd hs hnot
      | owing _ =>
        rw [hs] at hhold
        exact absurd hhold.2 hmembers
      | cleared _ =>
        rw [hs] at hhold
        exact absurd hhold.2.1 hmembers
    · simpa [heldBy, hlb, hlr, hr, Role.capacity, Role.room] using hroom

/-! ### A FREE locker bound -/

theorem sameBinding_useZone (s : State) (n : Nat) : SameBinding s (s.useZone n) := by
  unfold useZone
  split
  · exact ⟨by simp, by simp, by simp, by simp, by simp⟩
  · exact .refl s

theorem range_of_free (h : (s.locker n).state = .free) : 1 ≤ n ∧ n ≤ 1024 := by
  by_contra hn
  rw [s.locker_of_gt (by omega)] at h
  cases h

/-- A FREE locker bound to an ACTIVE band with room, and written in a state for a holder. -/
theorem AgreesBut.bindFree {h : Nat} {hb : Band} {l : Locker} (hs : s.Agrees) (hfree : (s.locker n).state = .free)
    (hband : s.band h = some hb) (hactive : hb.state = .active) (hroom : hb.lockers.length < hb.role.room)
    (hl : l.holder = some h) (hf : l.HolderFits) :
    (s.relisted n l h hb (hb.lockers ++ [n])).Agrees := by
  have hn := range_of_free hfree
  have hnone := (hs.holderFits n).unheld (by simp [hfree, unheldStates])
  refine ((AgreesBut.but hs _).bind hn hnone hband hroom hactive hl).closeLocker fun h1 h2 => ?_
  unfold LockerFits relisted
  rw [setBand_locker, s.setLocker_locker_self l hn, setBand_configured, setLocker_configured]
  exact ⟨fun hc => (nomatch hfree.symm.trans ((hs.lockers n h1 h2 nofun).1 hc)), hf⟩

theorem agrees_reserve {h : Nat} {hb : Band} (hs : s.Agrees) (hfree : (s.locker n).state = .free) (hband : s.band h = some hb)
    (hactive : hb.state = .active) (hroom : hb.lockers.length < hb.role.room) : (s.reserve n h).Agrees := by
  rw [reserve_eq (range_of_free hfree) hband]
  exact (hs.bindFree hfree hband hactive hroom rfl (Locker.holderFits_held (by simp [heldStates]) (by simp))).frame
    (sameBinding_useZone _ n)

theorem agrees_bindFresh {h : Nat} {hb : Band} (hs : s.Agrees) (hfree : (s.locker n).state = .free) (hband : s.band h = some hb)
    (hactive : hb.state = .active) (hroom : hb.lockers.length < hb.role.room) : (s.bindFresh n h).Agrees := by
  have hn := range_of_free hfree
  have hnone := (hs.holderFits n).unheld (by simp [hfree, unheldStates])
  let l : Locker := { s.locker n with holder := some h }
  have hbound : AgreesBut (some (.locker n)) ((s.bindLocker n h).useZone n) := by
    rw [bindLocker_of_band n hband]
    exact ((AgreesBut.but hs _).bind (l := l) hn hnone hband hroom hactive rfl).frame (sameBinding_useZone _ n)
  have hlocker : ((s.bindLocker n h).useZone n).locker n = l := by
    rw [(sameBinding_useZone _ n).locker, bindLocker_of_band n hband, setBand_locker, s.setLocker_locker_self _ hn]
  refine ((hbound.setLocker (l := (((s.bindLocker n h).useZone n).locker n).startLatch true) rfl).closeLocker
    fun h1 h2 => ?_).queue _ _ _
  unfold LockerFits
  rw [setLocker_locker_self _ _ hn, setLocker_configured, (sameBinding_useZone _ n).configured, bindLocker_of_band n hband,
    setBand_configured, setLocker_configured, ← bindLocker_of_band n hband, hlocker]
  exact ⟨fun hc => (nomatch hfree.symm.trans ((hs.lockers n h1 h2 nofun).1 hc)),
    Locker.holderFits_latching rfl fun he => (nomatch he)⟩

/-! ### A presentation (R42 to R47) -/

theorem agrees_ifRoom {f : State → State} (h : s.Agrees) (hf : (f s).Agrees) : (s.ifRoom f).1.Agrees := by
  unfold ifRoom
  split
  · exact h
  · exact hf

theorem AgreesBut.master (h : s.Agrees) (hs : (s.locker n).state ≠ .unfitted) {release : Bool} (b : Band)
    (hh : (s.locker n).holder = none ↔ release = true) : (masterOpen n release b s).Agrees :=
  (h.unlatch hs true hh).notify _ _ _

/-- The record a presentation is decided for, but for its last_place. -/
def Presents (s : State) (slot : Nat) (b : Band) : Prop := ∃ lp, s.band slot = some { b with lastPlace := lp }

theorem agrees_presentFree (h : s.Agrees) (hb : s.Presents slot b) (hfree : (s.locker n).state = .free) :
    (s.presentFree n slot b).1.Agrees := by
  obtain ⟨lp, hb⟩ := hb
  unfold presentFree
  split
  · exact h
  split
  · exact h
  split
  · exact h
  next hactive =>
    split
    · exact h
    next hleader =>
      split
      · exact h
      next hfull =>
        split
        · exact h
        next =>
          obtain ⟨hb', hband, hst, hroom⟩ := h.linked.holderToBe hb (by simpa using hactive)
            (eq_false_of_ne_true hleader) (Nat.lt_of_not_le fun hle => hfull (decide_eq_true hle))
          exact agrees_ifRoom h (agrees_bindFresh h hfree hband hst hroom)

theorem agrees_presentLocker (h : s.Agrees) (hb : s.Presents slot b) (n : Nat) : (s.presentLocker n slot b).1.Agrees := by
  have hf := h.holderFits n
  have relatch (hst : (s.locker n).state ∈ heldStates) (fresh : Bool) :
      (s.ifRoom fun t => t.latchLocker n fresh).1.Agrees :=
    agrees_ifRoom h (h.latch (fun he => absurd (he ▸ hst) (by decide)) (fun hn => absurd hn (hf.held hst)) fresh)
  unfold presentLocker
  dsimp only
  split
  next hst => exact agrees_presentFree h hb hst
  next => exact h
  next => exact h
  next hst =>
    split
    · split
      · exact h
      · exact relatch (by simp [hst, heldStates]) false
    · exact h
  next hst =>
    have hs : (s.locker n).state ≠ .unfitted := by simp [hst]
    have hh : (s.locker n).holder = none ↔ false = true := iff_of_false (hf.held (by simp [hst, heldStates])) (by simp)
    split
    · exact agrees_ifRoom h (h.unlatch hs false hh)
    · exact agrees_ifRoom h (h.master hs b hh)
    · exact h
  next hst =>
    split
    · exact relatch (by simp [hst, heldStates]) false
    · exact h
  next hst =>
    split
    · exact relatch (by simp [hst, heldStates]) false
    · exact h
  next => split <;> exact h
  next => split <;> exact h
  next hst =>
    split
    · exact h
    · exact agrees_ifRoom h (h.master (by simp [hst]) b (by simp))
    · exact h
  next hst =>
    split
    · exact agrees_ifRoom h (h.master (by simp [hst]) b (by simp [hf.unheld (by simp [hst, unheldStates])]))
    · exact h
  next => exact h
  next => exact h

/-! ### A reading (Tables 6-3 and 6-4) -/

theorem AgreesBut.fault (h : s.Agrees) (hs : (s.locker n).state ≠ .unfitted) : (s.faultLocker n).Agrees :=
  (h.enterOpen hs (.inl rfl)).notify _ _ _

theorem agrees_freeEngaged (h : s.Agrees) (hst : (s.locker n).state = .free) (cold : Bool) : (s.freeEngaged n cold).Agrees := by
  have hs : (s.locker n).state ≠ .unfitted := by simp [hst]
  have hnone := (h.holderFits n).unheld (by simp [hst, unheldStates])
  have horphaned := h.enterUnheld hs hnone (st := .orphaned) (by simp [unheldStates])
  unfold freeEngaged
  split
  · exact horphaned.notify _ _ _
  · split
    · exact horphaned.notify _ _ _
    · exact h.unlatch hs false (by simp [hnone])

theorem agrees_settledLocker (h : s.Agrees) (n : Nat) (r : Reading) (cold : Bool) : (s.settledLocker n r cold).Agrees := by
  have hf := h.holderFits n
  have move (hst : (s.locker n).state ∈ heldStates) {st : LockerState} (hto : st ∈ heldStates) : (s.enterLocker n st).Agrees :=
    h.enterHeld (fun he => absurd (he ▸ hst) (by decide)) (hf.held hst) hto
  have engaged (hst : (s.locker n).state ∈ heldStates) :
      (if r.doorOpen then s.faultLocker n else s.enterLocker n .locked).Agrees := by
    split
    · exact h.fault fun he => absurd (he ▸ hst) (by decide)
    · exact move hst (by simp [heldStates])
  unfold settledLocker
  split
  next hst =>
    split
    · exact h.fault (by simp [hst])
    · split
      · exact h.force (by simp [hst])
      · exact h
  next hst =>
    split
    · exact h.enterUnheld (by simp [hst]) (hf.unheld (by simp [hst, unheldStates])) (by simp [unheldStates])
    · split
      · exact h.force (by simp [hst])
      · exact h
  next hst =>
    split
    · exact agrees_freeEngaged h hst cold
    · exact h
  next hst =>
    split
    · split
      · exact h.notify _ _ _
      · exact h.unlatch (by simp [hst]) false (by simp [hf.unheld (by simp [hst, unheldStates])])
    · exact h
  next hst =>
    split
    · exact engaged (by simp [hst, heldStates])
    · exact h
  next hst =>
    split
    · exact engaged (by simp [hst, heldStates])
    · split
      · exact move (by simp [hst, heldStates]) (by simp [heldStates])
      · exact h
  next hst =>
    split
    · exact engaged (by simp [hst, heldStates])
    · split
      · exact h
      · exact move (by simp [hst, heldStates]) (by simp [heldStates])
  next hst =>
    split
    · exact engaged (by simp [hst, heldStates])
    · split
      · exact move (by simp [hst, heldStates]) (by simp [heldStates])
      · exact h
  all_goals exact h

theorem agrees_lostLatch (h : s.Agrees) (hst : (s.locker n).state = .latching) (r : Reading) : (s.lostLatch n r).Agrees := by
  have hs : (s.locker n).state ≠ .unfitted := by simp [hst]
  have horigin := (h.holderFits n).latching hst
  unfold lostLatch
  dsimp only
  split
  · split
    next hh => exact h.enterHeld hs (Option.isSome_iff_ne_none.1 hh) (by simp [heldStates])
    next hh => exact h.enterUnheld hs (Option.not_isSome_iff_eq_none.1 hh) (by simp [unheldStates])
  · split
    next ho =>
      exact h.put hs rfl (Locker.holderFits_held (by simp [Locker.enter, heldStates])
        fun hn => nomatch ho.symm.trans (horigin hn))
    next =>
      split
      next hh => exact h.enterUnheld hs (Option.isNone_iff_eq_none.1 hh) (by simp [unheldStates])
      next hh =>
        refine h.put hs rfl (Locker.holderFits_held ?_ fun hn => hh (Option.isNone_iff_eq_none.2 hn))
        change freeState r ∈ heldStates
        unfold freeState
        split <;> simp [heldStates]

theorem agrees_lostUnlatch (h : s.Agrees) (hst : (s.locker n).state = .unlatching) (r : Reading) : (s.lostUnlatch n r).Agrees := by
  have hs : (s.locker n).state ≠ .unfitted := by simp [hst]
  have hrelease := (h.holderFits n).unlatching hst
  have unheld (p : Prop) [Decidable p] {a b : LockerState} (ha : a ∈ unheldStates) (hb : b ∈ unheldStates) :
      (if p then a else b) ∈ unheldStates := by
    split <;> assumption
  unfold lostUnlatch
  dsimp only
  split
  next hr =>
    split
    next =>
      unfold resumeRelease
      split
      · exact (h.enterUnheld hs (hrelease.2 hr) (unheld _ (by simp [unheldStates]) (by simp [unheldStates]))).notify _ _ _
      · exact h.queue _ _ _
    next =>
      exact h.release hs (s.unbindLocker_holder n)
        (Locker.holderFits_unheld (unheld _ (by simp [unheldStates]) (by simp [unheldStates])) (s.unbindLocker_holder n))
  next hr =>
    have hh : (s.locker n).holder ≠ none := fun hn => hr (hrelease.1 hn)
    have hsome := Option.isSome_iff_ne_none.2 hh
    simp only [hsome, if_true]
    split
    · exact h.enterHeld hs hh (by simp [heldStates])
    · refine h.enterHeld hs hh ?_
      unfold freeState
      split <;> simp [heldStates]

theorem agrees_reconcileLocker (h : s.Agrees) (n : Nat) (r : Reading) (cold marked : Bool) :
    (s.reconcileLocker n r cold marked).Agrees := by
  have ht := h.fields n r.door r.latch
  unfold reconcileLocker
  dsimp only
  revert ht
  generalize s.setLocker n { s.locker n with door := r.door, latch := r.latch } = t
  intro ht
  split
  next hst =>
    split
    · exact ht
    · exact agrees_lostLatch ht hst r
  next hst =>
    split
    · exact ht
    · exact agrees_lostUnlatch ht hst r
  next => exact agrees_settledLocker ht n r cold

/-! ### A step of the sweep (R142) -/

theorem agrees_sweepLocker (h : s.Agrees) (n : Nat) : (s.sweepLocker n).Agrees := by
  have relatch (hst : (s.locker n).state ∈ heldStates) : (s.relatch n).Agrees := by
    unfold State.relatch
    split
    · exact h
    · exact h.latch (fun he => absurd (he ▸ hst) (by decide)) (fun hn => absurd hn ((h.holderFits n).held hst)) _
  unfold sweepLocker
  dsimp only
  split
  next hst =>
    split
    · exact relatch (by simp [hst, heldStates])
    · exact h
  next hst =>
    split
    · split
      · exact relatch (by simp [hst, heldStates])
      · exact h.releaseEnter (by simp [hst]) (by simp [unheldStates])
    · exact h
  next hst =>
    split
    · exact (h.releaseEnter (by simp [hst]) (by simp [unheldStates])).notify _ _ _
    · exact h
  next => exact h

end State

end Sys2Proof.Machine
end

section
/-! PROOFS. The agreement of the binding tables under the operations on one cabin (Table 4-2, R68, R69, R72 to R83, R143). -/

namespace Sys2Proof.Machine

/-! ### Records that fit -/

/-- The states in which a cabin has no occupant. -/
def emptyStates : List CabinState := [.unfitted, .vacant, .outOfService]

/-- The states in which a cabin has one. -/
def takenStates : List CabinState := [.latching, .occupied]

namespace Cabin

variable {r : Cabin}

theorem OccupantFits.empty (h : r.OccupantFits) (hs : r.state ∈ emptyStates) : r.occupant = none := by
  unfold OccupantFits at h
  revert hs h
  cases r.state <;> simp [emptyStates]

theorem OccupantFits.taken (h : r.OccupantFits) (hs : r.state ∈ takenStates) : r.occupant ≠ none := by
  unfold OccupantFits at h
  revert hs h
  cases r.state <;> simp [takenStates]

theorem occupantFits_empty (hs : r.state ∈ emptyStates) (hr : r.occupant = none) : r.OccupantFits := by
  unfold OccupantFits
  revert hs
  cases r.state <;> simp [emptyStates, hr]

theorem occupantFits_taken (hs : r.state ∈ takenStates) (hr : r.occupant ≠ none) : r.OccupantFits := by
  unfold OccupantFits
  revert hs
  cases r.state <;> simp [takenStates, hr]

theorem occupantFits_unlatching (hs : r.state = .unlatching) : r.OccupantFits := by
  unfold OccupantFits
  rw [hs]
  trivial

end Cabin

namespace State

variable {s t : State} {c slot : Nat} {b : Band}

/-! ### What a cabin of tables that agree has -/

theorem AgreesBut.occupantFits (h : s.Agrees) (c : Nat) : (s.cabin c).OccupantFits := by
  by_cases hc : 1 ≤ c ∧ c ≤ 64
  · exact (h.cabins c hc.1 hc.2 nofun).2
  · rw [s.cabin_of_gt (by omega)]
    rfl

/-- A cabin that is fitted written with its occupant kept, in a state its occupant fits. -/
theorem AgreesBut.place {r : Cabin} (h : s.Agrees) (hs : (s.cabin c).state ≠ .unfitted) (hr : r.occupant = (s.cabin c).occupant)
    (hf : r.OccupantFits) : (s.setCabin c r).Agrees :=
  h.putCabin hr fun h1 h2 => ⟨fun hc => absurd ((h.cabins c h1 h2 nofun).1 hc) hs, hf⟩

/-- A cabin's fields written, its state and occupant kept. -/
theorem AgreesBut.touch {r : Cabin} (h : s.Agrees) (hst : r.state = (s.cabin c).state)
    (hr : r.occupant = (s.cabin c).occupant) : (s.setCabin c r).Agrees :=
  h.putCabin hr fun h1 h2 => by
    obtain ⟨hconf, hfits⟩ := h.cabins c h1 h2 nofun
    refine ⟨fun hc => hst.trans (hconf hc), ?_⟩
    unfold Cabin.OccupantFits at hfits ⊢
    rwa [hst, hr]

/-! ### A cabin unlatched and cleared -/

theorem clearOccupant_cabin (s : State) (c : Nat) : (s.clearOccupant c).cabin c = { s.cabin c with occupant := none } := by
  by_cases hc : 1 ≤ c ∧ c ≤ 64
  · rw [clearOccupant_eq, leaveCabin_cabin, setCabin_cabin_self _ _ hc]
  · rw [cabin_of_gt _ (by omega), cabin_of_gt _ (by omega)]
    rfl

theorem clearOccupant_configured (s : State) (c a : Nat) : (s.clearOccupant c).configured a = s.configured a := by
  unfold clearOccupant
  dsimp only
  split
  · rfl
  · rw [updBand_configured, setCabin_configured]

/-- A cabin that is fitted cleared, and written in a state that fits no occupant. -/
theorem AgreesBut.clear {r : Cabin} (h : s.Agrees) (hs : (s.cabin c).state ≠ .unfitted) (hr : r.occupant = none)
    (hf : r.OccupantFits) : ((s.clearOccupant c).setCabin c r).Agrees :=
  ((AgreesBut.but h _).clearSet hr).closeCabin fun h1 h2 => by
    unfold CabinFits
    rw [setCabin_cabin_self _ _ ⟨h1, h2⟩, setCabin_configured, clearOccupant_configured]
    exact ⟨fun hc => absurd ((h.cabins c h1 h2 nofun).1 hc) hs, hf⟩

theorem AgreesBut.vacated (h : s.Agrees) (hs : (s.cabin c).state ≠ .unfitted) : (s.vacate c).Agrees := by
  have hnone : ((s.clearOccupant c).cabin c).occupant = none := by rw [clearOccupant_cabin]
  exact h.clear (r := ((s.clearOccupant c).cabin c).enter .vacant s.now) hs hnone
    (Cabin.occupantFits_empty (by simp [Cabin.enter, emptyStates]) hnone)

/-- A command queued for a cabin writes its command field, which no fit reads. -/
theorem AgreesBut.queueCabin (h : s.Agrees) (c : Nat) (a : Action) : (s.queueCabin c a).Agrees :=
  (h.touch (r := { s.cabin c with command := some a }) rfl rfl).queue _ _ _

theorem AgreesBut.unlatchCabin (h : s.Agrees) (hs : (s.cabin c).state ≠ .unfitted) : (s.unlatchCabin c).Agrees :=
  (h.place (r := { s.cabin c with state := .unlatching }) hs rfl (Cabin.occupantFits_unlatching rfl)).queueCabin c _

theorem AgreesBut.forceCabin (h : s.Agrees) (hs : (s.cabin c).state ≠ .unfitted) : (s.forceCabin c).Agrees :=
  ((h.vacated hs).notify _ _ _).frame (sameBinding_holdOnForce _ _)

/-! ### A cabin entered (R72) -/

theorem agrees_enterCabin (h : s.Agrees) (hvacant : (s.cabin c).state = .vacant) (hb : s.band slot = some b)
    (hcabin : b.cabin = none) (hstate : b.state = .active ∨ ∃ o, b.state = .owing o) : (s.enterCabin c slot).Agrees := by
  have hc : 1 ≤ c ∧ c ≤ 64 := by
    by_contra hc
    rw [s.cabin_of_gt (by omega)] at hvacant
    cases hvacant
  have hnone := (h.occupantFits c).empty (by simp [hvacant, emptyStates])
  let r : Cabin := { s.cabin c with occupant := some slot }
  have hoccupied : s.occupy c slot = s.recabined c r slot b (some c) :=
    updBand_some _ ((s.setCabin_band c r slot).trans hb)
  have hheld : AgreesBut (some (.cabin c)) (s.occupy c slot) :=
    hoccupied ▸ (AgreesBut.but h _).occupySet hc hnone hb hcabin hstate rfl
  have hread : (s.occupy c slot).cabin c = r := by
    rw [hoccupied, recabined, setBand_cabin, s.setCabin_cabin_self r hc]
  have hconf (a : Nat) : (s.occupy c slot).configured a = s.configured a := by
    rw [hoccupied, recabined, setBand_configured, setCabin_configured]
  unfold enterCabin
  refine AgreesBut.queueCabin ((hheld.setCabin (r := { (s.occupy c slot).cabin c with state := .latching }) rfl).closeCabin
    fun h1 h2 => ?_) c .latch
  unfold CabinFits
  rw [setCabin_cabin_self _ _ hc, setCabin_configured, hconf, hread]
  exact ⟨fun hc => (nomatch hvacant.symm.trans ((h.cabins c h1 h2 nofun).1 hc)),
    Cabin.occupantFits_taken (by simp [takenStates]) (by simp [r])⟩

/-- A presentation at a cabin (R72, Table 4-4): the band is not REVOKED when the cabin is reached (R6). -/
theorem agrees_presentCabin (h : s.Agrees) (hb : s.Presents slot b) (hrevoked : b.state ≠ .revoked) (c : Nat) :
    (s.presentCabin c slot b).1.Agrees := by
  obtain ⟨lp, hb⟩ := hb
  unfold presentCabin
  dsimp only
  split
  next hst =>
    split
    · unfold presentVacant
      split
      · exact h
      split
      · exact h
      next hcleared =>
        split
        · exact h
        next hcabin =>
          split
          · exact h
          · refine agrees_ifRoom h (agrees_enterCabin h hst hb (Option.not_isSome_iff_eq_none.1 hcabin) ?_)
            change b.state = .active ∨ ∃ o, b.state = .owing o
            cases hs : b.state with
            | active => exact .inl rfl
            | owing o => exact .inr ⟨o, rfl⟩
            | revoked => exact absurd hs hrevoked
            | cleared _ => exact absurd (by simp [isClearedBand, hs]) hcleared
    · exact h
  next hst =>
    split
    · exact agrees_ifRoom h (h.unlatchCabin (by simp [hst]))
    · exact h
  all_goals exact h

/-! ### Handle and door events (R77, R78) -/

theorem state_of_setCabin {r : Cabin} (hr : r.state = (s.cabin c).state) :
    ((s.setCabin c r).cabin c).state = (s.cabin c).state := by
  by_cases hc : 1 ≤ c ∧ c ≤ 64
  · rw [setCabin_cabin_self _ _ hc, hr]
  · rw [cabin_of_gt _ (by omega), cabin_of_gt _ (by omega)]

theorem agrees_cabinHandle (h : s.Agrees) (c : Nat) : (s.cabinHandle c).Agrees := by
  have ht : (s.setCabin c { s.cabin c with latch := .free }).Agrees := h.touch rfl rfl
  unfold cabinHandle
  dsimp only
  split
  next hst => exact ht.vacated (by simp [hst])
  next hst => exact ht.vacated (by simp [hst])
  next hst => exact ht.vacated (by simp [hst])
  next => exact ht

theorem agrees_cabinDoorOpen (h : s.Agrees) (c : Nat) : (s.cabinDoorOpen c).Agrees := by
  have ht : (s.setCabin c { s.cabin c with door := .opened }).Agrees := h.touch rfl rfl
  unfold cabinDoorOpen
  dsimp only
  split
  next hst => exact ht.forceCabin (by simp [hst])
  next => exact ht

theorem agrees_cabinDoorClosed (h : s.Agrees) (c : Nat) : (s.cabinDoorClosed c).Agrees := h.touch rfl rfl

/-! ### Command outcomes (R74 to R76) -/

theorem AgreesBut.cabinOutcome (h : s.Agrees) (c : Nat) (a : Action) (r : CommandResult) : (s.cabinFields c a r).Agrees :=
  h.touch rfl rfl

theorem agrees_correctLatch (h : s.Agrees) (hs : (s.cabin c).state ≠ .unfitted) : (s.correctLatch c).Agrees := by
  unfold correctLatch
  split
  · exact h.notify _ _ _
  · exact h.unlatchCabin hs

theorem agrees_cabinLatchDone (h : s.Agrees) (c : Nat) : (s.cabinLatchDone c).Agrees := by
  have ht := h.cabinOutcome c .latch .done
  unfold cabinLatchDone
  dsimp only
  revert ht
  generalize s.cabinFields c .latch .done = t
  intro ht
  split
  next hst =>
    exact ht.place (by simp [hst]) rfl
      (Cabin.occupantFits_taken (by simp [Cabin.enter, takenStates]) ((ht.occupantFits c).taken (by simp [hst, takenStates])))
  next hst => exact agrees_correctLatch ht (by simp [hst])
  next => exact ht

theorem agrees_cabinLatchDoorOpen (h : s.Agrees) (c : Nat) : (s.cabinLatchDoorOpen c).Agrees := by
  have ht := h.cabinOutcome c .latch .doorOpen
  unfold cabinLatchDoorOpen
  dsimp only
  split
  next hst => exact ht.vacated (by simp [hst])
  next => exact ht

theorem agrees_cabinLatchFails (h : s.Agrees) (r : CommandResult) (c : Nat) : (s.cabinLatchFails r c).Agrees := by
  have ht := h.cabinOutcome c .latch r
  unfold cabinLatchFails
  dsimp only
  split
  next hst => exact (ht.vacated (by simp [hst])).notify _ _ _
  next => exact ht
  next => exact ht.notify _ _ _

theorem agrees_cabinUnlatchDone (h : s.Agrees) (c : Nat) : (s.cabinUnlatchDone c).Agrees := by
  have ht := h.cabinOutcome c .unlatch .done
  unfold cabinUnlatchDone
  dsimp only
  split
  next hst => exact ht.vacated (by simp [hst])
  next => exact ht

theorem agrees_cabinUnlatchFails (h : s.Agrees) (r : CommandResult) (c : Nat) : (s.cabinUnlatchFails r c).Agrees := by
  have ht := h.cabinOutcome c .unlatch r
  unfold cabinUnlatchFails
  dsimp only
  revert ht
  generalize s.cabinFields c .unlatch r = t
  intro ht
  split
  next hst =>
    have hs : (t.cabin c).state ≠ .unfitted := by simp [hst]
    refine AgreesBut.notify ?_ _ _ _
    split
    next hback =>
      have hocc := Option.isSome_iff_ne_none.1 (Bool.and_eq_true_iff.1 hback).2
      exact ht.place hs rfl (Cabin.occupantFits_taken (by simp [takenStates]) hocc)
    next => exact ht.vacated hs
  next => exact ht

/-! ### A reading (Table 4-5) -/

theorem agrees_freeCabin (h : s.Agrees) (hs : (s.cabin c).state ≠ .unfitted) : (s.freeCabin c).Agrees := by
  unfold freeCabin
  split
  · refine AgreesBut.notify ?_ _ _ _
    split
    · exact h
    · exact h.vacated hs
  · exact h.unlatchCabin hs

theorem agrees_reconcileCabin (h : s.Agrees) (c : Nat) (r : Reading) : (s.reconcileCabin c r).Agrees := by
  have ht : (s.setCabin c { s.cabin c with door := r.door, latch := r.latch }).Agrees := h.touch rfl rfl
  unfold reconcileCabin
  dsimp only
  revert ht
  generalize s.setCabin c { s.cabin c with door := r.door, latch := r.latch } = t
  intro ht
  split
  next hst =>
    split
    · exact (ht.vacated (by simp [hst])).notify _ _ _
    · split
      · exact ht.forceCabin (by simp [hst])
      · exact ht
  next hst =>
    split
    · exact ht
    · split
      · exact ht.place (by simp [hst]) rfl (Cabin.occupantFits_taken (by simp [Cabin.enter, takenStates])
          ((ht.occupantFits c).taken (by simp [hst, takenStates])))
      · exact ht.vacated (by simp [hst])
  next hst =>
    split
    · exact ht
    · split
      · exact ht.vacated (by simp [hst])
      · split
        next hocc =>
          exact ht.place (by simp [hst]) rfl
            (Cabin.occupantFits_taken (by simp [takenStates]) (Option.isSome_iff_ne_none.1 hocc))
        next => exact agrees_freeCabin ht (by simp [hst])
  next hst =>
    split
    · exact agrees_freeCabin ht (by simp [hst])
    · exact ht
  all_goals exact ht

/-! ### A step of the sweep (R143) -/

theorem agrees_sweepCabin (h : s.Agrees) (c : Nat) : (s.sweepCabin c).Agrees := by
  have first {u : State} (hu : u.Agrees) : (u.overholdFirst c).Agrees := by
    unfold overholdFirst
    dsimp only
    split
    · exact AgreesBut.notify (hu.touch (r := { u.cabin c with stage := 1 }) rfl rfl) _ _ _
    · exact hu
  have second {u : State} (hu : u.Agrees) : (u.overholdSecond c).Agrees := by
    unfold overholdSecond
    dsimp only
    split
    · exact AgreesBut.notify (hu.touch (r := { u.cabin c with stage := 2 }) rfl rfl) _ _ _
    · exact hu
  unfold sweepCabin
  split
  · exact second (first h)
  · exact h

end State

end Sys2Proof.Machine
end

section
/-! PROOFS. The agreement of the binding tables as one record changes: account, state and last_place (R6, R94 to R105, R144). -/

namespace Sys2Proof.Machine

/-! ### Records that stay sound -/

section Sound

variable {b b' : Band}

/-- A record changed in what no other table reads, its holdings fitting its state. -/
theorem Band.Sound.change (h : b.Sound) (hlockers : b'.lockers = b.lockers) (hrole : b'.role = b.role)
    (hprev : b'.previous = b.previous) (hnext : b'.next = b.next) (hvisitor : b'.isVisitor = b.isVisitor)
    (hrevoked : b.state = .revoked → b'.state = .revoked) (hhold : b'.HoldingFits) : b'.Sound where
  room := by
    rw [hlockers, hrole]
    exact h.room
  visitor := by
    rw [hrole, hvisitor]
    exact h.visitor
  reissued := by
    rw [hnext]
    exact fun hn => hrevoked (h.reissued hn)
  staff := fun hk => by
    have hstaff : b.kind = .staff := by
      have hnot : b.isVisitor = false := by
        rw [← hvisitor, Band.isVisitor, hk]
      unfold Band.isVisitor at hnot
      split at hnot
      · cases hnot
      · assumption
    rw [hprev, hnext]
    exact h.staff hstaff
  holding := hhold

/-- Holdings that fit read state, cabin, lockers, role and next alone. -/
theorem Band.HoldingFits.change (h : b.HoldingFits) (hstate : b'.state = b.state) (hcabin : b'.cabin = b.cabin)
    (hlockers : b'.lockers = b.lockers) (hrole : b'.role = b.role) (hnext : b'.next = b.next) : b'.HoldingFits := by
  have hmembers : b'.members = b.members := by unfold Band.members; rw [hrole]
  unfold Band.HoldingFits at h ⊢
  rwa [hstate, hcabin, hlockers, hrole, hnext, hmembers]

theorem Band.holdingFits_active (h : b.state = .active) : b.HoldingFits := by
  unfold Band.HoldingFits
  rw [h]
  trivial

theorem Band.holdingFits_cleared {t : Nat} (h : b.state = .cleared t) (hl : b.lockers = []) (hm : b.members = [])
    (hc : b.cabin = none) : b.HoldingFits := by
  unfold Band.HoldingFits
  rw [h]
  exact ⟨hl, hm, hc⟩

theorem Band.holdingFits_owing {o : Nat} (h : b.state = .owing o) (hl : b.lockers = []) (hm : b.members = []) :
    b.HoldingFits := by
  unfold Band.HoldingFits
  rw [h]
  exact ⟨hl, hm⟩

theorem Band.HoldingFits.owing {o : Nat} (h : b.HoldingFits) (hs : b.state = .owing o) : b.lockers = [] ∧ b.members = [] := by
  unfold Band.HoldingFits at h
  rwa [hs] at h

/-- No holdings, as SETTLE checks them (R95). -/
theorem Band.holdings_none (h : b.holdings = none) : b.cabin = none ∧ b.members = [] ∧ b.lockers = [] := by
  unfold Band.holdings at h
  split at h
  · cases h
  next hc =>
    split at h
    · cases h
    next hm =>
      split at h
      · cases h
      next hl => exact ⟨Option.not_isSome_iff_eq_none.1 hc, by simpa using hm, by simpa using hl⟩

end Sound

namespace State

variable {s : State} {k : Nat} {b b' : Band}

theorem AgreesBut.record {x : Option Place} (h : AgreesBut x s) (hb : s.band k = some b) (hlockers : b'.lockers = b.lockers)
    (hcabin : b'.cabin = b.cabin) (hserial : b'.serial = b.serial) (hrole : b'.role = b.role)
    (hprev : b'.previous = b.previous) (hnext : b'.next = b.next) (hsound : b'.Sound) :
    AgreesBut x (s.setBand k (some b')) where
  linked := by
    refine h.linked.keep (sameReads_setBand hb hcabin hserial hrole hprev hnext) (look_setBand_same hb hlockers)
      (fun n _ _ => congrArg Locker.holder (setBand_locker ..)) (fun c _ _ => congrArg Cabin.occupant (setBand_cabin ..))
      fun j c hj => ?_
    by_cases hjk : j = k
    · subst hjk
      rw [setBand_band_self _ _ (s.slot_of_band hb)] at hj
      exact Option.some.inj hj ▸ hsound
    · rw [setBand_band_ne _ _ (Ne.symm hjk)] at hj
      exact h.linked.sound j c hj
  lockers := fun n h1 h2 hx => by
    unfold LockerFits
    rw [setBand_locker, setBand_configured]
    exact h.lockers n h1 h2 hx
  cabins := fun c h1 h2 hx => by
    unfold CabinFits
    rw [setBand_cabin, setBand_configured]
    exact h.cabins c h1 h2 hx

/-- A visitor's account changed. -/
theorem updAccount_isVisitor (b : Band) (f : Account → Account) : (b.updAccount f).isVisitor = b.isVisitor := by
  unfold Band.updAccount
  split
  next a hk => simp [Band.isVisitor, hk]
  next => rfl

theorem updAccount_rest (b : Band) (f : Account → Account) :
    (b.updAccount f).state = b.state ∧ (b.updAccount f).lockers = b.lockers ∧ (b.updAccount f).cabin = b.cabin ∧
      (b.updAccount f).serial = b.serial ∧ (b.updAccount f).role = b.role ∧ (b.updAccount f).previous = b.previous ∧
        (b.updAccount f).next = b.next := by
  unfold Band.updAccount
  split <;> exact ⟨rfl, rfl, rfl, rfl, rfl, rfl, rfl⟩

theorem AgreesBut.account (h : s.Agrees) (hb : s.band k = some b) (f : Account → Account) :
    (s.setBand k (some (b.updAccount f))).Agrees := by
  obtain ⟨hstate, hlockers, hcabin, hserial, hrole, hprev, hnext⟩ := updAccount_rest b f
  have hsound := h.linked.sound k b hb
  exact h.record hb hlockers hcabin hserial hrole hprev hnext
    (hsound.change hlockers hrole hprev hnext (updAccount_isVisitor b f) (fun hr => hstate.trans hr)
      (Band.HoldingFits.change hsound.holding hstate hcabin hlockers hrole hnext))

/-- A record's state changed, from another than REVOKED to one that its holdings fit. -/
theorem AgreesBut.restate (h : s.Agrees) (hb : s.band k = some b) (hnot : b.state ≠ .revoked) {st : BandState}
    (hhold : ({ b with state := st } : Band).HoldingFits) : (s.setBand k (some { b with state := st })).Agrees :=
  h.record hb rfl rfl rfl rfl rfl rfl
    ((h.linked.sound k b hb).change rfl rfl rfl rfl rfl (fun hr => absurd hr hnot) hhold)

theorem AgreesBut.seen (h : s.Agrees) (hb : s.band k = some b) (lp : Option LastPlace) :
    (s.setBand k (some { b with lastPlace := lp })).Agrees :=
  h.record hb rfl rfl rfl rfl rfl rfl
    ((h.linked.sound k b hb).change rfl rfl rfl rfl rfl id
      (Band.HoldingFits.change (h.linked.sound k b hb).holding rfl rfl rfl rfl rfl))

/-! ### A step of the sweep (R144, R145) -/

theorem agrees_checkLongStay (h : s.Agrees) (k : Nat) : (s.checkLongStay k).Agrees := by
  unfold checkLongStay
  split
  · exact h
  next b hb =>
    split
    · exact h
    · split
      · exact h
      · exact (h.account hb _).notify _ _ _

theorem agrees_sweepSlot (h : s.Agrees) (k : Nat) : (s.sweepSlot k).Agrees := by
  unfold sweepSlot
  split
  · exact h
  next b hb =>
    split
    · exact h
    · exact h
    next hst =>
      split
      · exact agrees_checkLongStay ((h.restate hb (by simp [hst]) (Band.holdingFits_active rfl)).notify _ _ _) k
      · exact h
    · exact agrees_checkLongStay h k

theorem agrees_sweepAct (h : s.Agrees) : s.sweepAct.Agrees := by
  unfold sweepAct
  split
  · exact agrees_sweepLocker h _
  · exact agrees_sweepCabin h _
  · exact agrees_sweepSlot h _

end State

/-! ### SETTLE, PAY and ADD_TIME -/

section Requests

variable {s : State} {k : Nat} {b : Band} (r : Request)

theorem agrees_settle (h : s.Agrees) : (settle r s).2.Agrees := by
  unfold settle
  split
  · exact h
  split
  · exact h
  next slot b hf =>
    have hb : s.band slot = some b := (State.findSerial_ok hf).2.2
    split
    · exact h.notify _ _ _
    next hnot =>
      split
      · exact h
      · exact h
      · split
        · exact h
        next hnone =>
          obtain ⟨hcabin, hmembers, hlockers⟩ := Band.holdings_none hnone
          unfold settleWith
          split
          · exact h.restate hb hnot (Band.holdingFits_cleared rfl hlockers hmembers hcabin)
          · exact h.restate hb hnot (Band.holdingFits_owing rfl hlockers hmembers)

/-- A visitor's account and state written, from another state than REVOKED to one that its holdings fit. -/
theorem State.AgreesBut.credit (h : s.Agrees) (hb : s.band k = some b) {a a' : Account} (hk : b.kind = .visitor a)
    (hnot : b.state ≠ .revoked) {st : BandState} (hhold : ({ b with state := st } : Band).HoldingFits) :
    (s.setBand k (some { b with kind := .visitor a', state := st })).Agrees := by
  have hvisitor : b.isVisitor = true := by simp [Band.isVisitor, hk]
  exact h.record hb rfl rfl rfl rfl rfl rfl
    ((h.linked.sound k b hb).change rfl rfl rfl rfl hvisitor.symm (fun hr => absurd hr hnot)
      (Band.HoldingFits.change hhold rfl rfl rfl rfl rfl))

theorem agrees_pay (h : s.Agrees) : (pay r s).2.Agrees := by
  unfold pay
  iterate 2
    split
    · exact h
  split
  · exact h
  next slot b hf =>
    have hb : s.band slot = some b := (State.findSerial_ok hf).2.2
    split
    next a hk hst =>
      split
      · exact h
      · exact h.credit hb hk (by simp [hst]) (st := b.state) (Band.holdingFits_active hst)
    next a owed hk hst =>
      obtain ⟨hlockers, hmembers⟩ := Band.HoldingFits.owing (h.linked.sound slot b hb).holding hst
      split
      · exact h
      next hcabin =>
        have hnone : b.cabin = none := Option.not_isSome_iff_eq_none.1 hcabin
        dsimp only
        split
        · exact h.credit hb hk (by simp [hst]) (Band.holdingFits_cleared rfl hlockers hmembers hnone)
        · exact h.credit hb hk (by simp [hst]) (Band.holdingFits_owing rfl hlockers hmembers)
    · exact h

theorem agrees_addTime (h : s.Agrees) : (addTime r s).2.Agrees := by
  unfold addTime
  split
  · exact h
  split
  · exact h
  next slot b hf =>
    have hb : s.band slot = some b := (State.findSerial_ok hf).2.2
    split
    · exact h
    next a hk =>
      split
      · exact h
      next hnot =>
        have hwritten (m : Nat) : b.addTime m =
            { b with kind := .visitor { a with paidMinutes := min Config.paidMinutesTop (a.paidMinutes + m) }, state := .active } := by
          simp [Band.addTime, Band.updAccount, hk]
        dsimp only [accept]
        rw [hwritten]
        exact h.credit hb hk hnot (Band.holdingFits_active rfl)

end Requests

end Sys2Proof.Machine
end

section
/-! PROOFS. The agreement of the binding tables as the waiting item is handled and the sweep steps (R119, R131, R138). -/

namespace Sys2Proof.Machine

namespace State

variable {s t : State}

/-! ### Writes beside the tables -/

theorem sameBinding_popHead (s : State) : SameBinding s s.popHead :=
  sameBinding_of_engine (by rw [popHead_eq]) (by rw [popHead_eq])

theorem sameBinding_indicate (s : State) (a pos : Nat) (ind : Indication) : SameBinding s (s.indicate a pos ind) := by
  rw [indicate_eq]
  exact (s.sameBinding_setModule a _).trans (sameBinding_of_engine rfl rfl)

theorem sameBinding_watchEvent (s : State) (place : Place) (e : WatchEvent) (m : Option Nat) :
    SameBinding s (s.watchEvent place e m) :=
  sameBinding_of_engine (by rw [watchEvent_frame]) (by rw [watchEvent_frame])

theorem sameBinding_granted (s : State) (r : Requester) : SameBinding s (s.granted r) := ⟨rfl, rfl, rfl, rfl, rfl⟩

/-! ### The waiting item (R119) -/

theorem agrees_decidePresentation (h : s.Agrees) (place : Place) (serial : Nat) :
    (s.decidePresentation place serial).1.Agrees := by
  unfold decidePresentation
  split
  · exact h.notify _ _ _
  next slot b hf =>
    have hb : s.band slot = some b := (findSerial_ok hf).2.2
    rw [updBand_some _ hb]
    let lp : Option LastPlace := some { place := place, time := s.now }
    have hseen : (s.setBand slot (some { b with lastPlace := lp })).Agrees := h.seen hb lp
    have hpresents : (s.setBand slot (some { b with lastPlace := lp })).Presents slot b :=
      ⟨lp, setBand_band_self s _ (s.slot_of_band hb)⟩
    dsimp only
    split
    · exact hseen.notify _ _ _
    next hnot =>
      split
      · exact hseen
      · unfold presentAt
        split
        · exact agrees_presentLocker hseen hpresents _
        · exact agrees_presentCabin hseen hpresents hnot _
        · exact hseen

theorem agrees_presentation (h : s.Agrees) (a pos serial : Nat) : (s.presentation a pos serial).Agrees := by
  have hdecided := agrees_decidePresentation h (placeAt a pos) serial
  have htold := (hdecided.frame (sameBinding_indicate _ a pos (s.decidePresentation (placeAt a pos) serial).2)).frame
    (sameBinding_watchEvent _ (placeAt a pos) .presented (some serial))
  unfold presentation
  dsimp only
  split
  · exact htold.frame (sameBinding_watchEvent _ _ _ _)
  · exact htold

theorem agrees_doorOpenAt (h : s.Agrees) (place : Place) : (s.doorOpenAt place).Agrees := by
  refine AgreesBut.frame ?_ (sameBinding_watchEvent _ _ _ _)
  split
  · exact agrees_lockerDoorOpen h _
  · exact agrees_cabinDoorOpen h _
  · exact h

theorem agrees_doorClosedAt (h : s.Agrees) (place : Place) : (s.doorClosedAt place).Agrees := by
  unfold doorClosedAt
  split
  · exact agrees_lockerDoorClosed h _
  · exact agrees_cabinDoorClosed h _
  · exact h

theorem agrees_handleAt (h : s.Agrees) (place : Place) : (s.handleAt place).Agrees := by
  unfold handleAt
  split
  · exact agrees_cabinHandle h _
  · exact h

theorem agrees_latchDoneAt (h : s.Agrees) (place : Place) : (s.latchDoneAt place).Agrees := by
  refine AgreesBut.frame ?_ (sameBinding_watchEvent _ _ _ _)
  split
  · exact agrees_lockerLatchDone h _
  · exact agrees_cabinLatchDone h _
  · exact h

theorem agrees_latchDoorOpenAt (h : s.Agrees) (place : Place) : (s.latchDoorOpenAt place).Agrees := by
  unfold latchDoorOpenAt
  split
  · exact agrees_lockerLatchDoorOpen h _
  · exact agrees_cabinLatchDoorOpen h _
  · exact h

theorem agrees_latchFailsAt (h : s.Agrees) (r : CommandResult) (place : Place) : (s.latchFailsAt r place).Agrees := by
  unfold latchFailsAt
  split
  · exact agrees_lockerLatchFails h r _
  · exact agrees_cabinLatchFails h r _
  · exact h

theorem agrees_unlatchDoneAt (h : s.Agrees) (place : Place) : (s.unlatchDoneAt place).Agrees := by
  refine AgreesBut.frame ?_ (sameBinding_watchEvent _ _ _ _)
  split
  · exact agrees_lockerUnlatchDone h _
  · exact agrees_cabinUnlatchDone h _
  · exact h

theorem agrees_unlatchFailsAt (h : s.Agrees) (r : CommandResult) (place : Place) : (s.unlatchFailsAt r place).Agrees := by
  unfold unlatchFailsAt
  split
  · exact agrees_lockerUnlatchFails h r _
  · exact agrees_cabinUnlatchFails h r _
  · exact h

theorem agrees_reconcile (h : s.Agrees) (a : Nat) (readings : List Reading) (cold : Bool) :
    (s.reconcile a readings cold).Agrees := by
  have position {u : State} (hu : u.Agrees) (e : Reading × Nat) : (reconcileAt s a cold u e).Agrees := by
    unfold reconcileAt
    split
    · exact agrees_reconcileLocker hu _ _ _ _
    · exact agrees_reconcileCabin hu _ _
    · exact hu
  have positions (l : List (Reading × Nat)) {u : State} (hu : u.Agrees) : (l.foldl (reconcileAt s a cold) u).Agrees := by
    induction l generalizing u with
    | nil => exact hu
    | cons e l ih => exact ih (position hu e)
  exact (positions _ h).frame (sameBinding_setModule _ _ _)

/-- The item handled under its grant, and then taken from the list. -/
theorem agrees_grantItem (h : s.Agrees) {f : HandItem → Option (State → State)}
    (hf : ∀ item handling, f item = some handling → ∀ t : State, t.Agrees → (handling t).Agrees) : (s.grantItem f).Agrees := by
  unfold grantItem
  split
  · exact h
  next handling hb =>
    split
    · obtain ⟨item, _, hitem⟩ := Option.bind_eq_some_iff.1 hb
      exact (hf item handling hitem _ (h.frame (s.sameBinding_granted _))).frame (sameBinding_popHead _)
    · exact h

theorem agrees_grantOutcome (h : s.Agrees) {a : Action} {r : CommandResult} {f : Place → State → State}
    (hf : ∀ p (t : State), t.Agrees → (f p t).Agrees) : (s.grantOutcome a r f).Agrees := by
  refine agrees_grantItem h fun item handling hitem t ht => ?_
  split at hitem
  · split at hitem
    · cases hitem
      exact hf _ t ht
    · cases hitem
  · cases hitem

/-! ### The step of the sweep (R138) -/

theorem agrees_sweepWhen (h : s.Agrees) (wanted : Bool) : (s.sweepWhen wanted).Agrees := by
  unfold sweepWhen
  split
  · split
    · exact (agrees_sweepAct (h.frame (s.sameBinding_granted _))).frame (sameBinding_of_engine rfl rfl)
    · exact h.frame (sameBinding_of_engine rfl rfl)
  · exact h

end State

end Sys2Proof.Machine
end

section
/-! PROOFS. The agreement of the binding tables under the requests to lockers, cabins, modules, settings and the clock
(R35, R59 to R63, R81, R82, R88, R89, R112, R187, R195). -/

namespace Sys2Proof.Machine

namespace State

variable {s t : State}

/-! ### Positions given a state -/

/-- Lockers and cabins written with their holders and occupants kept, the band table and the serial map not at all. -/
theorem AgreesBut.refit (h : s.Agrees) (hbands : t.engine.bands = s.engine.bands)
    (hmap : t.engine.serialMap = s.engine.serialMap)
    (hlockers : ∀ n, 1 ≤ n → n ≤ 1024 → (t.locker n).holder = (s.locker n).holder ∧ t.LockerFits n)
    (hcabins : ∀ c, 1 ≤ c → c ≤ 64 → (t.cabin c).occupant = (s.cabin c).occupant ∧ t.CabinFits c) : t.Agrees where
  linked := by
    have hband (k : Nat) : t.band k = s.band k := by
      unfold State.band
      rw [hbands]
    exact h.linked.keep (sameReads_of_band hband hmap) (look_of_band hband _ _) (fun n h1 h2 => (hlockers n h1 h2).1)
      (fun c h1 h2 => (hcabins c h1 h2).1) fun k b hb => h.linked.sound k b (hband k ▸ hb)
  lockers := fun n h1 h2 _ => (hlockers n h1 h2).2
  cabins := fun c h1 h2 _ => (hcabins c h1 h2).2

theorem AgreesBut.unlatchReleased {n : Nat} (h : s.Agrees) (hs : (s.locker n).state ≠ .unfitted) :
    (s.releaseLatched n).Agrees := by
  have hnone := s.unbindLocker_holder n
  exact (h.release (l := ((s.unbindLocker n).locker n).startUnlatch false true) hs hnone
    (Locker.holderFits_unlatching rfl (iff_of_true hnone rfl))).queue _ _ _

end State

section Requests

variable {s : State} (r : Request)

theorem agrees_onLocker {n : Nat} {f : Locker → Answer × State} (h : s.Agrees) (hf : (f (s.locker n)).2.Agrees) :
    (onLocker n s f).2.Agrees := by
  unfold onLocker
  iterate 2
    split
    · exact h
  exact hf

theorem agrees_onCabin {c : Nat} {f : Cabin → Answer × State} (h : s.Agrees) (hf : (f (s.cabin c)).2.Agrees) :
    (onCabin c s f).2.Agrees := by
  unfold onCabin
  iterate 2
    split
    · exact h
  exact hf

theorem agrees_queuing {a : Nat} {f : State → State} (h : s.Agrees) (hf : (f s).Agrees) : (queuing a s f).2.Agrees := by
  unfold queuing
  iterate 2
    split
    · exact h
  exact hf

/-! ### Lockers (R59 to R63) -/

theorem agrees_assignLocker (h : s.Agrees) : (assignLocker r s).2.Agrees := by
  unfold assignLocker
  split
  · exact h
  split
  · exact h
  split
  · exact h
  next slot b hf =>
    split
    · exact h
    split
    · exact h
    next hcheck =>
      split
      · exact h
      next n hassign =>
        simp only [Bool.or_eq_true, bne_iff_ne, not_or, not_not, Bool.not_eq_true] at hcheck
        obtain ⟨hactive, hleader⟩ := hcheck
        have hroom : s.heldBy (b.holderSlot slot) < b.role.capacity :=
          Nat.lt_of_not_le fun hfull => (nomatch (State.assignment_full _ hfull).symm.trans hassign)
        obtain ⟨hb, hband, hst, hfree⟩ := h.linked.holderToBe (State.findSerial_ok hf).2.2 hactive hleader hroom
        exact State.agrees_reserve h (State.assignment_free hassign) hband hst hfree

theorem agrees_openLocker (h : s.Agrees) : (openLocker r s).2.Agrees := by
  unfold openLocker
  split
  · exact h
  next n _ =>
    refine agrees_onLocker h ?_
    have hfits := h.holderFits n
    split
    next hst =>
      exact agrees_queuing h (h.unlatch (by simp [hst]) true
        (iff_of_false (hfits.held (by simp [hst, heldStates])) nofun))
    next hst => exact agrees_queuing h (h.unlatch (by simp [hst]) true Option.isNone_iff_eq_none.symm)
    next hst =>
      exact agrees_queuing h (h.unlatch (by simp [hst]) true
        (iff_of_true (hfits.unheld (by simp [hst, unheldStates])) rfl))
    · exact h

theorem agrees_releaseLocker (h : s.Agrees) : (releaseLocker r s).2.Agrees := by
  unfold releaseLocker
  split
  · exact h
  next n _ =>
    refine agrees_onLocker h ?_
    have latched (hs : (s.locker n).state ≠ .unfitted) : (queuing (lockerAt n).1 s (State.releaseLatched n)).2.Agrees :=
      agrees_queuing h (h.unlatchReleased hs)
    have free (hs : (s.locker n).state ≠ .unfitted) : (s.releaseFree n).Agrees :=
      h.releaseEnter hs (by simp [unheldStates])
    split
    next hst => exact latched (by simp [hst])
    next hst => exact latched (by simp [hst])
    next hst => exact latched (by simp [hst])
    next hst =>
      split
      · exact latched (by simp [hst])
      · exact free (by simp [hst])
    next hst => exact free (by simp [hst])
    next hst => exact free (by simp [hst])
    next hst => exact free (by simp [hst])
    next hst => exact free (by simp [hst])
    · exact h

theorem agrees_rearmLocker (h : s.Agrees) : (rearmLocker r s).2.Agrees := by
  unfold rearmLocker
  split
  · exact h
  next n _ =>
    refine agrees_onLocker h ?_
    split
    · exact h
    next hst =>
      have hforced : (s.locker n).state = .forced := by simpa using hst
      split
      · exact h
      · exact agrees_queuing h (h.latch (by simp [hforced]) (fun _ => hforced) false)

theorem agrees_setLockerService (h : s.Agrees) : (setLockerService r s).2.Agrees := by
  unfold setLockerService
  split
  · exact h
  next n back _ =>
    refine agrees_onLocker h ?_
    split
    next hst _ =>
      exact h.enterUnheld (by simp [hst]) ((h.holderFits n).unheld (by simp [hst, unheldStates])) (by simp [unheldStates])
    next hst _ =>
      exact h.enterUnheld (by simp [hst]) ((h.holderFits n).unheld (by simp [hst, unheldStates])) (by simp [unheldStates])
    · exact h

/-! ### Cabins (R81, R82) -/

theorem agrees_openCabin (h : s.Agrees) : (openCabin r s).2.Agrees := by
  unfold openCabin
  split
  · exact h
  next c _ =>
    refine agrees_onCabin h ?_
    split
    next hst => exact agrees_queuing h (h.unlatchCabin (by simp [hst]))
    next hst =>
      split
      · exact h
      · exact agrees_queuing h (h.unlatchCabin (by simp [hst]))
    · exact h

theorem agrees_setCabinService (h : s.Agrees) : (setCabinService r s).2.Agrees := by
  unfold setCabinService
  split
  · exact h
  next c back _ =>
    refine agrees_onCabin h ?_
    have enter (hst : (s.cabin c).state ∈ emptyStates) (hs : (s.cabin c).state ≠ .unfitted) {st : CabinState}
        (hin : st ∈ emptyStates) : (s.setCabin c ((s.cabin c).enter st s.now)).Agrees :=
      h.place hs rfl (Cabin.occupantFits_empty hin ((h.occupantFits c).empty hst))
    split
    next hst _ => exact enter (by simp [hst, emptyStates]) (by simp [hst]) (by simp [emptyStates])
    next hst _ => exact enter (by simp [hst, emptyStates]) (by simp [hst]) (by simp [emptyStates])
    · exact h

/-! ### Settings that no link reads (R35, R88, R89, R195) -/

theorem agrees_setZone (h : s.Agrees) : (setZone r s).2.Agrees := by
  unfold setZone
  split
  · exact h
  iterate 3
    split
    · exact h
  exact h.frame ⟨by simp [accept], by simp [accept], by simp [accept], by simp [accept], by simp [accept]⟩

theorem agrees_setTariff (h : s.Agrees) : (setTariff r s).2.Agrees := by
  unfold setTariff
  split
  · exact h
  next q _ =>
    split
    · exact h
    · dsimp only [accept]
      refine h.frame ?_
      cases hb : q.bank <;> exact ⟨rfl, rfl, rfl, rfl, rfl⟩

theorem agrees_selectBank (h : s.Agrees) : (selectBank r s).2.Agrees := by
  unfold selectBank
  split
  · exact h
  · exact h.frame ⟨rfl, rfl, rfl, rfl, rfl⟩

theorem agrees_setWindows (h : s.Agrees) : (setWindows r s).2.Agrees := by
  unfold setWindows
  split
  · exact h
  · exact h.frame ⟨rfl, rfl, rfl, rfl, rfl⟩

/-! ### The clock (R148, R187) -/

theorem Locker.restart_fits {conf : Bool} {l : Locker} (h : l.Fits conf) (t : Nat) : (l.restart t).Fits conf := by
  rw [Locker.restart_eq]
  split
  · exact h
  · exact h

theorem Cabin.restart_fits {conf : Bool} {k : Cabin} (h : k.Fits conf) (t : Nat) : (k.restart t).Fits conf := by
  rw [Cabin.restart_eq]
  split
  · exact h
  · exact h

theorem State.agrees_setDayClock (h : s.Agrees) (t : Nat) : (s.setDayClock t).Agrees := by
  refine h.refit rfl rfl (fun n h1 h2 => ?_) fun c h1 h2 => ?_
  · unfold State.LockerFits
    rw [s.setDayClock_locker t ⟨h1, h2⟩]
    refine ⟨?_, Locker.restart_fits (h.lockers n h1 h2 nofun) t⟩
    rw [Locker.restart_eq]
    split <;> rfl
  · unfold State.CabinFits
    rw [s.setDayClock_cabin t ⟨h1, h2⟩]
    refine ⟨?_, Cabin.restart_fits (h.cabins c h1 h2 nofun) t⟩
    rw [Cabin.restart_eq]
    split <;> rfl

theorem agrees_setClock (h : s.Agrees) : (setClock r s).2.Agrees := by
  unfold setClock
  split
  · exact h
  iterate 2
    split
    · exact h
  exact State.agrees_setDayClock h _

/-! ### Modules (R112) -/

theorem mem_moduleLockers {a n : Nat} (ha : 1 ≤ a) (hn : 1 ≤ n ∧ n ≤ 1024) : n ∈ moduleLockers a ↔ (lockerAt n).1 = a := by
  unfold moduleLockers lockerAt
  split
  next hc =>
    have : 129 ≤ a := by simp only [isCabinModule, Bool.and_eq_true, decide_eq_true_eq] at hc; omega
    exact iff_of_false (List.not_mem_nil) (by dsimp only; omega)
  next hc =>
    simp only [List.mem_map, List.mem_range]
    constructor
    · rintro ⟨i, hi, rfl⟩
      omega
    · rintro rfl
      exact ⟨(n - 1) % 8, Nat.mod_lt _ (by decide), by omega⟩

theorem mem_moduleCabins {a c : Nat} (hc : 1 ≤ c ∧ c ≤ 64) : c ∈ moduleCabins a ↔ (cabinAt c).1 = a := by
  unfold moduleCabins cabinAt
  split
  next ha =>
    simp only [isCabinModule, Bool.and_eq_true, decide_eq_true_eq] at ha
    simp only [List.mem_map, List.mem_range]
    constructor
    · rintro ⟨i, hi, rfl⟩
      omega
    · rintro rfl
      exact ⟨(c - 1) % 4, Nat.mod_lt _ (by decide), by omega⟩
  next ha =>
    simp only [isCabinModule, Bool.and_eq_true, decide_eq_true_eq] at ha
    exact iff_of_false List.not_mem_nil (by dsimp only; omega)

variable {q : ModulesRequest} {t : State}

theorem State.writeModuleSetting_configured_self (ha : 1 ≤ q.addr ∧ q.addr ≤ 144) :
    (s.writeModuleSetting q).configured q.addr = q.configured := by
  unfold State.configured
  rw [s.writeModuleSetting_self ha]

theorem State.writeModuleSetting_configured_ne (hq : 1 ≤ q.addr) {a : Nat} (h : a ≠ q.addr) :
    (s.writeModuleSetting q).configured a = s.configured a := by
  unfold State.configured
  rw [s.writeModuleSetting_ne hq h]

/-- A module's configuration written and its positions, where nothing is bound, given states that fit it. -/
theorem State.agrees_fit (h : s.Agrees) (ha : 1 ≤ q.addr ∧ q.addr ≤ 144)
    (hlockers : ∀ n ∈ moduleLockers q.addr, (s.locker n).holder = none)
    (hcabins : ∀ c ∈ moduleCabins q.addr, (s.cabin c).occupant = none) {l : LockerState} {k : CabinState}
    (hl : (Locker.blank l s.now).Fits q.configured) (hk : (Cabin.blank k s.now).Fits q.configured) :
    ((s.writeModuleSetting q).fit q.addr l k).Agrees := by
  have hframe := (s.writeModuleSetting q).fit_frame (addr := q.addr) l k
  have hconf (a : Nat) : ((s.writeModuleSetting q).fit q.addr l k).configured a = (s.writeModuleSetting q).configured a := by
    rw [hframe]
    rfl
  refine h.refit (by rw [hframe]; rfl) (by rw [hframe]; rfl) (fun n h1 h2 => ?_) fun c h1 h2 => ?_
  · unfold State.LockerFits
    rw [hconf, State.fit_locker _ ha]
    by_cases hn : n ∈ moduleLockers q.addr
    · rw [if_pos hn, (mem_moduleLockers ha.1 ⟨h1, h2⟩).1 hn, State.writeModuleSetting_configured_self ha]
      exact ⟨(hlockers n hn).symm, hl⟩
    · rw [if_neg hn, State.writeModuleSetting_configured_ne ha.1 fun he => hn ((mem_moduleLockers ha.1 ⟨h1, h2⟩).2 he)]
      exact ⟨rfl, h.lockers n h1 h2 nofun⟩
  · unfold State.CabinFits
    rw [hconf, State.fit_cabin]
    by_cases hc : c ∈ moduleCabins q.addr
    · rw [if_pos hc, (mem_moduleCabins ⟨h1, h2⟩).1 hc, State.writeModuleSetting_configured_self ha]
      exact ⟨(hcabins c hc).symm, hk⟩
    · rw [if_neg hc, State.writeModuleSetting_configured_ne ha.1 fun he => hc ((mem_moduleCabins ⟨h1, h2⟩).2 he)]
      exact ⟨rfl, h.cabins c h1 h2 nofun⟩

theorem State.sameBinding_configure (ha : 1 ≤ q.addr) : State.SameBinding (s.fit q.addr .free .vacant) (s.configure q.addr) := by
  rw [s.configure_eq ha, s.fit_frame]
  exact ⟨rfl, rfl, rfl, rfl, rfl⟩

theorem State.sameBinding_unconfigure (ha : 1 ≤ q.addr) :
    State.SameBinding (s.fit q.addr .unfitted .unfitted) (s.unconfigure q.addr) := by
  rw [s.unconfigure_eq ha, s.fit_frame]
  exact ⟨rfl, rfl, rfl, rfl, rfl⟩

/-- The module's configuration kept. -/
theorem State.agrees_writeModuleSetting (h : s.Agrees) (ha : 1 ≤ q.addr ∧ q.addr ≤ 144)
    (hc : s.configured q.addr = q.configured) : (s.writeModuleSetting q).Agrees := by
  have hconf (a : Nat) : (s.writeModuleSetting q).configured a = s.configured a := by
    by_cases he : a = q.addr
    · rw [he, State.writeModuleSetting_configured_self ha, hc]
    · exact State.writeModuleSetting_configured_ne ha.1 he
  refine h.refit rfl rfl (fun n h1 h2 => ⟨rfl, ?_⟩) fun c h1 h2 => ⟨rfl, ?_⟩
  · unfold State.LockerFits
    rw [hconf]
    exact h.lockers n h1 h2 nofun
  · unfold State.CabinFits
    rw [hconf]
    exact h.cabins c h1 h2 nofun

theorem State.AgreesBut.unconfigured (h : s.Agrees) {a : Nat} (ha : 1 ≤ a) (hc : s.configured a = false) :
    (∀ n, 1 ≤ n → n ≤ 1024 → n ∈ moduleLockers a → (s.locker n).holder = none) ∧
      ∀ c ∈ moduleCabins a, (s.cabin c).occupant = none := by
  constructor
  · intro n h1 h2 hn
    have hst := (h.lockers n h1 h2 nofun).1 ((mem_moduleLockers ha ⟨h1, h2⟩).1 hn ▸ hc)
    exact (h.holderFits n).unheld (by simp [hst, unheldStates])
  · intro c hc'
    obtain ⟨h1, h2⟩ := moduleCabins_range hc'
    have hst := (h.cabins c h1 h2 nofun).1 ((mem_moduleCabins ⟨h1, h2⟩).1 hc' ▸ hc)
    exact (h.occupantFits c).empty (by simp [hst, emptyStates])

theorem agrees_setModules (h : s.Agrees) : (setModules r s).2.Agrees := by
  cases hp : parseModules r.body with
  | none =>
    unfold setModules
    rw [hp]
    exact h
  | some q =>
    by_cases ha : 1 ≤ q.addr ∧ q.addr ≤ 144
    · by_cases hc : s.configured q.addr = q.configured
      · rw [setModules_kept hp ha hc]
        exact State.agrees_writeModuleSetting h ha hc
      · cases hq : q.configured with
        | true =>
          have hwas : s.configured q.addr = false := by simpa [hq] using hc
          obtain ⟨hlockers, hcabins⟩ := h.unconfigured ha.1 hwas
          rw [setModules_configures hp ha hwas hq]
          refine (State.agrees_fit h ha (fun n hn => ?_) hcabins ?_ ?_).frame (State.sameBinding_configure ha.1)
          · obtain ⟨h1, h2⟩ := moduleLockers_range ha hn
            exact hlockers n h1 h2 hn
          · rw [hq]
            exact ⟨nofun, rfl⟩
          · rw [hq]
            exact ⟨nofun, rfl⟩
        | false =>
          have hwas : s.configured q.addr = true := by simpa [hq] using hc
          rw [setModules_unconfigures hp ha hwas hq]
          split
          · exact h
          split
          · exact h
          next hbound =>
            simp only [not_or, not_exists, not_and, not_not] at hbound
            exact (State.agrees_fit h ha hbound.1 hbound.2 ⟨fun _ => rfl, rfl⟩ ⟨fun _ => rfl, rfl⟩).frame
              (State.sameBinding_unconfigure ha.1)
    · rw [setModules_outside hp (by omega)]
      exact h

end Requests

end Sys2Proof.Machine
end

section
/-! PROOFS. The agreement of the binding tables under REVOKE_BAND and ISSUE_BAND (R4, R10, R11, R13, R23). -/

namespace Sys2Proof.Machine

/-! ### REVOKE_BAND (R23) -/

section Revoke

variable {s : State} {k c : Nat} {b : Band} (r : Request)

/-- A record that no reissue has replaced, without a cabin, made REVOKED. -/
theorem State.AgreesBut.withdraw (h : s.Agrees) (hb : s.band k = some b) (hnot : b.state ≠ .revoked)
    (hcabin : b.cabin = none) : (s.setBand k (some { b with state := .revoked, next := none })).Agrees := by
  have hnext : b.next = none := by
    by_contra hn
    exact hnot ((h.linked.sound k b hb).reissued hn)
  have hsame : ({ b with state := .revoked, next := none } : Band) = { b with state := .revoked } := by rw [hnext]
  rw [hsame]
  refine h.restate hb hnot ?_
  unfold Band.HoldingFits
  exact ⟨hcabin, fun hn => absurd hnext hn⟩

theorem agrees_revokeInCabin (h : s.Agrees) (hb : s.band k = some b) (hnot : b.state ≠ .revoked) (hcabin : b.cabin = some c) :
    (((s.setBand k (some b.revoke)).clearOccupant c).unlatchCabin c).Agrees := by
  have hname : s.cabinOf k = some c := (State.look_some hb none Band.cabin).trans hcabin
  obtain ⟨h1, h2⟩ := h.linked.cabins k c hname
  have hocc : (s.cabin c).occupant = some k := (h.linked.inside c k h1 h2).2 hname
  have hs : (s.cabin c).state ≠ .unfitted := fun hst =>
    nomatch ((h.occupantFits c).empty (by simp [hst, emptyStates])).symm.trans hocc
  let r : Cabin := { s.cabin c with state := .unlatching, occupant := none, command := some .unlatch }
  have hcleared : ((s.clearOccupant c).setCabin c r).Agrees := h.clear hs rfl (Cabin.occupantFits_unlatching rfl)
  have heq : (s.clearOccupant c).setCabin c r = (s.setCabin c r).setBand k (some { b with cabin := none }) := by
    rw [State.clearOccupant_of_occupied hocc hb, State.setCabin_setCabin, State.setBand_setCabin]
  rw [heq] at hcleared
  have hband : ((s.setCabin c r).setBand k (some { b with cabin := none })).band k = some { b with cabin := none } :=
    State.setBand_band_self _ _ (s.slot_of_band hb)
  have hdone := hcleared.withdraw hband hnot rfl
  rw [State.setBand_setBand] at hdone
  rw [revoke_unlatch hb hocc, State.setBand_setCabin]
  exact hdone.queue _ _ _

theorem agrees_revokeBand (h : s.Agrees) : (revokeBand r s).2.Agrees := by
  unfold revokeBand
  split
  · exact h
  split
  · exact h
  next slot b hf =>
    have hb : s.band slot = some b := (State.findSerial_ok hf).2.2
    split
    · exact h
    next hnot =>
      split
      next hcabin => exact h.withdraw hb hnot hcabin
      next c hcabin =>
        iterate 2
          split
          · exact h
        exact agrees_revokeInCabin h hb hnot hcabin

end Revoke

namespace State

/-! ### The serial map with an entry added (R4) -/

theorem mem_mapInsert {n k : Nat} {l : List (Nat × Nat)} {e : Nat × Nat} : e ∈ mapInsert n k l ↔ e = (n, k) ∨ e ∈ l := by
  induction l with
  | nil => simp [mapInsert]
  | cons a rest ih =>
    unfold mapInsert
    split
    · simp
    · simp only [List.mem_cons, ih]
      exact or_left_comm

theorem mapInsert_rising {n : Nat} (k : Nat) {l : List (Nat × Nat)} (hl : l.Pairwise fun a b => a.1 < b.1)
    (hn : ∀ e ∈ l, e.1 ≠ n) : (mapInsert n k l).Pairwise fun a b => a.1 < b.1 := by
  induction l with
  | nil => exact List.pairwise_singleton _ _
  | cons a rest ih =>
    obtain ⟨ha, hrest⟩ := List.pairwise_cons.1 hl
    unfold mapInsert
    split
    next hlt =>
      refine List.pairwise_cons.2 ⟨fun e he => ?_, hl⟩
      obtain rfl | he := List.mem_cons.1 he
      · exact hlt
      · exact hlt.trans (ha e he)
    next hle =>
      refine List.pairwise_cons.2 ⟨fun e he => ?_, ih hrest fun e he => hn e (List.mem_cons_of_mem _ he)⟩
      obtain rfl | he := mem_mapInsert.1 he
      · have := hn a List.mem_cons_self
        dsimp only
        omega
      · exact ha e he

variable {s t : State} {k l m : Nat} {b lb : Band}

theorem ne_of_unmapped (h : s.slotOf m = none) : ∀ e ∈ s.engine.serialMap, e.1 ≠ m := fun e he => by
  have := List.find?_eq_none.1 (Option.map_eq_none_iff.1 h) e he
  simpa using this

/-! ### Records written, lockers and cabins kept -/

/-- The lockers and cabins stand, and so does what the records name of them. -/
structure SameHoldings (s t : State) : Prop where
  lockersOf : t.lockersOf = s.lockersOf
  cabinOf : t.cabinOf = s.cabinOf
  lockers : t.engine.lockers = s.engine.lockers
  cabins : t.engine.cabins = s.engine.cabins
  modules : t.settings.modules = s.settings.modules

theorem SameHoldings.locker (h : SameHoldings s t) (n : Nat) : t.locker n = s.locker n := by
  unfold State.locker
  rw [h.lockers]

theorem SameHoldings.cabin (h : SameHoldings s t) (c : Nat) : t.cabin c = s.cabin c := by
  unfold State.cabin
  rw [h.cabins]

theorem SameHoldings.configured (h : SameHoldings s t) (a : Nat) : t.configured a = s.configured a := by
  unfold State.configured moduleSetting
  rw [h.modules]

/-- What a record names beyond its holdings: the serial map, groups and chains, with every record sound. -/
structure Registered (s : State) : Prop where
  rising : s.engine.serialMap.Pairwise fun a b => a.1 < b.1
  serials : ∀ m k, s.slotOf m = some k ↔ s.markOf k = some m
  leaders : ∀ k ms, s.roleOf k = .leader ms →
    ms.length ≤ Config.groupCapacity ∧ ms.Nodup ∧ ∀ m ∈ ms, s.roleOf m = .member k
  members : ∀ k l, s.roleOf k = .member l → ∃ ms, s.roleOf l = .leader ms ∧ k ∈ ms
  chains : ∀ k p, s.prevOf k = some p ↔ s.nextOf p = some k
  short : ∀ k, (chainFrom s.prevOf Config.lastSlot (s.prevOf k)).length < Config.chainCapacity
  sound : ∀ k b, s.band k = some b → b.Sound

theorem AgreesBut.reregister (h : s.Agrees) (hs : SameHoldings s t) (hr : t.Registered) : t.Agrees where
  linked :=
    { rising := hr.rising, serials := hr.serials, leaders := hr.leaders, members := hr.members, chains := hr.chains,
      short := hr.short, sound := hr.sound,
      held := fun n j h1 h2 => by
        rw [holderOf, hs.locker, hs.lockersOf]
        exact h.linked.held n j h1 h2
      lists := hs.lockersOf ▸ h.linked.lists
      inside := fun c j h1 h2 => by
        rw [occupantOf, hs.cabin, hs.cabinOf]
        exact h.linked.inside c j h1 h2
      cabins := hs.cabinOf ▸ h.linked.cabins }
  lockers := fun n h1 h2 hx => by
    unfold LockerFits
    rw [hs.locker, hs.configured]
    exact h.lockers n h1 h2 hx
  cabins := fun c h1 h2 hx => by
    unfold CabinFits
    rw [hs.cabin, hs.configured]
    exact h.cabins c h1 h2 hx

/-- A record put into an EMPTY slot reads as the slot did, where it holds nothing. -/
theorem look_setBand_empty {α : Type} (hk : 1 ≤ k ∧ k ≤ Config.lastSlot) (hnone : s.band k = none) {d : α} {v : Band → α}
    (hv : v b = d) : (s.setBand k (some b)).look d v = s.look d v := by
  rw [look_setBand s hk]
  exact Function.update_eq_self_iff.2 (hv.trans (look_none hnone d v).symm)

/-! ### A record created (R10) -/

/-- A new record, which holds nothing, belongs to no group and follows no other. -/
structure Fresh (b : Band) : Prop where
  state : b.state = .active
  lockers : b.lockers = []
  cabin : b.cabin = none
  role : b.role = .none
  previous : b.previous = none
  next : b.next = none

theorem Fresh.sound (h : Fresh b) : b.Sound where
  room := by simp [h.lockers]
  visitor := fun hr => absurd h.role hr
  reissued := fun hn => absurd h.next hn
  staff := fun _ => ⟨h.previous, h.next⟩
  holding := Band.holdingFits_active h.state

/-- The map with the serial of a slot that was EMPTY. -/
theorem Linked.serials_insert {n : Nat} (h : s.Linked) (hk : s.markOf k = none) (hmap : s.slotOf n = none) (m j : Nat) :
    (if m = n then some k else s.slotOf m) = some j ↔ Function.update s.markOf k (some n) j = some m := by
  by_cases hj : j = k
  · subst hj
    rw [Function.update_self]
    have hnot : s.slotOf m ≠ some j := fun hm => nomatch hk.symm.trans ((h.serials m j).1 hm)
    by_cases hm : m = n
    · simp [hm]
    · rw [if_neg hm]
      exact iff_of_false hnot fun he => hm (Option.some.inj he).symm
  · rw [Function.update_of_ne hj]
    by_cases hm : m = n
    · rw [if_pos hm, hm]
      exact iff_of_false (fun he => hj (Option.some.inj he).symm) fun he => nomatch hmap.symm.trans ((h.serials n j).2 he)
    · rw [if_neg hm]
      exact h.serials m j

/-- A new record in an EMPTY slot, with its serial mapped. -/
theorem AgreesBut.create (h : s.Agrees) (hk : 1 ≤ k ∧ k ≤ Config.lastSlot) (hnone : s.band k = none) (hb : Fresh b)
    (hmap : s.slotOf b.serial = none) : ((s.setBand k (some b)).mapSerial b.serial k).Agrees := by
  let u := s.setBand k (some b)
  have hlook {α : Type} {d : α} {v : Band → α} (hv : v b = d) : (u.mapSerial b.serial k).look d v = s.look d v :=
    look_setBand_empty hk hnone hv
  have hroles : (u.mapSerial b.serial k).roleOf = s.roleOf := hlook hb.role
  have hprev : (u.mapSerial b.serial k).prevOf = s.prevOf := hlook hb.previous
  have hnext : (u.mapSerial b.serial k).nextOf = s.nextOf := hlook hb.next
  have hmarks : (u.mapSerial b.serial k).markOf = Function.update s.markOf k (some b.serial) := look_setBand s hk _ _ _
  have hslot (m : Nat) : (u.mapSerial b.serial k).slotOf m = if m = b.serial then some k else s.slotOf m := by
    rw [mapSerial_slotOf k (by rw [setBand_slotOf, hmap]), setBand_slotOf]
  refine h.reregister ⟨hlook hb.lockers, hlook hb.cabin, by simp, by simp, by simp⟩
    ⟨?_, fun m j => ?_, ?_, ?_, ?_, ?_, ?_⟩
  · refine mapInsert_rising k (by simpa [u] using h.linked.rising) ?_
    simpa [u] using ne_of_unmapped hmap
  · rw [hslot, hmarks]
    exact h.linked.serials_insert (look_none hnone none fun b => some b.serial) hmap m j
  · rw [hroles]
    exact h.linked.leaders
  · rw [hroles]
    exact h.linked.members
  · rw [hprev, hnext]
    exact h.linked.chains
  · rw [hprev]
    exact h.linked.short
  · intro j b' hj
    rw [mapSerial_band] at hj
    by_cases hjk : j = k
    · subst hjk
      rw [setBand_band_self _ _ hk] at hj
      exact Option.some.inj hj ▸ hb.sound
    · rw [setBand_band_ne _ _ (Ne.symm hjk)] at hj
      exact h.linked.sound j b' hj

/-! ### A record joining a group (R13) -/

/-- The members that a record lists, of a record that is no MEMBER. -/
theorem roleOf_of_leads (hl : s.band l = some lb) (hlead : lb.role = .none ∨ ∃ ms, lb.role = .leader ms) :
    (lb.members = [] ∨ s.roleOf l = .leader lb.members) ∧ ∀ j, s.roleOf l ≠ .member j := by
  rw [show s.roleOf l = lb.role from look_some hl Role.none Band.role]
  obtain hr | ⟨ms, hr⟩ := hlead <;> simp [Band.members, hr]

/-- A record in no group, without lockers, joins the group of a record that is no MEMBER. -/
theorem AgreesBut.join (h : s.Agrees) (hb : s.band k = some b) (hl : s.band l = some lb) (hvisitor : b.isVisitor = true)
    (hnone : b.role = .none) (hlockers : b.lockers = []) (hactive : b.state = .active) (hne : k ≠ l)
    (hlactive : lb.state = .active) (hlvisitor : lb.isVisitor = true)
    (hlead : lb.role = .none ∨ ∃ ms, lb.role = .leader ms) (hroom : lb.members.length < Config.groupCapacity) :
    ((s.setBand k (some { b with role := .member l })).setBand l
      (some { lb with role := .leader (lb.members ++ [k]) })).Agrees := by
  let u := s.setBand k (some { b with role := .member l })
  have hul : u.band l = some lb := (setBand_band_ne s _ hne).trans hl
  have hlook {α : Type} {d : α} {v : Band → α} (hv : v { b with role := .member l } = v b)
      (hw : v { lb with role := .leader (lb.members ++ [k]) } = v lb) :
      (u.setBand l (some { lb with role := .leader (lb.members ++ [k]) })).look d v = s.look d v :=
    (look_setBand_same hul hw).trans (look_setBand_same hb hv)
  have hmap : (u.setBand l (some { lb with role := .leader (lb.members ++ [k]) })).engine.serialMap = s.engine.serialMap := by
    simp [u]
  have hroles : (u.setBand l (some { lb with role := .leader (lb.members ++ [k]) })).roleOf =
      Function.update (Function.update s.roleOf k (.member l)) l (.leader (lb.members ++ [k])) := by
    rw [roleOf, look_setBand _ (u.slot_of_band hul), look_setBand _ (s.slot_of_band hb)]
    rfl
  have hwas : s.roleOf k = .none := (look_some hb Role.none Band.role).trans hnone
  obtain ⟨hlist, hnotMember⟩ := roleOf_of_leads hl hlead
  have hmember (j : Nat) (hj : j ∈ lb.members) : s.roleOf j = .member l := by
    obtain he | he := hlist
    · rw [he] at hj
      cases hj
    · exact (h.linked.leaders l _ he).2.2 j hj
  have hnodup : lb.members.Nodup := by
    obtain he | he := hlist
    · rw [he]
      exact List.nodup_nil
    · exact (h.linked.leaders l _ he).2.1
  have hstays {j i : Nat} (hj : s.roleOf j = .member i) :
      Function.update (Function.update s.roleOf k (.member l)) l (.leader (lb.members ++ [k])) j = .member i := by
    have hjl : j ≠ l := by
      rintro rfl
      exact hnotMember i hj
    have hjk : j ≠ k := by
      rintro rfl
      exact (nomatch hwas.symm.trans hj)
    rw [Function.update_of_ne hjl, Function.update_of_ne hjk, hj]
  refine h.reregister ⟨hlook rfl rfl, hlook rfl rfl, by simp, by simp, by simp⟩
    ⟨?_, fun m j => ?_, fun j ms hj => ?_, fun j i hj => ?_, ?_, ?_, fun j b' hj => ?_⟩
  · rw [hmap]
    exact h.linked.rising
  · rw [slotOf_of_map hmap, show (u.setBand l _).markOf = s.markOf from hlook rfl rfl]
    exact h.linked.serials m j
  · rw [hroles] at hj ⊢
    by_cases hjl : j = l
    · subst hjl
      rw [Function.update_self] at hj
      obtain rfl := Role.leader.inj hj
      refine ⟨by rw [List.length_append]; exact hroom, List.nodup_append.2 ⟨hnodup, List.nodup_singleton k, ?_⟩,
        fun m hm => ?_⟩
      · intro a ha c hc he
        have hk : s.roleOf k = .member j := hmember k (List.mem_singleton.1 hc ▸ he ▸ ha)
        exact nomatch hwas.symm.trans hk
      · obtain hm | hm := List.mem_append.1 hm
        · exact hstays (hmember m hm)
        · obtain rfl := List.mem_singleton.1 hm
          rw [Function.update_of_ne hne, Function.update_self]
    · rw [Function.update_of_ne hjl] at hj
      by_cases hjk : j = k
      · rw [hjk, Function.update_self] at hj
        cases hj
      · rw [Function.update_of_ne hjk] at hj
        obtain ⟨hcap, hnd, hall⟩ := h.linked.leaders j ms hj
        exact ⟨hcap, hnd, fun m hm => hstays (hall m hm)⟩
  · rw [hroles] at hj ⊢
    have hown : ∃ ms, Function.update (Function.update s.roleOf k (.member l)) l (.leader (lb.members ++ [k])) l = .leader ms ∧
        k ∈ ms := ⟨_, Function.update_self .., by simp⟩
    by_cases hjl : j = l
    · rw [hjl, Function.update_self] at hj
      cases hj
    · rw [Function.update_of_ne hjl] at hj
      by_cases hjk : j = k
      · subst hjk
        rw [Function.update_self] at hj
        cases hj
        exact hown
      · rw [Function.update_of_ne hjk] at hj
        obtain ⟨ms, hms, hin⟩ := h.linked.members j i hj
        by_cases hil : i = l
        · subst hil
          refine ⟨_, Function.update_self .., List.mem_append_left _ ?_⟩
          obtain he | he := hlist
          · obtain hr | ⟨ns, hr⟩ := hlead
            · exact nomatch ((look_some hl Role.none Band.role).trans hr).symm.trans hms
            · have hns : s.roleOf i = .leader ns := (look_some hl Role.none Band.role).trans hr
              have hmem : lb.members = ns := by simp [Band.members, hr]
              rw [hmem, Role.leader.inj (hns.symm.trans hms)]
              exact hin
          · rw [Role.leader.inj (he.symm.trans hms)]
            exact hin
        · have hik : i ≠ k := by
            rintro rfl
            exact (nomatch hwas.symm.trans hms)
          exact ⟨ms, by rw [Function.update_of_ne hil, Function.update_of_ne hik, hms], hin⟩
  · rw [show (u.setBand l _).prevOf = s.prevOf from hlook rfl rfl, show (u.setBand l _).nextOf = s.nextOf from hlook rfl rfl]
    exact h.linked.chains
  · rw [show (u.setBand l _).prevOf = s.prevOf from hlook rfl rfl]
    exact h.linked.short
  · have hsoundl := h.linked.sound l lb hl
    have hsoundk := h.linked.sound k b hb
    by_cases hjl : j = l
    · subst hjl
      rw [setBand_band_self _ _ (s.slot_of_band hl)] at hj
      obtain rfl := Option.some.inj hj
      refine ⟨hsoundl.room.trans ?_, fun _ => hlvisitor, hsoundl.reissued, hsoundl.staff, Band.holdingFits_active hlactive⟩
      obtain hr | ⟨ms, hr⟩ := hlead <;> simp [hr, Role.room]
    · rw [setBand_band_ne _ _ (Ne.symm hjl)] at hj
      by_cases hjk : j = k
      · subst hjk
        rw [setBand_band_self _ _ (s.slot_of_band hb)] at hj
        obtain rfl := Option.some.inj hj
        exact ⟨by simp [hlockers], fun _ => hvisitor, hsoundk.reissued, hsoundk.staff, Band.holdingFits_active hactive⟩
      · rw [setBand_band_ne _ _ (Ne.symm hjk)] at hj
        exact h.linked.sound j b' hj

end State

/-! ### ISSUE_BAND (R10, R11, R13) -/

section Issue

variable {s : State} {q : IssueRequest} {slot : Nat}

theorem IssueRequest.band_fresh (q : IssueRequest) (s : State) : State.Fresh (q.band s none) := ⟨rfl, rfl, rfl, rfl, rfl, rfl⟩

theorem State.setBand_mapSerial (s : State) (j m k : Nat) (b : Option Band) :
    (s.mapSerial m k).setBand j b = (s.setBand j b).mapSerial m k := by
  unfold setBand mapSerial
  split <;> rfl

/-- What the record an assignment binds to is, once created. -/
structure State.Ready (t : State) (h held : Nat) (role : Role) : Prop where
  agrees : t.Agrees
  holder : ∃ hb, t.band h = some hb ∧ hb.state = .active ∧ (held < role.capacity → hb.lockers.length < hb.role.room)

theorem State.createBand_alone_ready (h : s.Agrees) (hfree : s.freeSlot = some slot) (hmap : s.slotOf q.serial = none) :
    (s.createBand q slot none).Ready slot 0 .none := by
  obtain ⟨h1, h2, hnone, -⟩ := State.freeSlot_some hfree
  exact ⟨h.create ⟨h1, h2⟩ hnone (q.band_fresh s) hmap, q.band s none,
    (State.createBand_band_self (leader := none) ⟨h1, h2⟩ nofun), rfl, fun _ => Nat.zero_lt_one⟩

theorem State.createBand_joined_ready {l : Nat} (h : s.Agrees) (hfree : s.freeSlot = some slot)
    (hmap : s.slotOf q.serial = none) (hl : s.leaderFor q.leader = .ok (some l)) (hstaff : q.staff = false) :
    (s.createBand q slot (some l)).Ready l (s.heldBy l) (.member l) := by
  obtain ⟨h1, h2, hnone, -⟩ := State.freeSlot_some hfree
  obtain ⟨lb, hlb, hlactive, hlvisitor, hlead⟩ := State.leaderFor_band hl
  have hne : slot ≠ l := by
    rintro rfl
    exact (nomatch hnone.symm.trans hlb)
  have hlead' : lb.role = .none ∨ ∃ ms, lb.role = .leader ms := hlead.imp_right fun ⟨ms, hr, _⟩ => ⟨ms, hr⟩
  have hroom : lb.members.length < Config.groupCapacity := by
    obtain hr | ⟨ms, hr, hlen⟩ := hlead
    · simp [Band.members, hr, Config.groupCapacity]
    · simpa [Band.members, hr, Config.groupCapacity] using hlen
  have hadd : lb.addMember slot = { lb with role := .leader (lb.members ++ [slot]) } :=
    Band.addMember_eq slot fun j hj => by
      obtain hr | ⟨ms, hr⟩ := hlead' <;> exact nomatch hr.symm.trans hj
  have hcreated := h.create (k := slot) ⟨h1, h2⟩ hnone (q.band_fresh s) hmap
  have hself : ((s.setBand slot (some (q.band s none))).mapSerial q.serial slot).band slot = some (q.band s none) := by
    rw [State.mapSerial_band, State.setBand_band_self _ _ ⟨h1, h2⟩]
  have hleader : ((s.setBand slot (some (q.band s none))).mapSerial q.serial slot).band l = some lb := by
    rw [State.mapSerial_band, State.setBand_band_ne _ _ hne, hlb]
  have hjoined := hcreated.join hself hleader (by simp [Band.isVisitor, IssueRequest.band, hstaff]) rfl rfl rfl hne hlactive
    hlvisitor hlead' hroom
  have heq : s.createBand q slot (some l) =
      (((s.setBand slot (some (q.band s none))).mapSerial q.serial slot).setBand slot
        (some { q.band s none with role := .member l })).setBand l (some { lb with role := .leader (lb.members ++ [slot]) }) := by
    rw [State.createBand_eq, State.joinLeader, State.setBand_mapSerial, State.setBand_setBand, ← hadd]
    exact State.updBand_some _ (by rw [State.mapSerial_band, State.setBand_band_ne _ _ hne, hlb])
  refine ⟨heq ▸ hjoined, { lb with role := .leader (lb.members ++ [slot]) }, ?_, hlactive, fun hheld => ?_⟩
  · rw [heq, State.setBand_band_self _ _ (s.slot_of_band hlb)]
  · rw [State.heldBy_some hlb] at hheld
    exact hheld

theorem State.createBand_ready {leader : Option Nat} (h : s.Agrees) (hfree : s.freeSlot = some slot)
    (hmap : s.slotOf q.serial = none) (hl : s.leaderFor q.leader = .ok leader) (hq : q.inRange = true) :
    (s.createBand q slot leader).Ready (leader.getD slot) ((leader.map s.heldBy).getD 0) (roleFor leader) := by
  cases leader with
  | none => exact State.createBand_alone_ready h hfree hmap
  | some l =>
    refine State.createBand_joined_ready h hfree hmap hl ?_
    cases hstaff : q.staff with
    | false => rfl
    | true =>
      have hnoLeader : q.leader = none := by
        simp only [IssueRequest.inRange, Bool.and_eq_true, Bool.or_eq_true, hstaff] at hq
        simpa using hq.1.1.2
      rw [hnoLeader] at hl
      cases hl

theorem agrees_issueBand (r : Request) (h : s.Agrees) : (issueBand r s).2.Agrees := by
  unfold issueBand
  split
  · exact h
  next q _ =>
    split
    · exact h
    next hq =>
      have hq' : q.inRange = true := by simpa using hq
      iterate 2
        split
        · exact h
      split
      · exact h
      next hmap =>
        have hmap' : s.slotOf q.serial = none := Option.not_isSome_iff_eq_none.1 hmap
        split
        · exact h
        next leader hl =>
          split
          · exact h
          next slot hfree =>
            split
            · exact h
            next n hn =>
              obtain ⟨hcreated, hb, hband, hactive, hroom⟩ := State.createBand_ready h hfree hmap' hl hq'
              dsimp only [accept]
              split
              · exact hcreated
              next hn0 =>
                cases ha : q.assignment with
                | none =>
                  rw [State.issueLocker_unasked _ _ ha] at hn
                  exact absurd (Except.ok.inj hn).symm hn0
                | some a =>
                  rw [State.issueLocker_asked _ _ ha] at hn
                  refine State.agrees_reserve hcreated ?_ hband hactive (hroom (Nat.lt_of_not_le fun hfull =>
                    (nomatch (State.assignment_full _ hfull).symm.trans hn)))
                  rw [State.createBand_locker]
                  exact State.assignment_free hn

end Issue

end Sys2Proof.Machine
end

section
/-! PROOFS. The agreement of the binding tables under CLOSE_DAY (R26). -/

namespace Sys2Proof.Machine

namespace State

variable {s : State}

/-! ### The serial map read by its entries -/

theorem find?_rising {l : List (Nat × Nat)} (hl : l.Pairwise fun a b => a.1 < b.1) (m k : Nat) :
    (l.find? fun e => e.1 == m).map (·.2) = some k ↔ (m, k) ∈ l := by
  induction l with
  | nil => simp
  | cons a rest ih =>
    obtain ⟨ha, hrest⟩ := List.pairwise_cons.1 hl
    by_cases hm : a.1 = m
    · subst hm
      have hnot : (a.1, k) ∉ rest := fun hin => Nat.lt_irrefl a.1 (ha (a.1, k) hin)
      simp only [List.find?_cons, beq_self_eq_true, Option.map_some, List.mem_cons, hnot, or_false, Option.some.injEq]
      exact ⟨fun h => h ▸ rfl, fun h => congrArg Prod.snd h.symm⟩
    · have hne : (m, k) ≠ a := fun he => hm (congrArg Prod.fst he).symm
      simp only [List.find?_cons, beq_eq_false_iff_ne.2 hm, List.mem_cons, hne, false_or]
      exact ih hrest

theorem slotOf_iff_mem (hs : s.engine.serialMap.Pairwise fun a b => a.1 < b.1) {m k : Nat} :
    s.slotOf m = some k ↔ (m, k) ∈ s.engine.serialMap := find?_rising hs m k

/-! ### What a closed day keeps of the records -/

/-- A record that stays is a staff record. -/
theorem band_of_emptyVisitors {k : Nat} {b : Band} (h : s.emptyVisitors.band k = some b) :
    s.holdsVisitor k = false ∧ s.band k = some b ∧ b.isVisitor = false := by
  rw [emptyVisitors_band] at h
  split at h
  · cases h
  next hv =>
    have hnot : s.holdsVisitor k = false := Bool.not_eq_true _ ▸ hv
    refine ⟨hnot, h, ?_⟩
    rw [holdsVisitor, h] at hnot
    exact hnot

theorem look_emptyVisitors {α : Type} (d : α) (v : Band → α) (k : Nat) :
    s.emptyVisitors.look d v k = if s.holdsVisitor k then d else s.look d v k := by
  unfold look
  rw [emptyVisitors_band]
  split <;> rfl

theorem look_emptyVisitors_default {α : Type} {d : α} {v : Band → α}
    (h : ∀ k b, s.band k = some b → b.isVisitor = false → v b = d) (k : Nat) : s.emptyVisitors.look d v k = d := by
  cases hb : s.emptyVisitors.band k with
  | none => exact look_none hb d v
  | some b =>
    obtain ⟨-, hband, hnot⟩ := band_of_emptyVisitors hb
    exact (look_some hb d v).trans (h k b hband hnot)

theorem Linked.staff (h : s.Linked) {k : Nat} {b : Band} (hb : s.band k = some b) (hnot : b.isVisitor = false) :
    b.role = .none ∧ b.previous = none ∧ b.next = none := by
  have hsound := h.sound k b hb
  refine ⟨?_, hsound.staff ?_⟩
  · by_contra hr
    exact nomatch hnot.symm.trans (hsound.visitor hr)
  · unfold Band.isVisitor at hnot
    split at hnot
    · cases hnot
    · assumption

/-! ### CLOSE_DAY's checks -/

/-- Nothing moves and nobody is inside. -/
structure Closable (s : State) : Prop where
  lockers : ∀ n, 1 ≤ n → n ≤ 1024 → (s.locker n).moving = false
  cabins : ∀ c, 1 ≤ c → c ≤ 64 → (s.cabin c).state ∈ emptyStates

theorem AgreesBut.noOccupant (h : s.Agrees) (hc : s.Closable) (c : Nat) : s.occupantOf c = none := by
  by_contra ho
  obtain ⟨k, hk⟩ := Option.ne_none_iff_exists'.1 ho
  obtain ⟨h1, h2⟩ := range_of_occupant hk
  exact ho ((h.occupantFits c).empty (hc.cabins c h1 h2))

theorem AgreesBut.noCabin (h : s.Agrees) (hc : s.Closable) (k : Nat) : s.cabinOf k = none := by
  by_contra ho
  obtain ⟨c, hk⟩ := Option.ne_none_iff_exists'.1 ho
  obtain ⟨h1, h2⟩ := h.linked.cabins k c hk
  exact nomatch (h.noOccupant hc c).symm.trans ((h.linked.inside c k h1 h2).2 hk)

/-- A held locker that does not move takes the state that Table 2-6 gives, without its holder. -/
theorem AgreesBut.closed (h : s.Agrees) (hc : s.Closable) {n j : Nat} (hj : (s.locker n).holder = some j)
    (hv : s.holdsVisitor j = true) :
    (s.closeLocker (s.locker n)).holder = none ∧ (s.closeLocker (s.locker n)).state ∈ unheldStates := by
  obtain ⟨h1, h2⟩ := range_of_holder hj
  have hstill := hc.lockers n h1 h2
  have hfits := h.holderFits n
  have hnot : (s.locker n).state ∉ unheldStates := fun hin => nomatch (hfits.unheld hin).symm.trans hj
  obtain ⟨st, hst, hin⟩ : ∃ st, (s.locker n).closeState = some st ∧ st ∈ unheldStates := by
    unfold Locker.closeState
    unfold Locker.moving at hstill
    cases hs : (s.locker n).state with
    | unfitted | free | orphaned | outOfService => simp [hs, unheldStates] at hnot
    | latching | unlatching => simp [hs] at hstill
    | locked | fault => exact ⟨_, rfl, by simp [unheldStates]⟩
    | reserved | released | opened | closing => exact ⟨_, rfl, by simp [unheldStates]⟩
    | forced =>
      dsimp only
      split <;> exact ⟨_, rfl, by simp [unheldStates]⟩
  rw [closeLocker_of_visitor s hj hv hst]
  exact ⟨rfl, hin⟩

theorem AgreesBut.closedFits (h : s.Agrees) (hc : s.Closable) {n : Nat} (h1 : 1 ≤ n) (h2 : n ≤ 1024) :
    (s.closeLocker (s.locker n)).Fits (s.configured (lockerAt n).1) := by
  have hfits := h.lockers n h1 h2 nofun
  by_cases hv : (s.locker n).holder.any s.holdsVisitor = true
  · obtain ⟨j, hj, hvisitor⟩ := Option.any_eq_true _ _ |>.1 hv
    obtain ⟨hnone, hin⟩ := h.closed hc hj hvisitor
    refine ⟨fun hconf => ?_, Locker.holderFits_unheld hin hnone⟩
    exact nomatch ((h.holderFits n).unheld (by simp [hfits.1 hconf, unheldStates])).symm.trans hj
  · rw [closeLocker_of_other s (Bool.not_eq_true _ ▸ hv)]
    exact hfits

theorem AgreesBut.closedHeld (h : s.Agrees) (hc : s.Closable) {n : Nat} (j : Nat) (h1 : 1 ≤ n) (h2 : n ≤ 1024) :
    s.emptyVisitors.holderOf n = some j ↔ n ∈ s.emptyVisitors.lockersOf j := by
  have hwas := h.linked.held n j h1 h2
  rw [holderOf, emptyVisitors_locker s ⟨h1, h2⟩, lockersOf, look_emptyVisitors]
  by_cases hv : (s.locker n).holder.any s.holdsVisitor = true
  · obtain ⟨i, hi, hvisitor⟩ := Option.any_eq_true _ _ |>.1 hv
    rw [(h.closed hc hi hvisitor).1]
    refine iff_of_false nofun fun hin => ?_
    split at hin
    · cases hin
    next hstaff =>
      obtain rfl := Option.some.inj (hi.symm.trans (hwas.2 hin))
      exact hstaff hvisitor
  · rw [closeLocker_of_other s (Bool.not_eq_true _ ▸ hv)]
    split
    next hvisitor =>
      refine iff_of_false (fun hj => hv ?_) nofun
      rw [hj]
      exact hvisitor
    · exact hwas

theorem AgreesBut.emptied (h : s.Agrees) (hc : s.Closable) : s.emptyVisitors.Agrees := by
  have hcabinOf (k : Nat) : s.emptyVisitors.cabinOf k = none :=
    look_emptyVisitors_default (fun j b hb _ => (look_some hb none Band.cabin).symm.trans (h.noCabin hc j)) k
  have hroleOf (k : Nat) : s.emptyVisitors.roleOf k = .none :=
    look_emptyVisitors_default (fun j b hb hnot => (h.linked.staff hb hnot).1) k
  have hprevOf (k : Nat) : s.emptyVisitors.prevOf k = none :=
    look_emptyVisitors_default (fun j b hb hnot => (h.linked.staff hb hnot).2.1) k
  have hnextOf (k : Nat) : s.emptyVisitors.nextOf k = none :=
    look_emptyVisitors_default (fun j b hb hnot => (h.linked.staff hb hnot).2.2) k
  have hrising : s.emptyVisitors.engine.serialMap.Pairwise fun a b => a.1 < b.1 := h.linked.rising.filter _
  refine ⟨⟨fun n j => h.closedHeld hc j, fun k => ?_, fun c k h1 h2 => ?_, fun k c hk => ?_, hrising, fun m k => ?_,
    fun k ms hk => ?_, fun k l hk => ?_, fun k p => ?_, fun k => ?_, fun k b hb => ?_⟩, fun n h1 h2 _ => ?_,
    fun c h1 h2 _ => h.cabins c h1 h2 nofun⟩
  · rw [lockersOf, look_emptyVisitors]
    split
    · exact ⟨List.nodup_nil, nofun⟩
    · exact h.linked.lists k
  · rw [hcabinOf]
    exact iff_of_false (fun ho => nomatch (h.noOccupant hc c).symm.trans ho) nofun
  · exact nomatch (hcabinOf k).symm.trans hk
  · rw [slotOf_iff_mem hrising, markOf, look_emptyVisitors]
    have hwas := h.linked.serials m k
    rw [slotOf_iff_mem h.linked.rising] at hwas
    have hfilter : (m, k) ∈ s.emptyVisitors.engine.serialMap ↔ (m, k) ∈ s.engine.serialMap ∧ s.holdsVisitor k = false := by
      simp [emptyVisitors]
    rw [hfilter]
    split
    next hv => exact iff_of_false (fun hin => nomatch hv.symm.trans hin.2) nofun
    next hv => exact (and_iff_left (Bool.not_eq_true _ ▸ hv)).trans hwas
  · exact nomatch (hroleOf k).symm.trans hk
  · exact nomatch (hroleOf k).symm.trans hk
  · rw [hprevOf, hnextOf]
    exact iff_of_false nofun nofun
  · rw [hprevOf]
    exact (by decide : 0 < Config.chainCapacity)
  · exact h.linked.sound k b (band_of_emptyVisitors hb).2.1
  · unfold LockerFits
    rw [emptyVisitors_locker s ⟨h1, h2⟩]
    exact h.closedFits hc h1 h2

end State

theorem agrees_closeDay {s : State} (r : Request) (h : s.Agrees) : (closeDay r s).2.Agrees := by
  unfold closeDay
  split
  · exact h
  split
  · exact h
  next hstill =>
    split
    · exact h
    next hempty =>
      simp only [Bool.or_eq_true, State.lockers_any_iff, State.cabins_any_iff, not_or, not_exists, not_and,
        Bool.not_eq_true] at hstill hempty
      refine h.emptied ⟨hstill.1, fun c h1 h2 => ?_⟩
      have hmove := hstill.2 c h1 h2
      have hinside : (s.cabin c).state ≠ .occupied := by simpa using hempty c h1 h2
      unfold Cabin.moving at hmove
      cases hs : (s.cabin c).state with
      | unfitted | vacant | outOfService => simp [emptyStates]
      | latching | unlatching => simp [hs] at hmove
      | occupied => exact absurd hs hinside

end Sys2Proof.Machine
end

section
/-! PROOFS. The agreement of the binding tables under REISSUE_BAND (R17 to R20): the visit's links with the two slots swapped,
and the chain one record longer. -/

namespace Sys2Proof.Machine

/-! ### Roles under a renaming of the slots -/

/-- The slots that a role names. -/
def Role.names : Role → List Nat
  | .none => []
  | .leader ms => ms
  | .member l => [l]

/-- A role with the slots it names renamed. -/
def Role.rename (σ : Equiv.Perm Nat) : Role → Role
  | .none => .none
  | .leader ms => .leader (ms.map σ)
  | .member l => .member (σ l)

/-- A record with the slots its role names renamed. -/
def Band.rename (σ : Equiv.Perm Nat) (b : Band) : Band := { b with role := b.role.rename σ }

section Rename

variable {σ : Equiv.Perm Nat} {r : Role} {b : Band}

theorem Role.rename_fixed (h : ∀ m ∈ r.names, σ m = m) : r.rename σ = r := by
  cases r with
  | none => rfl
  | leader ms => exact congrArg Role.leader (List.map_congr_left h |>.trans (List.map_id ms))
  | member l => exact congrArg Role.member (h l (List.mem_singleton.2 rfl))

theorem Role.rename_leader {ms : List Nat} : r.rename σ = .leader ms ↔ ∃ ns, r = .leader ns ∧ ms = ns.map σ := by
  cases r <;> simp [Role.rename, eq_comm]

theorem Role.rename_member {l : Nat} : r.rename σ = .member l ↔ r = .member (σ.symm l) := by
  cases r <;> simp [Role.rename, Equiv.eq_symm_apply]

theorem Band.rename_fixed (h : ∀ m ∈ b.role.names, σ m = m) : b.rename σ = b := by
  unfold Band.rename
  rw [Role.rename_fixed h]

theorem Band.Sound.rename (h : b.Sound) (σ : Equiv.Perm Nat) : (b.rename σ).Sound where
  room := by
    refine h.room.trans (Nat.le_of_eq ?_)
    unfold Band.rename
    cases b.role <;> rfl
  visitor := fun hr => h.visitor fun he => hr (by rw [Band.rename, he]; rfl)
  reissued := h.reissued
  staff := h.staff
  holding := by
    have hmembers : b.members = [] → (b.rename σ).members = [] := fun he => by
      cases hr : b.role <;> simp_all [Band.rename, Role.rename, Band.members]
    have hhold := h.holding
    unfold Band.HoldingFits at hhold ⊢
    rw [show (b.rename σ).state = b.state from rfl]
    cases hs : b.state with
    | active => trivial
    | revoked =>
      rw [hs] at hhold
      exact ⟨hhold.1, fun hn => ⟨(hhold.2 hn).1, by rw [Band.rename, (hhold.2 hn).2]; rfl⟩⟩
    | owing _ =>
      rw [hs] at hhold
      exact ⟨hhold.1, hmembers hhold.2⟩
    | cleared _ =>
      rw [hs] at hhold
      exact ⟨hhold.1, hmembers hhold.2.1, hhold.2.2⟩

end Rename

theorem Locker.Fits.rehold {conf : Bool} {l : Locker} (h : l.Fits conf) (f : Nat → Nat) :
    ({ l with holder := l.holder.map f } : Locker).Fits conf := by
  obtain ⟨hconf, hfits⟩ := h
  refine ⟨hconf, ?_⟩
  unfold Locker.HolderFits at hfits ⊢
  cases hs : l.state <;> simp_all

theorem Cabin.Fits.reoccupy {conf : Bool} {k : Cabin} (h : k.Fits conf) (f : Nat → Nat) :
    ({ k with occupant := k.occupant.map f } : Cabin).Fits conf := by
  obtain ⟨hconf, hfits⟩ := h
  refine ⟨hconf, ?_⟩
  unfold Cabin.OccupantFits at hfits ⊢
  cases hs : k.state <;> simp_all

/-! ### A chain one record longer (R17) -/

section Chain

variable {p q : Nat → Option Nat}

/-- A walk that never meets a slot reads nothing of its link. -/
theorem chainFrom_congr {x : Nat} (hpq : ∀ k, k ≠ x → p k = q k) (hq : ∀ k, q k ≠ some x) (fuel : Nat) {o : Option Nat}
    (ho : o ≠ some x) : chainFrom p fuel o = chainFrom q fuel o := by
  induction fuel generalizing o with
  | zero => rfl
  | succ fuel ih =>
    cases o with
    | none => rfl
    | some k =>
      have hk : p k = q k := hpq k fun he => ho (congrArg some he)
      simp only [chainFrom, hk, ih (hq k)]

theorem chainFrom_length_succ (fuel : Nat) (o : Option Nat) :
    (chainFrom p fuel o).length ≤ (chainFrom p (fuel + 1) o).length := by
  induction fuel generalizing o with
  | zero => exact Nat.zero_le _
  | succ fuel ih =>
    cases o with
    | none => exact Nat.le_refl _
    | some k => exact Nat.succ_le_succ (ih (p k))

end Chain

namespace State

variable {s : State} {old new serial : Nat} {b : Band}

/-! ### Roles name one another -/

theorem Linked.names_symm (h : s.Linked) {k m : Nat} (hm : m ∈ (s.roleOf k).names) : k ∈ (s.roleOf m).names := by
  cases hr : s.roleOf k with
  | none =>
    rw [hr] at hm
    cases hm
  | leader ms =>
    rw [hr] at hm
    rw [(h.leaders k ms hr).2.2 m hm]
    exact List.mem_singleton.2 rfl
  | member l =>
    rw [hr] at hm
    obtain rfl := List.mem_singleton.1 hm
    obtain ⟨ms, hms, hin⟩ := h.members k m hr
    rw [hms]
    exact hin

theorem Linked.names_irrefl (h : s.Linked) (k : Nat) : k ∉ (s.roleOf k).names := fun hk => by
  cases hr : s.roleOf k with
  | none =>
    rw [hr] at hk
    cases hk
  | leader ms =>
    rw [hr] at hk
    exact nomatch hr.symm.trans ((h.leaders k ms hr).2.2 k hk)
  | member l =>
    rw [hr] at hk
    obtain rfl := List.mem_singleton.1 hk
    obtain ⟨ms, hms, -⟩ := h.members k k hr
    exact nomatch hr.symm.trans hms

theorem Linked.names_band (h : s.Linked) {k : Nat} (hk : s.band k = none) (j : Nat) : k ∉ (s.roleOf j).names := fun hj => by
  have := h.names_symm hj
  rw [show s.roleOf k = .none from look_none hk Role.none Band.role] at this
  cases this

theorem mem_names {b : Band} {k : Nat} : k ∈ b.role.names ↔ k ∈ b.members ∨ b.leaderSlot = some k := by
  cases hr : b.role <;> simp [Role.names, Band.members, Band.leaderSlot, hr, eq_comm]

/-! ### The records after a reissue (R19, R20) -/

/-- What REISSUE_BAND has checked. -/
structure Reissues (s : State) (old : Nat) (b : Band) (serial new : Nat) : Prop where
  band : s.band old = some b
  slot : 1 ≤ new ∧ new ≤ 2047
  empty : s.band new = none
  visitor : b.isVisitor = true
  standing : b.state ≠ .revoked
  unmapped : s.slotOf serial = none

section Reissued

variable (h : s.Linked) (hr : s.Reissues old b serial new)
include h hr

theorem Reissues.next_none : b.next = none := by
  by_contra hn
  exact hr.standing ((h.sound old b hr.band).reissued hn)

omit h in
theorem Reissues.ne : new ≠ old := by
  rintro rfl
  exact nomatch hr.empty.symm.trans hr.band

omit h in
theorem Reissues.role : s.roleOf old = b.role := look_some hr.band Role.none Band.role

/-- A slot that a role names, but for the old one, stands under the swap. -/
theorem Reissues.swap_name {k m : Nat} (hm : m ∈ (s.roleOf k).names) (hne : m ≠ old) : Equiv.swap old new m = m :=
  Equiv.swap_apply_of_ne_of_ne hne fun he => h.names_band hr.empty k (he ▸ hm)

theorem Reissues.rename_old : b.rename (Equiv.swap old new) = b :=
  Band.rename_fixed fun m hm => by
    rw [← hr.role] at hm
    exact Reissues.swap_name h hr hm fun he => h.names_irrefl old (he ▸ hm)

theorem reissue_band_old : (s.reissue old b serial new).band old = some (b.retired new) := by
  have hnot : old ∉ b.role.names := by
    rw [← hr.role]
    exact h.names_irrefl old
  obtain ⟨hm, hl⟩ := not_or.1 (mt mem_names.2 hnot)
  rw [reissue_eq, moveReferences_band_of_stranger _ _ _ _ hm hl, copied_band (s.slot_of_band hr.band) hr.slot, if_pos rfl]

theorem reissue_band_new : (s.reissue old b serial new).band new = some (b.replacement serial old) := by
  have hnot : new ∉ b.role.names := by
    rw [← hr.role]
    exact h.names_band hr.empty old
  obtain ⟨hm, hl⟩ := not_or.1 (mt mem_names.2 hnot)
  rw [reissue_eq, moveReferences_band_of_stranger _ _ _ _ hm hl, copied_band (s.slot_of_band hr.band) hr.slot,
    if_neg hr.ne, if_pos rfl]

theorem reissue_band_other {k : Nat} (hold : k ≠ old) (hnew : k ≠ new) :
    (s.reissue old b serial new).band k = (s.band k).map (Band.rename (Equiv.swap old new)) := by
  have hcopied : (s.copied b serial old new).band k = s.band k := by
    rw [copied_band (s.slot_of_band hr.band) hr.slot, if_neg hold, if_neg hnew]
  have hrole := hr.role
  cases hk : s.band k with
  | none =>
    rw [reissue_eq, moveReferences_band, hcopied, hk]
    simp
  | some bk =>
    have hrk : s.roleOf k = bk.role := look_some hk Role.none Band.role
    by_cases hin : k ∈ b.role.names
    · rw [reissue_eq, moveReferences_band, hcopied, hk]
      cases hb : b.role with
      | none =>
        rw [hb] at hin
        cases hin
      | leader ms =>
        rw [hb] at hin
        have hmem : s.roleOf k = .member old := (h.leaders old ms (hrole.trans hb)).2.2 k hin
        have hbk : bk.role = .member old := hrk.symm.trans hmem
        have hmembers : k ∈ b.members := by simpa [Band.members, hb, Role.names] using hin
        have hleader : b.leaderSlot ≠ some k := by simp [Band.leaderSlot, hb]
        dsimp only
        rw [if_pos hmembers, if_neg hleader, Option.map_some, Band.moveLeader_member new hbk]
        simp [Band.rename, Role.rename, hbk]
      | member l =>
        rw [hb] at hin
        obtain rfl := List.mem_singleton.1 hin
        obtain ⟨ms, hms, -⟩ := h.members old k (hrole.trans hb)
        have hbk : bk.role = .leader ms := hrk.symm.trans hms
        have hmembers : k ∉ b.members := by simp [Band.members, hb]
        have hleader : b.leaderSlot = some k := by simp [Band.leaderSlot, hb]
        have hlist : (ms.map fun m => if m = old then new else m) = ms.map (Equiv.swap old new) :=
          List.map_congr_left fun m hm => by
            by_cases he : m = old
            · rw [if_pos he, he, Equiv.swap_apply_left]
            · rw [if_neg he, Reissues.swap_name h hr (k := k) (by rw [hms]; exact hm) he]
        dsimp only
        rw [if_neg hmembers, if_pos hleader, Option.map_some, Band.moveMember_leader old new hbk, hlist]
        simp [Band.rename, Role.rename, hbk]
    · obtain ⟨hm, hl⟩ := not_or.1 (mt mem_names.2 hin)
      rw [reissue_eq, moveReferences_band_of_stranger _ _ _ _ hm hl, hcopied, hk, Option.map_some]
      refine congrArg some (Band.rename_fixed fun m hm' => ?_).symm
      rw [← hrk] at hm'
      refine Reissues.swap_name h hr hm' fun he => hin ?_
      rw [← hrole]
      exact h.names_symm (he ▸ hm')

/-- A field that a renaming leaves reads in every other slot as before. -/
theorem look_reissue_other {α : Type} {d : α} {v : Band → α}
    (hv : ∀ bk : Band, v (bk.rename (Equiv.swap old new)) = v bk) {k : Nat} (hold : k ≠ old) (hnew : k ≠ new) : (s.reissue old b serial new).look d v k = s.look d v k := by
  unfold look
  rw [reissue_band_other h hr hold hnew]
  cases s.band k with
  | none => rfl
  | some bk => exact hv bk

/-- A field that the replacement takes over, and the old record loses, reads as with the slots swapped. -/
theorem look_reissue {α : Type} {d : α} {v : Band → α} (hv : ∀ bk : Band, v (bk.rename (Equiv.swap old new)) = v bk)
    (hlost : v (b.retired new) = d) (htaken : v (b.replacement serial old) = v b) (k : Nat) :
    (s.reissue old b serial new).look d v k = s.look d v (Equiv.swap old new k) := by
  by_cases hold : k = old
  · rw [hold, Equiv.swap_apply_left, look_some (reissue_band_old h hr), look_none hr.empty, hlost]
  · by_cases hnew : k = new
    · rw [hnew, Equiv.swap_apply_right, look_some (reissue_band_new h hr), look_some hr.band, htaken]
    · rw [Equiv.swap_apply_of_ne_of_ne hold hnew, look_reissue_other h hr hv hold hnew]

theorem roleOf_reissue (k : Nat) :
    (s.reissue old b serial new).roleOf k = (s.roleOf (Equiv.swap old new k)).rename (Equiv.swap old new) := by
  by_cases hold : k = old
  · rw [hold, Equiv.swap_apply_left, roleOf, look_some (reissue_band_old h hr),
      show s.roleOf new = .none from look_none hr.empty Role.none Band.role]
    rfl
  · by_cases hnew : k = new
    · rw [hnew, Equiv.swap_apply_right, roleOf, look_some (reissue_band_new h hr), hr.role]
      exact (congrArg Band.role (Reissues.rename_old h hr)).symm
    · rw [Equiv.swap_apply_of_ne_of_ne hold hnew, roleOf, roleOf, look, look, reissue_band_other h hr hold hnew]
      cases s.band k <;> rfl

theorem prevOf_reissue : (s.reissue old b serial new).prevOf = Function.update s.prevOf new (some old) := by
  funext k
  by_cases hnew : k = new
  · rw [hnew, Function.update_self, prevOf, look_some (reissue_band_new h hr)]
    rfl
  · rw [Function.update_of_ne hnew]
    by_cases hold : k = old
    · rw [hold, prevOf, prevOf, look_some (reissue_band_old h hr), look_some hr.band]
      rfl
    · exact look_reissue_other h hr (fun _ => rfl) hold hnew

theorem nextOf_reissue : (s.reissue old b serial new).nextOf = Function.update s.nextOf old (some new) := by
  funext k
  by_cases hold : k = old
  · rw [hold, Function.update_self, nextOf, look_some (reissue_band_old h hr)]
    rfl
  · rw [Function.update_of_ne hold]
    by_cases hnew : k = new
    · rw [hnew, nextOf, nextOf, look_some (reissue_band_new h hr), look_none hr.empty]
      rfl
    · exact look_reissue_other h hr (fun _ => rfl) hold hnew

theorem markOf_reissue : (s.reissue old b serial new).markOf = Function.update s.markOf new (some serial) := by
  funext k
  by_cases hnew : k = new
  · rw [hnew, Function.update_self, markOf, look_some (reissue_band_new h hr)]
    rfl
  · rw [Function.update_of_ne hnew]
    by_cases hold : k = old
    · rw [hold, markOf, markOf, look_some (reissue_band_old h hr), look_some hr.band]
      rfl
    · exact look_reissue_other h hr (fun _ => rfl) hold hnew

/-! ### Lockers, cabins and the serial map after a reissue -/

theorem reissue_locker {n : Nat} (hn : 1 ≤ n ∧ n ≤ 1024) :
    (s.reissue old b serial new).locker n =
      { s.locker n with holder := (s.locker n).holder.map (Equiv.swap old new) } := by
  have hheld := h.held n
  have hlist : s.lockersOf old = b.lockers := look_some hr.band [] Band.lockers
  have hempty : s.lockersOf new = [] := look_none hr.empty [] Band.lockers
  rw [reissue_eq, moveReferences_locker _ _ _ _ hn, copied_locker]
  split
  next hin =>
    have hold : (s.locker n).holder = some old := (hheld old hn.1 hn.2).2 (hlist ▸ hin)
    rw [hold, Option.map_some, Equiv.swap_apply_left]
  next hout =>
    cases hj : (s.locker n).holder with
    | none => rw [Option.map_none, ← hj]
    | some j =>
      have hin : n ∈ s.lockersOf j := (hheld j hn.1 hn.2).1 hj
      rw [Option.map_some, Equiv.swap_apply_of_ne_of_ne, ← hj]
      · rintro rfl
        exact hout (hlist ▸ hin)
      · rintro rfl
        rw [hempty] at hin
        cases hin

theorem reissue_cabin {c : Nat} (hc : 1 ≤ c ∧ c ≤ 64) :
    (s.reissue old b serial new).cabin c =
      { s.cabin c with occupant := (s.cabin c).occupant.map (Equiv.swap old new) } := by
  have hinside := h.inside c
  have hname : s.cabinOf old = b.cabin := look_some hr.band none Band.cabin
  have hempty : s.cabinOf new = none := look_none hr.empty none Band.cabin
  rw [reissue_eq, moveReferences_cabin _ _ _ _ hc, copied_cabin]
  split
  next hin =>
    have hold : (s.cabin c).occupant = some old := (hinside old hc.1 hc.2).2 (hname.trans hin)
    rw [hold, Option.map_some, Equiv.swap_apply_left]
  next hout =>
    cases hj : (s.cabin c).occupant with
    | none => rw [Option.map_none, ← hj]
    | some j =>
      have hin : s.cabinOf j = some c := (hinside j hc.1 hc.2).1 hj
      rw [Option.map_some, Equiv.swap_apply_of_ne_of_ne, ← hj]
      · rintro rfl
        exact hout (hname.symm.trans hin)
      · rintro rfl
        exact nomatch hempty.symm.trans hin

omit h hr in
theorem reissue_serialMap :
    (s.reissue old b serial new).engine.serialMap = mapInsert serial new s.engine.serialMap := by
  have hledger := congrArg Prod.fst ((s.copied b serial old new).moveReferences_ledger b old new)
  have hcopied : (s.copied b serial old new).engine.serialMap = mapInsert serial new s.engine.serialMap := by
    simp [copied, mapSerial]
  exact hledger.trans hcopied

omit h in
theorem reissue_slotOf (m : Nat) :
    (s.reissue old b serial new).slotOf m = if m = serial then some new else s.slotOf m := by
  rw [← copied_slotOf (b := b) (old := old) (new := new) hr.unmapped]
  exact slotOf_of_map (congrArg Prod.fst ((s.copied b serial old new).moveReferences_ledger b old new)) m

omit h hr in
theorem reissue_configured (a : Nat) : (s.reissue old b serial new).configured a = s.configured a := by
  have heq : (s.reissue old b serial new).settings = s.settings := by
    have h := engineOnly_moveReferences (s.copied b serial old new) b old new
    have k := engineOnly_copied (s := s) (b := b) (serial := serial) (old := old) (new := new)
    rw [reissue_eq, h, k]
  unfold configured moduleSetting
  rw [heq]

/-! ### The links after a reissue -/

omit h in
theorem Reissues.staff_absurd {P : Prop} (hk : b.kind = .staff) : P := by
  have hv := hr.visitor
  rw [Band.isVisitor, hk] at hv
  cases hv

theorem replacement_sound : (b.replacement serial old).Sound := by
  have hsound := h.sound old b hr.band
  exact ⟨hsound.room, hsound.visitor, fun hn => absurd rfl hn, hr.staff_absurd,
    Band.HoldingFits.change hsound.holding rfl rfl rfl rfl (Reissues.next_none h hr).symm⟩

omit h in
theorem retired_sound : (b.retired new).Sound :=
  ⟨Nat.zero_le _, fun hn => absurd rfl hn, fun _ => rfl, hr.staff_absurd,
    ⟨rfl, fun _ => ⟨rfl, rfl⟩⟩⟩

theorem reissue_chains (k p : Nat) :
    (s.reissue old b serial new).prevOf k = some p ↔ (s.reissue old b serial new).nextOf p = some k := by
  have hwas := h.chains
  have hnext : s.nextOf old = none := (look_some hr.band none Band.next).trans (Reissues.next_none h hr)
  have hprev : s.prevOf new = none := look_none hr.empty none Band.previous
  rw [prevOf_reissue h hr, nextOf_reissue h hr]
  by_cases hk : k = new
  · subst hk
    rw [Function.update_self]
    by_cases hp : p = old
    · subst hp
      rw [Function.update_self]
      exact iff_of_true rfl rfl
    · rw [Function.update_of_ne hp]
      exact iff_of_false (fun he => hp (Option.some.inj he).symm) fun he => nomatch hprev.symm.trans ((hwas k p).2 he)
  · rw [Function.update_of_ne hk]
    by_cases hp : p = old
    · subst hp
      rw [Function.update_self]
      exact iff_of_false (fun he => nomatch hnext.symm.trans ((hwas k p).1 he)) fun he => hk (Option.some.inj he).symm
    · rw [Function.update_of_ne hp]
      exact hwas k p

theorem reissue_short (hlen : s.chainLength b < Config.chainCapacity) (k : Nat) :
    (chainFrom (s.reissue old b serial new).prevOf Config.lastSlot ((s.reissue old b serial new).prevOf k)).length <
      Config.chainCapacity := by
  have hnever (j : Nat) : s.prevOf j ≠ some new := fun he =>
    nomatch (look_none hr.empty none Band.next).symm.trans ((h.chains j new).1 he)
  have hwalk (fuel : Nat) (j : Nat) :
      chainFrom (Function.update s.prevOf new (some old)) fuel (s.prevOf j) = chainFrom s.prevOf fuel (s.prevOf j) :=
    chainFrom_congr (fun i hi => Function.update_of_ne hi _ _) hnever fuel (hnever j)
  rw [prevOf_reissue h hr]
  by_cases hk : k = new
  · rw [hk, Function.update_self]
    rw [chainLength_eq (fun j bj hj hn => (h.sound j bj hj).reissued hn) (fun j p => (h.chains j p).1) hr.band] at hlen
    have hstep : chainFrom (Function.update s.prevOf new (some old)) Config.lastSlot (some old) =
        old :: chainFrom s.prevOf 2046 (s.prevOf old) := by
      rw [← hwalk, show Config.lastSlot = 2046 + 1 from rfl, chainFrom, Function.update_of_ne hr.ne.symm]
    rw [hstep, List.length_cons]
    exact (Nat.succ_le_succ (chainFrom_length_succ 2046 (s.prevOf old))).trans_lt hlen
  · rw [Function.update_of_ne hk, hwalk]
    exact h.short k

theorem linked_reissue (hlen : s.chainLength b < Config.chainCapacity) : (s.reissue old b serial new).Linked := by
  let σ := Equiv.swap old new
  have hlockersOf (k : Nat) : (s.reissue old b serial new).lockersOf k = s.lockersOf (σ k) :=
    look_reissue h hr (v := Band.lockers) (fun _ => rfl) rfl rfl k
  have hcabinOf (k : Nat) : (s.reissue old b serial new).cabinOf k = s.cabinOf (σ k) :=
    look_reissue h hr (v := Band.cabin) (fun _ => rfl) rfl rfl k
  have hσ (k : Nat) : σ (σ k) = k := Equiv.swap_apply_self old new k
  have hmap (o : Option Nat) (k : Nat) : o.map σ = some k ↔ o = some (σ k) := by
    cases o with
    | none => simp
    | some j =>
      simp only [Option.map_some, Option.some.injEq]
      exact ⟨fun he => he ▸ (hσ j).symm, fun he => he ▸ hσ k⟩
  have hrole (k : Nat) : (s.reissue old b serial new).roleOf k = (s.roleOf (σ k)).rename σ := roleOf_reissue h hr k
  refine ⟨fun n k h1 h2 => ?_, fun k => ?_, fun c k h1 h2 => ?_, fun k c hk => ?_, ?_, fun m k => ?_, fun k ms hk => ?_,
    fun k l hk => ?_, reissue_chains h hr, reissue_short h hr hlen, fun k bk hk => ?_⟩
  · rw [holderOf, reissue_locker h hr ⟨h1, h2⟩, hlockersOf]
    exact (hmap _ k).trans (h.held n (σ k) h1 h2)
  · rw [hlockersOf]
    exact h.lists (σ k)
  · rw [occupantOf, reissue_cabin h hr ⟨h1, h2⟩, hcabinOf]
    exact (hmap _ k).trans (h.inside c (σ k) h1 h2)
  · rw [hcabinOf] at hk
    exact h.cabins (σ k) c hk
  · rw [reissue_serialMap]
    exact mapInsert_rising new h.rising (ne_of_unmapped hr.unmapped)
  · rw [reissue_slotOf hr, markOf_reissue h hr]
    exact h.serials_insert (look_none hr.empty none fun b => some b.serial) hr.unmapped m k
  · rw [hrole] at hk
    obtain ⟨ns, hns, rfl⟩ := Role.rename_leader.1 hk
    obtain ⟨hcap, hnodup, hall⟩ := h.leaders (σ k) ns hns
    refine ⟨by rwa [List.length_map], hnodup.map σ.injective, fun m hm => ?_⟩
    obtain ⟨j, hj, rfl⟩ := List.mem_map.1 hm
    rw [hrole, hσ, hall j hj]
    exact congrArg Role.member (hσ k)
  · rw [hrole] at hk
    have hmember := Role.rename_member.1 hk
    rw [show σ.symm = σ from Equiv.symm_swap old new] at hmember
    obtain ⟨ms, hms, hin⟩ := h.members (σ k) (σ l) hmember
    refine ⟨ms.map σ, by rw [hrole, hms]; rfl, List.mem_map.2 ⟨σ k, hin, hσ k⟩⟩
  · by_cases hold : k = old
    · rw [hold, reissue_band_old h hr] at hk
      exact Option.some.inj hk ▸ retired_sound hr
    · by_cases hnew : k = new
      · rw [hnew, reissue_band_new h hr] at hk
        exact Option.some.inj hk ▸ replacement_sound h hr
      · rw [reissue_band_other h hr hold hnew] at hk
        obtain ⟨bj, hbj, rfl⟩ := Option.map_eq_some_iff.1 hk
        exact (h.sound k bj hbj).rename _

end Reissued

theorem AgreesBut.reissued (h : s.Agrees) (hr : s.Reissues old b serial new) (hlen : s.chainLength b < Config.chainCapacity) :
    (s.reissue old b serial new).Agrees where
  linked := linked_reissue h.linked hr hlen
  lockers := fun n h1 h2 _ => by
    unfold LockerFits
    rw [reissue_locker h.linked hr ⟨h1, h2⟩, reissue_configured]
    exact (h.lockers n h1 h2 nofun).rehold _
  cabins := fun c h1 h2 _ => by
    unfold CabinFits
    rw [reissue_cabin h.linked hr ⟨h1, h2⟩, reissue_configured]
    exact (h.cabins c h1 h2 nofun).reoccupy _

end State

theorem agrees_reissueBand {s : State} (r : Request) (h : s.Agrees) : (reissueBand r s).2.Agrees := by
  cases hp : parseTwoSerials r.body with
  | none =>
    unfold reissueBand
    rw [hp]
    exact h
  | some serials =>
    obtain ⟨oldSerial, newSerial⟩ := serials
    rw [reissueBand_eq hp]
    iterate 2
      split
      · exact h
    split
    · exact h
    next old b hf =>
      have hb : s.band old = some b := (State.findSerial_ok hf).2.2
      split
      · exact h
      next hst =>
        split
        · exact h
        next hmap =>
          split
          · exact h
          next hlen =>
            split
            · exact h
            next new hfree =>
              obtain ⟨h1, h2, hempty, -⟩ := State.freeSlot_some hfree
              obtain ⟨hvisitor, hstanding⟩ : b.isVisitor = true ∧ b.state ≠ .revoked := by
                unfold Band.reissuable at hst
                cases hs : b.state <;> simp_all
              exact h.reissued ⟨hb, ⟨h1, h2⟩, hempty, hvisitor, hstanding, Option.not_isSome_iff_eq_none.1 hmap⟩
                (Nat.not_le.1 hlen)

end Sys2Proof.Machine
end

section
/-! PROOFS. The agreement of the binding tables under COLLECT and DISCARD_BAND (R2, R22, R25, R103): a chain emptied whole. -/

namespace Sys2Proof.Machine

/-! ### A walk along previous links -/

section Chain

variable {p q : Nat → Option Nat}

theorem chainFrom_head {fuel k : Nat} (hlen : (chainFrom p fuel (some k)).length < fuel) : k ∈ chainFrom p fuel (some k) := by
  cases fuel with
  | zero => cases hlen
  | succ fuel => exact List.mem_cons_self

/-- A walk that ends before its bound holds every record that one of its records follows. -/
theorem chainFrom_closed {fuel : Nat} {o : Option Nat} (hlen : (chainFrom p fuel o).length < fuel) {k j : Nat}
    (hk : k ∈ chainFrom p fuel o) (hj : p k = some j) : j ∈ chainFrom p fuel o := by
  induction fuel generalizing o with
  | zero => cases hk
  | succ fuel ih =>
    cases o with
    | none => cases hk
    | some i =>
      have hrest : (chainFrom p fuel (p i)).length < fuel := Nat.lt_of_succ_lt_succ hlen
      refine List.mem_cons_of_mem _ ?_
      obtain rfl | hk := List.mem_cons.1 hk
      · rw [hj] at hrest ⊢
        exact chainFrom_head hrest
      · exact ih hrest hk

/-- Every record of a walk is its first or follows from another. -/
theorem chainFrom_followed {fuel : Nat} {o : Option Nat} {k : Nat} (hk : k ∈ chainFrom p fuel o) :
    o = some k ∨ ∃ m ∈ chainFrom p fuel o, p m = some k := by
  induction fuel generalizing o with
  | zero => cases hk
  | succ fuel ih =>
    cases o with
    | none => cases hk
    | some i =>
      obtain rfl | hk := List.mem_cons.1 hk
      · exact .inl rfl
      · obtain hi | ⟨m, hm, hpm⟩ := ih hk
        · exact .inr ⟨i, List.mem_cons_self, hi⟩
        · exact .inr ⟨m, List.mem_cons_of_mem _ hm, hpm⟩

/-- A walk is no longer where links are missing. -/
theorem chainFrom_length_le (h : ∀ k, p k = none ∨ p k = q k) (fuel : Nat) (o : Option Nat) :
    (chainFrom p fuel o).length ≤ (chainFrom q fuel o).length := by
  induction fuel generalizing o with
  | zero => exact Nat.le_refl _
  | succ fuel ih =>
    cases o with
    | none => exact Nat.le_refl _
    | some k =>
      refine Nat.succ_le_succ ?_
      obtain hk | hk := h k
      · rw [hk]
        cases fuel <;> exact Nat.zero_le _
      · rw [hk]
        exact ih (q k)

end Chain

theorem Band.Sound.dropMember {b : Band} (h : b.Sound) (j : Nat) : (b.dropMember j).Sound := by
  unfold Band.dropMember
  split
  next ms hr =>
    have hroom := h.room
    have hhold := h.holding
    refine ⟨by rw [hr] at hroom; exact hroom, fun _ => h.visitor (by simp [hr]), h.reissued, h.staff, ?_⟩
    unfold Band.HoldingFits at hhold ⊢
    cases hs : b.state <;> simp_all [Band.members]
  · exact h

namespace State

variable {s : State} {slot : Nat} {b : Band}

/-! ### The chain of a record without holdings -/

/-- The records that a teardown empties. -/
def chainOf (s : State) (slot : Nat) : List Nat := slot :: chainFrom s.prevOf Config.lastSlot (s.prevOf slot)

/-- What COLLECT and DISCARD_BAND have checked. -/
structure Torn (s : State) (slot : Nat) (b : Band) : Prop where
  band : s.band slot = some b
  lockers : b.lockers = []
  cabin : b.cabin = none
  members : b.members = []
  next : b.next = none

section Torn

variable (h : s.Linked) (ht : s.Torn slot b)

theorem tearDown_eq (h : s.Linked) (ht : s.Torn slot b) : (s.tearDown slot b).1 = s.emptyAll (s.chainOf slot) := by
  have hprev : s.prevOf slot = b.previous := look_some ht.band none Band.previous
  have hchain : s.predecessors Config.lastSlot b.previous = chainFrom s.prevOf Config.lastSlot (s.prevOf slot) := by
    rw [← hprev]
    exact predecessors_eq (fun k bk hk hn => (h.sound k bk hk).reissued hn) (fun k p => (h.chains k p).1) _ _
  rw [tearDown, hchain]
  rfl

include h

theorem Linked.chain_closed {k j : Nat} (hk : k ∈ s.chainOf slot) (hj : s.prevOf k = some j) : j ∈ s.chainOf slot := by
  have hlen : (chainFrom s.prevOf Config.lastSlot (s.prevOf slot)).length < Config.lastSlot :=
    (h.short slot).trans_le (by decide)
  refine List.mem_cons_of_mem _ ?_
  obtain rfl | hk := List.mem_cons.1 hk
  · rw [hj] at hlen ⊢
    exact chainFrom_head hlen
  · exact chainFrom_closed hlen hk hj

/-- Every record of the chain but the newest has been replaced by another of the chain. -/
theorem Linked.chain_followed {k : Nat} (hk : k ∈ s.chainOf slot) :
    k = slot ∨ ∃ m ∈ s.chainOf slot, s.nextOf k = some m := by
  obtain rfl | hk := List.mem_cons.1 hk
  · exact .inl rfl
  · obtain ho | ⟨m, hm, hp⟩ := chainFrom_followed hk
    · exact .inr ⟨slot, List.mem_cons_self, (h.chains slot k).1 ho⟩
    · exact .inr ⟨m, List.mem_cons_of_mem _ hm, (h.chains m k).1 hp⟩

/-- What a record that has been replaced still holds. -/
theorem Linked.replaced {k m : Nat} (hk : s.nextOf k = some m) :
    s.lockersOf k = [] ∧ s.cabinOf k = none ∧ s.roleOf k = .none := by
  obtain ⟨bk, hbk, hn⟩ := (look_eq_iff (by simp)).1 hk
  have hsound := h.sound k bk hbk
  have hnext : bk.next ≠ none := by simp [hn]
  have hhold := hsound.holding
  unfold Band.HoldingFits at hhold
  rw [hsound.reissued hnext] at hhold
  obtain ⟨hcabin, hrest⟩ := hhold
  obtain ⟨hlockers, hrole⟩ := hrest hnext
  exact ⟨(look_some hbk [] Band.lockers).trans hlockers, (look_some hbk none Band.cabin).trans hcabin,
    (look_some hbk Role.none Band.role).trans hrole⟩

include ht

theorem Torn.holds_nothing {k : Nat} (hk : k ∈ s.chainOf slot) : s.lockersOf k = [] ∧ s.cabinOf k = none := by
  obtain rfl | ⟨m, -, hm⟩ := h.chain_followed hk
  · exact ⟨(look_some ht.band [] Band.lockers).trans ht.lockers, (look_some ht.band none Band.cabin).trans ht.cabin⟩
  · obtain ⟨hlockers, hcabin, -⟩ := h.replaced hm
    exact ⟨hlockers, hcabin⟩

theorem Torn.no_leader {k : Nat} (hk : k ∈ s.chainOf slot) (ms : List Nat) (hr : s.roleOf k = .leader ms) : ms = [] := by
  obtain rfl | ⟨m, -, hm⟩ := h.chain_followed hk
  · have hrole : b.role = .leader ms := (look_some ht.band Role.none Band.role).symm.trans hr
    simpa [Band.members, hrole] using ht.members
  · exact nomatch (h.replaced hm).2.2.symm.trans hr

omit ht in
theorem Linked.chain_member {k l : Nat} (hk : k ∈ s.chainOf slot) (hr : s.roleOf k = .member l) : k = slot := by
  obtain hslot | ⟨m, -, hm⟩ := h.chain_followed hk
  · exact hslot
  · exact nomatch (h.replaced hm).2.2.symm.trans hr

/-- Nobody outside the chain follows a record of it. -/
theorem Torn.chain_newest {k p : Nat} (hp : p ∈ s.chainOf slot) (hk : s.nextOf p = some k) : k ∈ s.chainOf slot := by
  obtain rfl | ⟨m, hm, hnext⟩ := h.chain_followed hp
  · exact nomatch ((look_some ht.band none Band.next).trans ht.next).symm.trans hk
  · exact Option.some.inj (hnext.symm.trans hk) ▸ hm

/-! ### The records after a teardown -/

omit h ht in
theorem leaderOf_iff {k l : Nat} : s.leaderOf k = some l ↔ s.roleOf k = .member l := by
  unfold leaderOf roleOf look
  cases s.band k with
  | none => simp
  | some bk => cases hr : bk.role <;> simp [Band.leaderSlot, hr]

omit ht in
theorem torn_band {k : Nat} (hk : k ∉ s.chainOf slot) :
    (s.emptyAll (s.chainOf slot)).band k =
      if s.roleOf slot = .member k then (s.band k).map (Band.dropMember slot) else s.band k := by
  have hne : k ≠ slot := fun he => hk (he ▸ List.mem_cons_self)
  have hrest : k ∉ chainFrom s.prevOf Config.lastSlot (s.prevOf slot) := fun hin => hk (List.mem_cons_of_mem _ hin)
  rw [chainOf, emptyAll_cons, emptyAll_band_of_apart hrest, emptySlot_band, if_neg hne]
  · simp only [leaderOf_iff]
  · intro j hj hl
    obtain hnone | hsame := emptySlot_leaderOf_cases s slot j
    · exact nomatch hnone.symm.trans hl
    · have hmember := leaderOf_iff.1 (hsame.symm.trans hl)
      have hslot : j = slot := h.chain_member (List.mem_cons_of_mem _ hj) hmember
      rw [hslot, emptySlot_leaderOf_self] at hl
      cases hl

/-- A field that leaving a member list keeps. -/
theorem look_torn {α : Type} {d : α} {v : Band → α} (hv : ∀ bk : Band, v (bk.dropMember slot) = v bk) (k : Nat)
    [Decidable (k ∈ s.chainOf slot)] :
    (s.emptyAll (s.chainOf slot)).look d v k = if k ∈ s.chainOf slot then d else s.look d v k := by
  split
  next hk => exact look_none (emptyAll_band_of_mem hk) d v
  next hk =>
    unfold look
    rw [torn_band h hk]
    split
    · cases s.band k with
      | none => rfl
      | some bk => exact hv bk
    · rfl

theorem roleOf_torn (k : Nat) :
    (s.emptyAll (s.chainOf slot)).roleOf k =
      if k ∈ s.chainOf slot then .none
      else
        match s.roleOf k with
        | .leader ms => if s.roleOf slot = .member k then .leader (ms.erase slot) else .leader ms
        | r => r := by
  split
  next hk => exact look_none (emptyAll_band_of_mem hk) Role.none Band.role
  next hk =>
    unfold roleOf look
    rw [torn_band h hk]
    cases hb : s.band k with
    | none => simp
    | some bk =>
      unfold roleOf look
      cases hr : bk.role <;> split <;> simp_all [Band.dropMember]

omit h ht in
theorem torn_rising (hs : s.engine.serialMap.Pairwise fun a b => a.1 < b.1) (chain : List Nat) :
    (s.emptyAll chain).engine.serialMap.Pairwise fun a b => a.1 < b.1 := by
  induction chain generalizing s with
  | nil => exact hs
  | cons j chain ih =>
    refine ih ?_
    cases hb : s.band j with
    | none => rwa [emptySlot_of_none hb]
    | some bj =>
      rw [emptySlot_of_some hb]
      have hleft (o : Option Nat) : ((s.leaveLeader o j).setBand j none).engine.serialMap = s.engine.serialMap := by
        rw [setBand_engine]
        cases o with
        | none => rfl
        | some l => rw [leaveLeader, updBand_engine]
      exact List.Pairwise.filter _ ((hleft _).symm ▸ hs)

theorem torn_serials (m k : Nat) :
    (s.emptyAll (s.chainOf slot)).slotOf m = some k ↔ (s.emptyAll (s.chainOf slot)).markOf k = some m := by
  have hmark (j : Nat) : s.serialOf j = s.markOf j := by
    unfold serialOf markOf look
    cases s.band j <;> rfl
  have hkept (bk : Band) : some (bk.dropMember slot).serial = some bk.serial := congrArg some (bk.dropMember_serial slot)
  rw [markOf, look_torn h ht (v := fun bk => some bk.serial) hkept]
  by_cases hm : ∃ j ∈ s.chainOf slot, s.markOf j = some m
  · obtain ⟨j, hj, hjm⟩ := hm
    rw [emptyAll_slotOf_of_mem hj ((hmark j).trans hjm)]
    refine iff_of_false nofun fun hk => ?_
    split at hk
    · cases hk
    next hout =>
      have hsame : j = k := Option.some.inj (((h.serials m j).2 hjm).symm.trans ((h.serials m k).2 hk))
      exact hout (hsame ▸ hj)
  · have hapart : ∀ j ∈ s.chainOf slot, s.markOf j ≠ some m := fun j hj he => hm ⟨j, hj, he⟩
    rw [emptyAll_slotOf_of_apart fun j hj => (hmark j) ▸ hapart j hj]
    split
    next hin => exact iff_of_false (fun he => hapart k hin ((h.serials m k).1 he)) nofun
    next => exact h.serials m k

/-! ### The groups and the chains after a teardown -/

theorem torn_leaders {k : Nat} {ms : List Nat} (hk : (s.emptyAll (s.chainOf slot)).roleOf k = .leader ms) :
    ms.length ≤ Config.groupCapacity ∧ ms.Nodup ∧ ∀ m ∈ ms, (s.emptyAll (s.chainOf slot)).roleOf m = .member k := by
  have hmember {m : Nat} (hm : s.roleOf m = .member k) (hne : m ≠ slot) :
      (s.emptyAll (s.chainOf slot)).roleOf m = .member k := by
    rw [roleOf_torn h ht, if_neg fun hin => hne (h.chain_member hin hm), hm]
  rw [roleOf_torn h ht] at hk
  split at hk
  · cases hk
  · split at hk
    next ns hns =>
      obtain ⟨hcap, hnodup, hall⟩ := h.leaders k ns hns
      split at hk
      · obtain rfl := Role.leader.inj hk
        refine ⟨(List.length_erase_le ..).trans hcap, hnodup.erase slot, fun m hm => ?_⟩
        obtain ⟨hne, hin⟩ := hnodup.mem_erase_iff.1 hm
        exact hmember (hall m hin) hne
      next hother =>
        obtain rfl := Role.leader.inj hk
        refine ⟨hcap, hnodup, fun m hm => hmember (hall m hm) ?_⟩
        rintro rfl
        exact hother (hall m hm)
    next r hr => exact absurd hk (hr ms)

theorem torn_members {k l : Nat} (hk : (s.emptyAll (s.chainOf slot)).roleOf k = .member l) :
    ∃ ms, (s.emptyAll (s.chainOf slot)).roleOf l = .leader ms ∧ k ∈ ms := by
  rw [roleOf_torn h ht] at hk
  split at hk
  · cases hk
  next hout =>
    have hwas : s.roleOf k = .member l := by
      split at hk
      · split at hk <;> cases hk
      · exact hk
    obtain ⟨ms, hms, hin⟩ := h.members k l hwas
    have hl : l ∉ s.chainOf slot := fun hl => by
      rw [Torn.no_leader h ht hl ms hms] at hin
      cases hin
    have hne : k ≠ slot := fun he => hout (he ▸ List.mem_cons_self)
    rw [roleOf_torn h ht, if_neg hl, hms]
    dsimp only
    split
    · exact ⟨_, rfl, (List.mem_erase_of_ne hne).2 hin⟩
    · exact ⟨ms, rfl, hin⟩

theorem torn_registered : (s.emptyAll (s.chainOf slot)).Registered where
  rising := torn_rising h.rising _
  serials := torn_serials h ht
  leaders := fun _ _ => torn_leaders h ht
  members := fun _ _ => torn_members h ht
  chains := fun k p => by
    have hwas := h.chains k p
    rw [prevOf, nextOf, look_torn h ht fun bk => by unfold Band.dropMember; split <;> rfl,
      look_torn h ht fun bk => by unfold Band.dropMember; split <;> rfl]
    split
    next hk =>
      split
      · exact iff_of_false nofun nofun
      next hp => exact iff_of_false nofun fun he => hp (h.chain_closed hk (hwas.2 he))
    next hk =>
      split
      next hp => exact iff_of_false (fun he => hk (Torn.chain_newest h ht hp (hwas.1 he))) nofun
      next => exact hwas
  short := fun k => by
    have hprev (j : Nat) : (s.emptyAll (s.chainOf slot)).prevOf j = none ∨
        (s.emptyAll (s.chainOf slot)).prevOf j = s.prevOf j := by
      rw [prevOf, look_torn h ht fun bk => by unfold Band.dropMember; split <;> rfl]
      split
      · exact .inl rfl
      · exact .inr rfl
    obtain hk | hk := hprev k
    · rw [hk]
      exact (by decide : 0 < Config.chainCapacity)
    · rw [hk]
      exact (chainFrom_length_le hprev _ _).trans_lt (h.short k)
  sound := fun k bk hk => by
    by_cases hin : k ∈ s.chainOf slot
    · exact nomatch (emptyAll_band_of_mem hin).symm.trans hk
    · rw [torn_band h hin] at hk
      split at hk
      · obtain ⟨bj, hbj, rfl⟩ := Option.map_eq_some_iff.1 hk
        exact (h.sound k bj hbj).dropMember slot
      · exact h.sound k bk hk

theorem torn_holdings : SameHoldings s (s.emptyAll (s.chainOf slot)) where
  lockersOf := funext fun k => by
    rw [lockersOf, look_torn h ht fun bk => by unfold Band.dropMember; split <;> rfl]
    split
    next hk => exact (Torn.holds_nothing h ht hk).1.symm
    next => rfl
  cabinOf := funext fun k => by
    rw [cabinOf, look_torn h ht fun bk => by unfold Band.dropMember; split <;> rfl]
    split
    next hk => exact (Torn.holds_nothing h ht hk).2.symm
    next => rfl
  lockers := by
    have hrest := congrArg Engine.lockers (emptyAll_beyondBands s (s.chainOf slot))
    exact hrest
  cabins := by
    have hrest := congrArg Engine.cabins (emptyAll_beyondBands s (s.chainOf slot))
    exact hrest
  modules := by rw [engineOnly_emptyAll s (s.chainOf slot)]

end Torn

theorem findRef_ok {ref : BandRef} (h : s.findRef ref = .ok (slot, b)) : s.band slot = some b := by
  unfold findRef at h
  split at h
  · exact (findSerial_ok h).2.2
  · split at h
    · cases h
    · split at h
      · cases h
      · cases h
        assumption

theorem AgreesBut.torn (h : s.Agrees) (ht : s.Torn slot b) : (s.tearDown slot b).1.Agrees := by
  rw [tearDown_eq h.linked ht]
  exact h.reregister (torn_holdings h.linked ht) (torn_registered h.linked ht)

end State

section Requests

variable {s : State} (r : Request)

theorem agrees_collect (h : s.Agrees) : (collect r s).2.Agrees := by
  unfold collect
  split
  · exact h
  split
  · exact h
  next slot b hf =>
    have hb : s.band slot = some b := (State.findSerial_ok hf).2.2
    split
    · exact h
    next hcleared =>
      split
      · exact h
      next hmembers =>
        obtain ⟨t, hst⟩ : ∃ t, b.state = .cleared t := by
          unfold Band.isCleared at hcleared
          cases hs : b.state <;> simp_all
        have hsound := h.linked.sound slot b hb
        have hhold := hsound.holding
        unfold Band.HoldingFits at hhold
        rw [hst] at hhold
        obtain ⟨hlockers, hnone, hcabin⟩ := hhold
        refine h.torn ⟨hb, hlockers, hcabin, hnone, ?_⟩
        by_contra hn
        exact nomatch hst.symm.trans (hsound.reissued hn)

theorem agrees_discardBand (h : s.Agrees) : (discardBand r s).2.Agrees := by
  unfold discardBand
  split
  · exact h
  split
  · exact h
  next ref slot b hf =>
    have hb : s.band slot = some b := State.findRef_ok hf
    split
    · exact h
    next hcheck =>
      split
      · exact h
      next hlockers =>
        split
        · exact h
        next hmembers =>
          simp only [Bool.or_eq_true, bne_iff_ne, not_or, not_not, Option.not_isSome_iff_eq_none] at hcheck
          obtain ⟨hst, hnext⟩ := hcheck
          have hhold := (h.linked.sound slot b hb).holding
          unfold Band.HoldingFits at hhold
          rw [hst] at hhold
          exact h.torn ⟨hb, by simpa using hlockers, hhold.1, by simpa using hmembers, hnext⟩

end Requests

end Sys2Proof.Machine
end

section
/-! PROOFS. The agreement of the binding tables under each request, and what every other block leaves of them. -/

namespace Sys2Proof.Machine

/-! ### Requests that pass the arbiter (R28) -/

section Requests

variable {s : State} {p : PortId} {k : ReqKind} {h : Handler} (r : Request)

theorem queryBand_state : (queryBand r s).2 = s := by
  unfold queryBand
  split
  · rfl
  split <;> rfl

theorem queryLocker_state : (queryLocker r s).2 = s := by
  unfold queryLocker
  split
  · rfl
  split <;> rfl

theorem queryCabin_state : (queryCabin r s).2 = s := by
  unfold queryCabin
  split
  · rfl
  split <;> rfl

theorem queryZone_state : (queryZone r s).2 = s := by
  unfold queryZone
  split
  · rfl
  split <;> rfl

theorem agrees_of_arbitrated (hk : handlerOf p k = some h) (ha : arbitrated k = true) (hs : s.Agrees) : (h r s).2.Agrees := by
  cases k <;> cases ha <;> cases hk
  case issueBand.refl.refl => exact agrees_issueBand r hs
  case addTime.refl.refl => exact agrees_addTime r hs
  case reissueBand.refl.refl => exact agrees_reissueBand r hs
  case revokeBand.refl.refl => exact agrees_revokeBand r hs
  case discardBand.refl.refl => exact agrees_discardBand r hs
  case queryBand.refl.refl => exact (queryBand_state r).symm ▸ hs
  case closeDay.refl.refl => exact agrees_closeDay r hs
  case settle.refl.refl => exact agrees_settle r hs
  case pay.refl.refl => exact agrees_pay r hs
  case collect.refl.refl => exact agrees_collect r hs
  case assignLocker.refl.refl => exact agrees_assignLocker r hs
  case openLocker.refl.refl => exact agrees_openLocker r hs
  case releaseLocker.refl.refl => exact agrees_releaseLocker r hs
  case rearmLocker.refl.refl => exact agrees_rearmLocker r hs
  case setLockerService.refl.refl => exact agrees_setLockerService r hs
  case queryLocker.refl.refl => exact (queryLocker_state r).symm ▸ hs
  case openCabin.refl.refl => exact agrees_openCabin r hs
  case setCabinService.refl.refl => exact agrees_setCabinService r hs
  case queryCabin.refl.refl => exact (queryCabin_state r).symm ▸ hs
  case setZone.refl.refl => exact agrees_setZone r hs
  case queryZone.refl.refl => exact (queryZone_state r).symm ▸ hs
  case setTariff.refl.refl => exact agrees_setTariff r hs
  case selectBank.refl.refl => exact agrees_selectBank r hs
  case setModules.refl.refl => exact agrees_setModules r hs
  case setWindows.refl.refl => exact agrees_setWindows r hs
  case setClock.refl.refl => exact agrees_setClock r hs

/-! ### Requests taken without a grant (R28) -/

theorem modules_of_taken (hk : handlerOf p k = some h) (ha : arbitrated k = false) :
    (h r s).2.settings.modules = s.settings.modules := by
  cases k <;> cases ha <;> cases hk
  case setWatch.refl.refl =>
    unfold setWatchRequest
    repeat' split
    all_goals rfl
  case clearWatch.refl.refl =>
    unfold clearWatch
    repeat' split
    all_goals rfl
  case queryWatch.refl.refl =>
    unfold queryWatch
    repeat' split
    all_goals rfl
  case readNotice.refl.refl =>
    unfold readNotice
    repeat' split
    all_goals rfl
  case ackAlarm.refl.refl =>
    unfold ackAlarm
    repeat' split
    all_goals rfl
  case setThreshold.refl.refl =>
    unfold setThreshold
    repeat' split
    all_goals rfl
  case setNoticePriority.refl.refl =>
    unfold setNoticePriority
    repeat' split
    all_goals rfl
  case holdModule.refl.refl =>
    unfold setHeld
    repeat' split
    all_goals simp [refuse, accept]
  case releaseModule.refl.refl =>
    unfold setHeld
    repeat' split
    all_goals simp [refuse, accept]
  case queryModule.refl.refl =>
    unfold queryModule
    repeat' split
    all_goals rfl
  case setPort.refl.refl =>
    unfold setPortRequest
    split
    · rfl
    split
    · rfl
    next q _ =>
      iterate 2
        split
        · rfl
      unfold State.dropUnread
      dsimp only [accept]
      split <;> cases q <;> rfl
  case trimClock.refl.refl =>
    unfold trimClock
    split <;> rfl
  case status.refl.refl =>
    unfold statusRequest
    split <;> rfl

end Requests

namespace State

variable {s t : State} {p : PortId} {k : ReqKind} {h : Handler}

theorem sameBinding_answered (s : State) (p : PortId) (r : Request) (c : ResultCode) (d : List Byte) :
    SameBinding s (s.answered p r c d) := by
  rw [answered_frame]
  exact sameBinding_of_engine rfl rfl

theorem agrees_grantRequest (hk : handlerOf p k = some h) (ha : arbitrated k = true) (hs : s.Agrees) :
    (s.grantRequest p k h).Agrees := by
  by_cases hg : ∃ r, s.granting p k r
  · obtain ⟨r, hg⟩ := hg
    rw [grantRequest_granting h hg]
    exact (agrees_of_arbitrated r hk ha (hs.frame (s.sameBinding_granted _))).frame (sameBinding_answered _ _ _ _ _)
  · rw [grantRequest_not_granting h (not_exists.1 hg)]
    exact hs

theorem sameBinding_takeRequest (hk : handlerOf p k = some h) (ha : arbitrated k = false) :
    SameBinding s (s.takeRequest p k h) := by
  by_cases hg : ∃ r, s.taking p k r
  · obtain ⟨r, hg⟩ := hg
    have hengine : (h r s).2.engine = s.engine := by
      have hframe := congrArg State.engine (taking_of_not_arbitrated s r p hk ha).frame
      exact hframe
    rw [takeRequest_taking h hg]
    exact (sameBinding_of_engine hengine (modules_of_taken r hk ha)).trans (sameBinding_answered _ _ _ _ _)
  · rw [takeRequest_not_taking h (not_exists.1 hg)]
    exact .refl s

/-! ### The field engine -/

theorem sameBinding_updPosition (s : State) (a pos : Nat) (f : Position → Position) : SameBinding s (s.updPosition a pos f) :=
  s.sameBinding_setModule a _

theorem sameBinding_foldl {α : Type} {f : State → α → State} (hf : ∀ t a, SameBinding t (f t a)) (l : List α) (s : State) :
    SameBinding s (l.foldl f s) := by
  induction l generalizing s with
  | nil => exact .refl s
  | cons a l ih => exact (hf s a).trans (ih (f s a))

theorem sameBinding_moduleAnswered (s : State) (a : Nat) : SameBinding s (s.moduleAnswered a) := by
  unfold moduleAnswered
  dsimp only
  split
  · exact (s.sameBinding_setModule a _).trans (sameBinding_notify _ _ _ _)
  · exact s.sameBinding_setModule a _

theorem sameBinding_succeed (s : State) (x : Exchange) (content : ReplyContent) : SameBinding s (s.succeed x content) := by
  have online : SameBinding s (s.endExchange.moduleAnswered x.addr) :=
    (sameBinding_of_engine (s := s) (t := s.endExchange) rfl rfl).trans (sameBinding_moduleAnswered _ _)
  unfold succeed
  dsimp only
  split
  · have cleared := online.trans (sameBinding_setModule _ x.addr
      { (s.endExchange.moduleAnswered x.addr).module x.addr with
        positions := tableMap (fun i q => if x.renewed.contains i then q else { q with shown := none })
          ((s.endExchange.moduleAnswered x.addr).module x.addr).positions })
    split
    · exact cleared
    · unfold pollYields
      dsimp only
      split
      · exact (cleared.trans (sameBinding_setModule _ _ _)).trans (sameBinding_handOver _ _)
      · exact cleared.trans (sameBinding_handOver _ _)
  · exact (online.trans (sameBinding_updPosition _ _ _ _)).trans (sameBinding_handOver _ _)
  · exact (online.trans (sameBinding_foldl (fun t e => t.sameBinding_updPosition _ _ _) _ _)).trans (sameBinding_handOver _ _)

theorem sameBinding_failEntries (s : State) (a : Nat) : SameBinding s (s.failEntries a) := by
  rw [failEntries_eq]
  exact sameBinding_of_engine rfl rfl

theorem sameBinding_silence (s : State) (a : Nat) : SameBinding s (s.silence a) := by
  unfold silence
  exact ((sameBinding_setModule _ _ _).trans (sameBinding_notify _ _ _ _)).trans (sameBinding_failEntries _ _)

theorem sameBinding_fail (s : State) (x : Exchange) : SameBinding s (s.fail x) := by
  have passed (t : State) : SameBinding t (t.failOutcome x) := by
    unfold failOutcome
    split
    · exact (t.sameBinding_updPosition _ _ _).trans (sameBinding_handOver _ _)
    · exact .refl t
  have counted (m : Module) : SameBinding s (s.endExchange.setModule x.addr m) :=
    (sameBinding_of_engine (s := s) (t := s.endExchange) rfl rfl).trans (sameBinding_setModule _ _ _)
  unfold fail
  dsimp only
  split
  · exact ((counted _).trans (passed _)).trans (sameBinding_silence _ _)
  · exact (counted _).trans (passed _)

theorem sameBinding_attemptFails (s : State) (x : Exchange) : SameBinding s (s.attemptFails x) := by
  obtain ⟨-, heq⟩ | ⟨-, heq⟩ := s.attemptFails_cases x
  · rw [heq]
    exact sameBinding_of_engine rfl rfl
  · rw [heq]
    exact s.sameBinding_fail x

/-! ### Ports, notices and what a start puts back -/

theorem sameBinding_answerSave (s : State) (dest : Option PortId) (c : ResultCode) : SameBinding s (s.answerSave dest c) := by
  rw [answerSave_frame]
  exact sameBinding_of_engine rfl rfl

theorem sameBinding_endFrame (s : State) (p : PortId) (bytes : List Byte) : SameBinding s (s.endFrame p bytes) := by
  rw [endFrame_frame]
  exact sameBinding_of_engine rfl rfl

theorem sameBinding_receive (s : State) (p : PortId) (b : Byte) : SameBinding s ((s.settleFrame p).receiveByte p b) := by
  rw [receiveByte_frame, settleFrame_frame]
  exact sameBinding_of_engine rfl rfl

theorem sameBinding_endReply (s : State) (p : PortId) (r : Reply) : SameBinding s (s.endReply p r) := by
  rw [endReply_frame]
  exact sameBinding_of_engine rfl rfl

theorem sameBinding_takeNotice (s : State) (n : Raised) : SameBinding s (s.takeNotice n) := by
  rw [takeNotice_frame]
  exact sameBinding_of_engine rfl rfl

theorem sameBinding_putBack (s : State) (b : Before) : SameBinding s (s.putBack b) := by
  cases b with
  | port p v => cases p <;> exact sameBinding_of_engine rfl rfl
  | held a v => exact s.sameBinding_setModule a _
  | _ => exact sameBinding_of_engine rfl rfl

theorem sameBinding_undoTaken (s : State) : SameBinding s s.undoTaken :=
  (sameBinding_foldl (fun t u => t.sameBinding_putBack u.before) s.undo s).trans (sameBinding_of_engine rfl rfl)

end State

end Sys2Proof.Machine
end

section
/-! PROOFS. The agreement of the binding tables at every command and at every start. -/

namespace Sys2Proof.Machine

namespace State

variable {s t : State}

/-! ### Starts (R31, R32, R66, R67, R84, R85) -/

/-- Empty tables agree, whatever the modules configured. -/
theorem agrees_of_empty (hbands : s.engine.bands = Vector.replicate 2048 none) (hmap : s.engine.serialMap = [])
    (hlockers : ∀ n, 1 ≤ n → n ≤ 1024 → (s.locker n).holder = none ∧ s.LockerFits n)
    (hcabins : ∀ c, 1 ≤ c → c ≤ 64 → (s.cabin c).occupant = none ∧ s.CabinFits c) : s.Agrees := by
  have hband (k : Nat) : s.band k = none := by
    unfold band
    split
    · rfl
    · rw [hbands, tableGet_replicate]
  have hlook {α : Type} (d : α) (v : Band → α) (k : Nat) : s.look d v k = d := look_none (hband k) d v
  refine ⟨⟨fun n k h1 h2 => ?_, fun k => ?_, fun c k h1 h2 => ?_, fun k c hk => ?_, ?_, fun m k => ?_, fun k ms hk => ?_,
    fun k l hk => ?_, fun k p => ?_, fun k => ?_, fun k b hb => ?_⟩, fun n h1 h2 _ => (hlockers n h1 h2).2,
    fun c h1 h2 _ => (hcabins c h1 h2).2⟩
  · rw [holderOf, (hlockers n h1 h2).1, lockersOf, hlook]
    exact iff_of_false nofun nofun
  · rw [lockersOf, hlook]
    exact ⟨List.nodup_nil, nofun⟩
  · rw [occupantOf, (hcabins c h1 h2).1, cabinOf, hlook]
    exact iff_of_false nofun nofun
  · rw [cabinOf, hlook] at hk
    cases hk
  · rw [hmap]
    exact .nil
  · rw [slotOf, hmap, markOf, hlook]
    exact iff_of_false nofun nofun
  · rw [roleOf, hlook] at hk
    cases hk
  · rw [roleOf, hlook] at hk
    cases hk
  · rw [prevOf, hlook, nextOf, hlook]
    exact iff_of_false nofun nofun
  · have hprev : s.prevOf k = none := hlook none Band.previous k
    rw [hprev]
    exact (by decide : 0 < Config.chainCapacity)
  · exact nomatch (hband k).symm.trans hb

theorem agrees_coldStart (s : State) (straps : Straps) : (s.coldStart straps).Agrees := by
  obtain ⟨hlockers, hcabins, -⟩ := s.coldStart_tables straps
  have hengine : (s.coldStart straps).engine = coldEngine s.loaded s.now := by rw [coldStart_eq]
  refine agrees_of_empty (by rw [hengine]; rfl) (by rw [hengine]; rfl) (fun n h1 h2 => ?_) fun c h1 h2 => ?_
  · unfold LockerFits lockerAt
    rw [hlockers n h1 h2]
    cases (s.coldStart straps).configured ((n - 1) / 8 + 1)
    · exact ⟨rfl, fun _ => rfl, rfl⟩
    · exact ⟨rfl, nofun, rfl⟩
  · unfold CabinFits cabinAt
    rw [hcabins c h1 h2]
    cases (s.coldStart straps).configured (128 + (c - 1) / 4 + 1)
    · exact ⟨rfl, fun _ => rfl, rfl⟩
    · exact ⟨rfl, nofun, rfl⟩

theorem agrees_warmStart (h : s.Agrees) (straps : Straps) : (s.warmStart straps).Agrees := by
  refine h.refit rfl rfl (fun n h1 h2 => ⟨rfl, h.lockers n h1 h2 nofun⟩) fun c h1 h2 => ?_
  unfold CabinFits
  rw [warmStart_cabin s straps h1 h2]
  exact ⟨rfl, h.cabins c h1 h2 nofun⟩

theorem agrees_undoTaken (h : s.Agrees) : s.undoTaken.Agrees := h.frame s.sameBinding_undoTaken

theorem agrees_resetWarm (h : s.Agrees) (straps : Straps) : (s.resetWarm straps).Agrees :=
  agrees_warmStart
    (s := { s with supply.save := s.supply.save.map fun v => { v with replyTo := none } })
    (h.frame (sameBinding_of_engine rfl rfl)) straps

/-! ### Retention (R192) -/

/-- Retention stands after a command only where it stood before, or where a cold start has set it. -/
theorem Move.retention (hs : s.StandsStopped) (hm : Move s t) (ht : t.supply.retention = true) :
    s.supply.retention = true ∨ ∃ straps, t = s.undoTaken.restored.coldStart straps := by
  have handled {u : State} (h : Handling s u) (hu : u.supply.retention = true) : s.supply.retention = true := by
    have hsame := congrArg (fun v : State => v.supply.retention) h.frame
    exact hsame.symm.trans hu
  cases hm with
  | handled _ h => exact .inl (handled h ht)
  | answered _ h =>
    rw [answered_frame] at ht
    exact .inl (handled h ht)
  | swept _ h => exact .inl (handled h ht)
  | @taken p k r f hk ha hg =>
    rw [answered_frame] at ht
    have hsame := congrArg (fun v : State => v.supply.retention) (taking_of_not_arbitrated s r p hk ha).frame
    exact .inl (hsame.symm.trans ht)
  | saveEnds hv =>
    rw [answerSave_frame] at ht
    exact .inl ht
  | byteReceived p b =>
    rw [receiveByte_frame, settleFrame_frame] at ht
    exact .inl ht
  | frameEnds hl =>
    rw [endFrame_frame] at ht
    exact .inl ht
  | replySent hl =>
    rw [endReply_frame] at ht
    exact .inl ht
  | succeeds content hrun hx =>
    rw [(writes_succeed _ _ _).supply] at ht
    exact .inl ht
  | @attemptFails x hrun hx =>
    obtain ⟨-, heq⟩ | ⟨-, heq⟩ := s.attemptFails_cases x
    · rw [heq] at ht
      exact .inl ht
    · rw [heq, (writes_fail _ _).supply] at ht
      exact .inl ht
  | noticeTaken hn =>
    rw [takeNotice_frame] at ht
    exact .inl ht
  | retentionLost h => cases ht
  | warmReturn straps h hr => exact .inl hr
  | coldReturn straps h hr => exact .inr ⟨straps, rfl⟩
  | resetWarm straps h => exact .inl (hs.1 h).1
  | resetCold straps h => exact .inl (hs.1 h).1
  | _ => exact .inl ht

/-! ### The commands of the ports and of the store (R173 to R176, R194) -/

section Commands

variable (hs : s.Agrees)
include hs

theorem AgreesBut.same (he : t.engine = s.engine) (hm : t.settings.modules = s.settings.modules) : t.Agrees :=
  hs.frame (sameBinding_of_engine he hm)

theorem agrees_execSaveSettings {p : PortId} (h : execSaveSettings p s = .next t) : t.Agrees := by
  unfold execSaveSettings at h
  repeat' split at h
  all_goals cases h
  · exact hs
  · exact hs
  · exact hs.frame (s.sameBinding_answered p _ .outOfRange [])
  · exact hs.frame (s.sameBinding_answered p _ .saveBusy [])
  · exact hs.same rfl rfl

theorem agrees_execSaveComplete {ok : Bool} (h : execSaveComplete ok s = .next t) : t.Agrees := by
  unfold execSaveComplete at h
  split at h
  · cases h
    exact hs
  · cases h
    rw [answerSave_frame]
    exact hs.same rfl rfl

theorem agrees_execPortFrame {p : PortId} (h : execPortFrame p s = .next t) : t.Agrees := by
  unfold execPortFrame at h
  split at h
  · cases h
    split
    · exact hs.frame (s.sameBinding_endFrame p _)
    · exact hs
  · cases h
    exact hs

theorem agrees_execFrameGapTimeout {p : PortId} (h : execFrameGapTimeout p s = .next t) : t.Agrees := by
  unfold execFrameGapTimeout at h
  split at h
  · cases h
    split
    · exact hs
    · exact hs.same rfl rfl
  · cases h
    exact hs

theorem agrees_execReplySent {p : PortId} (h : execReplySent p s = .next t) : t.Agrees := by
  unfold execReplySent at h
  split at h
  · cases h
    exact hs.frame (s.sameBinding_endReply p _)
  · cases h
    exact hs

theorem agrees_execPortByteReceived {p : PortId} {b : Byte} (h : execPortByteReceived p b s = .next t) : t.Agrees := by
  cases h
  exact hs.frame (s.sameBinding_receive p b)

/-! ### The commands of the hand-over list (R27, R119, R120) -/

theorem agrees_execPresent (h : execPresent s = .next t) : t.Agrees := by
  cases h
  refine agrees_grantItem hs fun item handling hf u hu => ?_
  split at hf <;> cases hf
  exact agrees_presentation hu _ _ _

theorem agrees_execHeldPresentRefused (h : execHeldPresentRefused s = .next t) : t.Agrees := by
  unfold execHeldPresentRefused at h
  split at h
  · cases h
    split
    · exact (hs.frame (s.sameBinding_indicate _ _ _)).frame (sameBinding_popHead _)
    · exact hs
  · cases h
    exact hs

theorem agrees_execDoorOpen (h : execDoorOpen s = .next t) : t.Agrees := by
  cases h
  refine agrees_grantItem hs fun item handling hf u hu => ?_
  split at hf <;> cases hf
  exact agrees_doorOpenAt hu _

theorem agrees_execDoorClosed (h : execDoorClosed s = .next t) : t.Agrees := by
  cases h
  refine agrees_grantItem hs fun item handling hf u hu => ?_
  split at hf <;> cases hf
  exact agrees_doorClosedAt hu _

theorem agrees_execHandle (h : execHandle s = .next t) : t.Agrees := by
  cases h
  refine agrees_grantItem hs fun item handling hf u hu => ?_
  split at hf <;> cases hf
  exact agrees_handleAt hu _

theorem agrees_execReadStateReport (h : execReadStateReport s = .next t) : t.Agrees := by
  cases h
  refine agrees_grantItem hs fun item handling hf u hu => ?_
  split at hf <;> cases hf
  exact agrees_reconcile hu _ _ _

/-! ### The commands of the loop (sections 6.2 to 6.6) -/

theorem agrees_execPoll (h : execPoll s = .next t) : t.Agrees := by
  unfold execPoll at h
  split at h
  · cases h
    split
    · exact hs
    · exact hs.same rfl rfl
  · cases h
    exact hs

theorem agrees_execReadState (h : execReadState s = .next t) : t.Agrees := by
  unfold execReadState at h
  split at h
  · cases h
    split
    · exact hs.same rfl rfl
    · exact hs
  · cases h
    exact hs

theorem agrees_execLatch (h : execLatch s = .next t) : t.Agrees := by
  unfold execLatch at h
  split at h
  · cases h
    split
    · exact hs.same rfl rfl
    · exact hs
  · cases h
    exact hs

theorem agrees_execUnlatch (h : execUnlatch s = .next t) : t.Agrees := by
  unfold execUnlatch at h
  split at h
  · cases h
    split
    · exact hs.same rfl rfl
    · exact hs
  · cases h
    exact hs

theorem agrees_execHoldShow (h : execHoldShow s = .next t) : t.Agrees := by
  unfold execHoldShow at h
  split at h
  · cases h
    exact hs.same rfl rfl
  · cases h
    exact hs

theorem agrees_execClearShow (h : execClearShow s = .next t) : t.Agrees := by
  unfold execClearShow at h
  split at h
  · cases h
    exact hs.same rfl rfl
  · cases h
    exact hs

theorem agrees_execModuleReply {bytes : List Byte} (h : execModuleReply bytes s = .next t) : t.Agrees := by
  unfold execModuleReply at h
  repeat' split at h
  all_goals cases h
  · exact hs
  · exact hs
  · exact hs.frame (s.sameBinding_succeed _ _)
  · exact hs.frame (s.sameBinding_attemptFails _)

theorem agrees_execAttemptTimeout (h : execAttemptTimeout s = .next t) : t.Agrees := by
  unfold execAttemptTimeout at h
  split at h
  · cases h
    exact hs
  · cases h
    split
    · exact hs.frame (s.sameBinding_attemptFails _)
    · exact hs

theorem agrees_execFieldStartDelay (h : execFieldStartDelay s = .next t) : t.Agrees := by
  cases h
  split
  · exact hs.same rfl rfl
  · exact hs

/-! ### The commands of the notice unit (sections 9.2 to 9.6) -/

theorem agrees_execNoticeTaken (h : execNoticeTaken s = .next t) : t.Agrees := by
  unfold execNoticeTaken at h
  split at h
  · cases h
    exact hs
  · split at h
    · cases h
      rw [takeNotice_frame]
      exact hs.same rfl rfl
    · cases h
      exact hs

theorem agrees_execEscalationTick (h : execEscalationTick s = .next t) : t.Agrees := by
  cases h
  split
  · exact hs.same rfl rfl
  · exact hs

theorem agrees_execAlarmEscalated (h : execAlarmEscalated s = .next t) : t.Agrees := by
  cases h
  split
  · exact hs.same rfl rfl
  · exact hs

/-! ### The commands of the supply and clock unit (chapter 11) -/

theorem agrees_execDayClockTick (h : execDayClockTick s = .next t) : t.Agrees := by
  cases h
  split
  · exact hs.same rfl rfl
  · exact hs

theorem agrees_execSupplyHold (h : execSupplyHold s = .next t) : t.Agrees := by
  cases h
  split
  · exact hs.same rfl rfl
  · exact hs

theorem agrees_execRestoreTimerStart (h : execRestoreTimerStart s = .next t) : t.Agrees := by
  cases h
  split
  · exact hs
  · exact hs.same rfl rfl

theorem agrees_execRestoreTimerRestarted (h : execRestoreTimerRestarted s = .next t) : t.Agrees := by
  cases h
  split
  · exact hs
  · exact hs.same rfl rfl

theorem agrees_execSupplyNormal (h : execSupplyNormal s = .next t) : t.Agrees := by
  cases h
  split
  · exact hs.same rfl rfl
  · exact hs

theorem agrees_execSupplyDown (h : execSupplyDown s = .next t) : t.Agrees := by
  unfold execSupplyDown at h
  split at h
  · cases h
    exact hs.same rfl rfl
  · cases h
    exact hs.same rfl rfl
  · cases h
    exact hs

theorem agrees_execRetentionLost (h : execRetentionLost s = .next t) (ht : t.supply.retention = true) : t.Agrees := by
  unfold execRetentionLost at h
  split at h
  · cases h
    cases ht
  · cases h
    exact hs

theorem agrees_execReturnFromDown {straps : Straps} (h : execReturnFromDown straps s = .next t) : t.Agrees := by
  unfold execReturnFromDown at h
  dsimp only at h
  repeat' split at h
  all_goals cases h
  · exact (agrees_warmStart (s := s.undoTaken.restored) ((agrees_undoTaken hs).frame (sameBinding_of_engine rfl rfl))
      straps).notify _ _ _
  · exact agrees_coldStart _ straps
  · exact hs

theorem agrees_execResetAsserted (h : execResetAsserted s = .next t) : t.Agrees := by
  cases h
  split
  · exact hs.same rfl rfl
  · exact hs

theorem agrees_execResetReleased {straps : Straps} (h : execResetReleased straps s = .next t) : t.Agrees := by
  unfold execResetReleased at h
  repeat' split at h
  all_goals cases h
  · exact agrees_coldStart _ straps
  · exact agrees_resetWarm (agrees_undoTaken hs) straps
  · exact hs

/-! ### Every command -/

theorem agrees_row {p : PortId} {k : ReqKind} {f : Handler} (hk : handlerOf p k = some f)
    (h : exec (rowOf p k) s = .next t) : t.Agrees := by
  rw [exec_rowOf hk] at h
  cases h
  split
  next ha => exact agrees_grantRequest hk ha hs
  next ha => exact hs.frame (sameBinding_takeRequest hk (Bool.not_eq_true _ ▸ ha))

/-- The tables agree after a command, unless it has lost them. -/
theorem agrees_of_exec {c : Instr} (h : exec c s = .next t) (ht : t.supply.retention = true) : t.Agrees := by
  cases c
  case issueBand p => exact agrees_row hs (k := .issueBand) rfl h
  case addTime p => exact agrees_row hs (k := .addTime) rfl h
  case reissueBand p => exact agrees_row hs (k := .reissueBand) rfl h
  case revokeBand p => exact agrees_row hs (k := .revokeBand) rfl h
  case discardBand p => exact agrees_row hs (k := .discardBand) rfl h
  case queryBand p => exact agrees_row hs (k := .queryBand) rfl h
  case closeDay p => exact agrees_row hs (k := .closeDay) rfl h
  case settle p => exact agrees_row hs (k := .settle) rfl h
  case pay p => exact agrees_row hs (k := .pay) rfl h
  case collect p => exact agrees_row hs (k := .collect) rfl h
  case assignLocker p => exact agrees_row hs (k := .assignLocker) rfl h
  case openLocker p => exact agrees_row hs (k := .openLocker) rfl h
  case releaseLocker p => exact agrees_row hs (k := .releaseLocker) rfl h
  case rearmLocker p => exact agrees_row hs (k := .rearmLocker) rfl h
  case setLockerService p => exact agrees_row hs (k := .setLockerService) rfl h
  case queryLocker p => exact agrees_row hs (k := .queryLocker) rfl h
  case openCabin p => exact agrees_row hs (k := .openCabin) rfl h
  case setCabinService p => exact agrees_row hs (k := .setCabinService) rfl h
  case queryCabin p => exact agrees_row hs (k := .queryCabin) rfl h
  case setZone p => exact agrees_row hs (k := .setZone) rfl h
  case queryZone p => exact agrees_row hs (k := .queryZone) rfl h
  case setTariff p => exact agrees_row hs (k := .setTariff) rfl h
  case selectBank p => exact agrees_row hs (k := .selectBank) rfl h
  case setModules p => exact agrees_row hs (k := .setModules) rfl h
  case setWindows p => exact agrees_row hs (k := .setWindows) rfl h
  case setClock p => exact agrees_row hs (k := .setClock) rfl h
  case setWatch p => exact agrees_row hs (k := .setWatch) rfl h
  case clearWatch p => exact agrees_row hs (k := .clearWatch) rfl h
  case queryWatch p => exact agrees_row hs (k := .queryWatch) rfl h
  case readNotice p => exact agrees_row hs (k := .readNotice) rfl h
  case ackAlarm p => exact agrees_row hs (k := .ackAlarm) rfl h
  case setThreshold p => exact agrees_row hs (k := .setThreshold) rfl h
  case setNoticePriority p => exact agrees_row hs (k := .setNoticePriority) rfl h
  case holdModule p => exact agrees_row hs (k := .holdModule) rfl h
  case releaseModule p => exact agrees_row hs (k := .releaseModule) rfl h
  case queryModule p => exact agrees_row hs (k := .queryModule) rfl h
  case setPort p => exact agrees_row hs (k := .setPort) rfl h
  case trimClock p => exact agrees_row hs (k := .trimClock) rfl h
  case status p => exact agrees_row hs (k := .status) rfl h
  case saveSettings p => exact agrees_execSaveSettings hs h
  case saveComplete ok => exact agrees_execSaveComplete hs h
  case portFrame p => exact agrees_execPortFrame hs h
  case portByteReceived p b => exact agrees_execPortByteReceived hs h
  case frameGapTimeout p => exact agrees_execFrameGapTimeout hs h
  case replySent p => exact agrees_execReplySent hs h
  case present => exact agrees_execPresent hs h
  case heldPresentRefused => exact agrees_execHeldPresentRefused hs h
  case doorOpen => exact agrees_execDoorOpen hs h
  case doorClosed => exact agrees_execDoorClosed hs h
  case handle => exact agrees_execHandle hs h
  case readStateReport => exact agrees_execReadStateReport hs h
  case poll => exact agrees_execPoll hs h
  case readState => exact agrees_execReadState hs h
  case latch => exact agrees_execLatch hs h
  case unlatch => exact agrees_execUnlatch hs h
  case holdShow => exact agrees_execHoldShow hs h
  case clearShow => exact agrees_execClearShow hs h
  case moduleReply bytes => exact agrees_execModuleReply hs h
  case attemptTimeout => exact agrees_execAttemptTimeout hs h
  case fieldStartDelay => exact agrees_execFieldStartDelay hs h
  case noticeTaken => exact agrees_execNoticeTaken hs h
  case escalationTick => exact agrees_execEscalationTick hs h
  case alarmEscalated => exact agrees_execAlarmEscalated hs h
  case dayClockTick => exact agrees_execDayClockTick hs h
  case supplyHold => exact agrees_execSupplyHold hs h
  case restoreTimerStart => exact agrees_execRestoreTimerStart hs h
  case restoreTimerRestarted => exact agrees_execRestoreTimerRestarted hs h
  case supplyNormal => exact agrees_execSupplyNormal hs h
  case supplyDown => exact agrees_execSupplyDown hs h
  case returnFromDown straps => exact agrees_execReturnFromDown hs h
  case resetAsserted => exact agrees_execResetAsserted hs h
  case resetReleased straps => exact agrees_execResetReleased hs h
  case retentionLost => exact agrees_execRetentionLost hs h ht
  case latchDone =>
    cases h
    exact agrees_grantOutcome hs fun p u hu => agrees_latchDoneAt hu p
  case latchDoorOpen =>
    cases h
    exact agrees_grantOutcome hs fun p u hu => agrees_latchDoorOpenAt hu p
  case latchJammed | latchFailed =>
    cases h
    exact agrees_grantOutcome hs fun p u hu => agrees_latchFailsAt hu _ p
  case unlatchDone =>
    cases h
    exact agrees_grantOutcome hs fun p u hu => agrees_unlatchDoneAt hu p
  case unlatchJammed | unlatchFailed =>
    cases h
    exact agrees_grantOutcome hs fun p u hu => agrees_unlatchFailsAt hu _ p
  case sweepStep | sweepRoundComplete | openWindowExpiry | relockWindowExpiry | reservationLapsed | cabinOverhold | leaveLapsed
      | longStay =>
    cases h
    exact agrees_sweepWhen hs _

end Commands

theorem bindingTablesAgree_of_exec {c : Instr} (hs : s.StandsStopped) (ha : s.BindingTablesAgree)
    (h : exec c s = .next t) : t.BindingTablesAgree := fun ht => by
  obtain hret | ⟨straps, rfl⟩ := (move_of_exec h).retention hs ht
  · exact agrees_iff.1 (agrees_of_exec (agrees_iff.2 (ha hret)) h ht)
  · exact agrees_iff.1 (agrees_coldStart _ straps)

theorem bindingTablesAgree_of_step (hs : s.StandsStopped) (ha : s.BindingTablesAgree) (h : step s = .next t) :
    t.BindingTablesAgree := by
  unfold step at h
  split at h
  · cases h
    exact ha
  next rest _ =>
    have hrest : (s.withPending rest).BindingTablesAgree := fun hret =>
      agrees_iff.1 ((agrees_iff.2 (ha hret)).frame (sameBinding_of_engine rfl rfl))
    exact bindingTablesAgree_of_exec (s := s.withPending rest) hs hrest h

end State

end Sys2Proof.Machine
end

section
/-! PROOFS. The binding tables at every step, and binding and queueing as equations (R4, R14, R15, R17, R38, R39, R68, R125,
R126). -/

namespace Sys2Proof.Machine

namespace State

variable {s : State}

/-- A FAILED outcome handed over alone. -/
theorem handOver_failed (s : State) (cmd : Command) :
    s.handOver [.outcome cmd .failed] =
      { s with field.handover := s.field.handover ++ [.outcome cmd .failed],
               field.waitingHeld := if s.field.handover = [] then false else s.field.waitingHeld } := by
  have h := s.handOver_outcomes [cmd] .failed
  simpa using h

theorem unbindLocker_held {n h : Nat} {b : Band} (hheld : (s.locker n).holder = some h) (hb : s.band h = some b) :
    s.unbindLocker n =
      (s.setLocker n { s.locker n with holder := none, master := false }).setBand h
        (some { b with lockers := b.lockers.erase n }) := by
  rw [unbindLocker_eq, hheld]
  exact updBand_some _ ((s.setLocker_band n _ h).trans hb)

end State

/-- Settles O28: every command keeps the links between the tables and each record's fit; the equations are those of the
operations. -/
theorem bindingAndQueueingAreWhole : Obligations.BindingAndQueueingAreWhole := by
  unfold Obligations.BindingAndQueueingAreWhole
  refine ⟨fun s t ⟨hs, ha⟩ h => State.bindingTablesAgree_of_step hs ha h, fun n h b s h1 h2 hb => ⟨?_, fun hheld => ?_,
    fun hnone => ?_⟩, fun addr pos action s => ⟨fun hsilent hconf => ?_, fun hoff => ?_⟩⟩
  · exact State.bindLocker_of_band n hb
  · exact State.unbindLocker_held hheld hb
  · exact State.unbindLocker_unheld hnone
  · exact State.queueCommand_online pos action hsilent hconf
  · rw [State.queueCommand_offline pos action hoff]
    exact State.handOver_failed s _

end Sys2Proof.Machine
end
